-- ==== Sys2Proof/Word.lean ====
section
/-! DEFINITION. The word types: what the spec treats as bits. Counts, positions and exposure codes are integers. -/

namespace Sys2Proof

/-- A byte of a control link, of the pixel input or of a stream output (spec/11_formats.md). -/
abbrev Byte := BitVec 8

/-- A 32-bit count or time stamp: time base, frame sequence number, capture number (R1, R2, R3). -/
abbrev Word32 := BitVec 32

/-- One 12-bit pixel sample (R29). -/
abbrev Sample := BitVec 12

/-- One gyro rate as received, signed 16-bit (R113). -/
abbrev Rate := BitVec 16

/-- A set of event kinds: the kind at position n of Table 11-5 is bit n (R197). -/
abbrev KindSet := BitVec 20

end Sys2Proof
end

