-- ==== Sys2Proof/Syntax.lean ====
section
/-! DEFINITION. The commands of the block: one constructor of `Instr` for each row of spec/opcode_table.json. -/

namespace Sys2Proof

/-- The three ports, the part's side of Link A, B and C (spec/00_scope.md 5.5). -/
inductive Port where
  | a | b | c
  deriving DecidableEq, Repr

/-- The three lens actuators (R73). -/
inductive Actuator where
  | zoom | focus | iris
  deriving DecidableEq, Repr

/-- The level of the home sensor input of the zoom barrel: Home at or below the home point, Away above it. -/
inductive HomeLevel where
  | home | away
  deriving DecidableEq, Repr

/-- The commands. A request carries its port and its payload bytes: the request is taken whole at that moment (R174).
An event carries what the device that makes it delivers. -/
inductive Instr where
  | powerOnReset
  | transactionStart (p : Port)
  | transactionEnd (p : Port)
  /-- `number` is the command number byte, 0 or above 43. -/
  | badCommandRequest (p : Port) (number : Byte)
  | replyReady (p : Port)
  | replyEnd (p : Port)
  | prepare (p : Port) (payload : List Byte)
  | unprepare (p : Port) (payload : List Byte)
  | shoot (p : Port) (payload : List Byte)
  | stopBurst (p : Port) (payload : List Byte)
  | setPattern (p : Port) (payload : List Byte)
  | readStatistics (p : Port) (payload : List Byte)
  | aeLock (p : Port) (payload : List Byte)
  | aeUnlock (p : Port) (payload : List Byte)
  | getPlan (p : Port) (payload : List Byte)
  | extend (p : Port) (payload : List Byte)
  | retract (p : Port) (payload : List Byte)
  | zoomTo (p : Port) (payload : List Byte)
  | zoomRun (p : Port) (payload : List Byte)
  | zoomHalt (p : Port) (payload : List Byte)
  | focusTo (p : Port) (payload : List Byte)
  | getLensState (p : Port) (payload : List Byte)
  | afStart (p : Port) (payload : List Byte)
  | afCancel (p : Port) (payload : List Byte)
  | readSweepLog (p : Port) (payload : List Byte)
  | calibrateBias (p : Port) (payload : List Byte)
  | calCancel (p : Port) (payload : List Byte)
  | stabRestart (p : Port) (payload : List Byte)
  | getStabState (p : Port) (payload : List Byte)
  | openDrain (p : Port) (payload : List Byte)
  | openReview (p : Port) (payload : List Byte)
  | closeStream (p : Port) (payload : List Byte)
  | rejoin (p : Port) (payload : List Byte)
  | releaseSlot (p : Port) (payload : List Byte)
  | clearStore (p : Port) (payload : List Byte)
  | getStoreState (p : Port) (payload : List Byte)
  | readSlots (p : Port) (payload : List Byte)
  | takeRecord (p : Port) (payload : List Byte)
  | queueStatus (p : Port) (payload : List Byte)
  | setSettings (p : Port) (payload : List Byte)
  | getSettings (p : Port) (payload : List Byte)
  | getState (p : Port) (payload : List Byte)
  | nudge (p : Port) (payload : List Byte)
  | softReset (p : Port) (payload : List Byte)
  | readEvents (p : Port) (payload : List Byte)
  | ackEvents (p : Port) (payload : List Byte)
  | setEventMask (p : Port) (payload : List Byte)
  | clearOccurrences (p : Port) (payload : List Byte)
  | reloadTable (p : Port) (payload : List Byte)
  | quietTimer1Expiry
  | quietTimer2Expiry
  | liveSettingsTransfer
  /-- `which` picks the outstanding transfer that the sensor acknowledges, 0 the oldest. -/
  | settingsAcknowledgement (which : Nat)
  | liveExposureStart
  | liveExposureEnd
  /-- One sample, and the bytes of the 12-bit packed form that its arrival completes. -/
  | pixelData (v : Sample) (bytes : List Byte)
  | frameEndMarker
  | readoutTimeout
  | captureRelease
  | secondTransferTimeout
  | captureTrigger
  | closeCommand
  | captureExposureEnd
  | reopenSettleExpiry
  | abortReopen
  /-- One step, with the level of the home sensor as read after it. -/
  | actuatorStep (which : Actuator) (level : HomeLevel)
  /-- The rates of gyro axis 1 and axis 2. -/
  | gyroSampleReceived (u v : Rate)
  | gyroSampleMissed
  | recenterTick
  | calibrationTimeout
  | storeStartupEnd
  | trickleExpiry
  | grantEnd
  | dramWake
  | streamByte (p : Port)
  | stallLimitExpiry (p : Port)
  | staleTimerExpiry
  /-- The bytes the flash delivered. -/
  | tableLoadEnd (image : List Byte)
  /-- A byte time ends; `din` is the byte on data in. -/
  | linkByteEnd (p : Port) (din : Byte)
  deriving DecidableEq, Repr

end Sys2Proof
end

