-- ==== Sys2Proof/Decode.lean ====
section
/-! DEFINITION. Words to commands. The table gives no row any bits, so no word spells a command; the bytes of a request are
decoded by the Link Ports themselves (Machine/Operands.lean, Machine/LinkTransactions.lean). -/

namespace Sys2Proof

/-- The command that a word spells by the table's bits: no row of spec/opcode_table.json gives bits. -/
def decodeTableWord (_nbits _w : Nat) : Option Instr := none

end Sys2Proof
end

