-- ==== Sys2Proof/Config.lean ====
section
/-! DEFINITION. What the manual leaves open, as constants with no body: nothing can be proved of their values. -/

namespace Sys2Proof.Config

/-- What a DRAM byte that no grant has written reads as, by power-on count and address: "The DRAM contents are
undefined" after power-on (R159). Log 7. -/
opaque dramPowerOn : Nat → Nat → Byte

/-- Whether the first gyro sample ever received is still, when no sample was received before it (R127 compares with
"the sample received before it"; the spec states no result when there is none). Log 12. -/
opaque stillWithoutEarlier : Nat → Bool

/-- The zoom position whose table values Lens Drive gives while the zoom count stands below 0 (R71 lets the count run to
−72; R83 gives the values from 0 up only). It is used clamped to 0..2048. Log 17. -/
opaque zoomBelowZero : Int → Nat

/-- The two bytes that report a zoom count below 0 in GET LENS STATE, an unsigned field (Section 11.7, R197). Log 18. -/
opaque negativeCount : Int → BitVec 16

/-- Whether a part of a millisecond counts as a whole one where a reply gives a time in ms (Table 11-7). Log 19. -/
opaque partOfMsCounts : Nat → Bool

/-- Which of several matters of one moment is taken first where the spec names no order ("in an order this document does not
define", R103; "either first", R43), by the model's counter of such choices. Log 3. -/
opaque firstOf : Nat → Nat

end Sys2Proof.Config
end

