-- ==== Sys2Proof/Machine/Types.lean ====
section
/-! DEFINITION. The plain data of each block: enumerations, records and tables, block by block. All times are deadlines in
units of 10 ns on `State.clock`; a stopped timer is `none`. -/

namespace Sys2Proof.Machine

/-- One value for each port (R177: the per-port matters). -/
structure PerPort (α : Type) where
  a : α
  b : α
  c : α
  deriving DecidableEq, Repr

/-! ### Link Ports (Chapter 9) -/

/-- Reply statuses, Table 9-4. -/
inductive Status where
  | ok | adjusted | later | wrongState | badArgument | badLength | badCommand | portCut
  deriving DecidableEq, Repr

/-- Event kinds in the order of Table 11-5. -/
inductive Kind where
  | captureStored | queueReady | queueStale | afLocked | afFailed | lensReady | lensStowed | zoomReached | biasCalEnded
  | exposureLimit | burstEnded | streamEnded | storeClearedUnread | recenterUrgent | framePartial | settingsLate | streamCut
  | tableBad | lensFault | gyroFault
  deriving DecidableEq, Repr

/-- A reply fixed at the taking (R174, R175): its bytes from the start marker on, and the capture number of the record it
carries, if it is a TAKE RECORD reply with one (R167). -/
structure Reply where
  bytes : List Byte
  takes : Option Word32
  deriving DecidableEq, Repr

/-- Port transaction states, Table 9-1, with the request being received or the reply being sent. -/
inductive Txn where
  | deselected
  | command
  | length (number : Byte)
  /-- `got` are the payload bytes received so far, `want` how many are still to come. -/
  | payload (number : Byte) (got : List Byte) (want : Nat)
  /-- The reply is ready at `due` at the latest. -/
  | preparing (reply : Reply) (due : Nat)
  /-- `sent` bytes of the reply have been clocked out. -/
  | reply (reply : Reply) (sent : Nat)
  | finished
  deriving DecidableEq, Repr

structure Links where
  txn : PerPort Txn
  pend : PerPort KindSet
  mask : PerPort KindSet
  line : PerPort Bool
  occ : KindSet
  deriving DecidableEq, Repr

/-! ### Lens table (Chapter 10) -/

/-- One knot of the zoom table; also the six interpolated values at a zoom position (R83). -/
structure Knot where
  amin : Int
  tlimit : Int
  inf : Int
  near : Int
  gain : Int
  focal : Int
  deriving DecidableEq, Repr

/-- A whole lens table: globals and 33 knots, with the identifier and revision of its image (R189). -/
structure LensTable where
  ident : Nat
  revision : Nat
  zwide : Int
  park : Int
  knots : List Knot
  deriving DecidableEq, Repr

inductive TableSource where
  | none | flash | default
  deriving DecidableEq, Repr

/-- Last result of a load (R189, R192); the checks on a knot carry its index. -/
inductive LoadResult where
  | none | passed | crcMismatch | knotCount | zwideRange | parkRange
  | aminRange (knot : Nat) | tlimitRange (knot : Nat) | focusRange (knot : Nat) | nearBelowInf (knot : Nat)
  deriving DecidableEq, Repr

structure Loader where
  table : LensTable
  source : TableSource
  /-- The end of the load in progress; `none` is load state Idle. -/
  loading : Option Nat
  result : LoadResult
  deriving DecidableEq, Repr

/-! ### Exposure Planner (Chapter 3) -/

inductive Program where
  | auto | timePriority | aperturePriority | manual
  deriving DecidableEq, Repr

/-- AE lock and its source (R49). -/
inductive LockSource where
  | none | command | prepare
  deriving DecidableEq, Repr

/-- A plan, Table 3-2, with the Amin(z) used (GET PLAN carries it). -/
structure Plan where
  formed : Bool
  t : Int
  p : Int
  a : Int
  amin : Int
  g : Int
  q : Int
  tcap : Int
  credit : Int
  qraw : Int
  isOver : Bool
  isUnder : Bool
  program : Program
  gmax : Int
  deriving DecidableEq, Repr

structure Planner where
  qraw : Int
  qreq : Int
  offset : Int
  lastMetered : Option Word32
  fastStart : Bool
  lock : LockSource
  penalty : Bool
  pmax : Int
  /-- Amin(z) and Tlimit(z) as last taken from Lens Drive, once it has given them (R64, R66). -/
  given : Option (Int × Int)
  capPlan : Plan
  livePlan : Plan
  deriving DecidableEq, Repr

/-! ### Frame Control (Chapter 1) -/

inductive Cadence where
  | liveFast | liveSlow | still
  deriving DecidableEq, Repr

inductive FcState where
  | idle | live | arming | exposing | reading | reopening
  deriving DecidableEq, Repr

inductive FrameKind where
  | live | capture
  deriving DecidableEq, Repr

inductive BurstMode where
  | single | burstLow | burstHigh
  deriving DecidableEq, Repr

inductive ShotPriority where
  | focus | release
  deriving DecidableEq, Repr

inductive Shutter where
  | opened | closing | closed | reopening
  deriving DecidableEq, Repr

/-- The settings in effect at the sensor (R10). -/
structure InEffect where
  t : Int
  g : Int
  kind : FrameKind
  gmax : Int
  deriving DecidableEq, Repr

/-- A settings transfer on the sensor control link that has begun and is not acknowledged (R9, R21). -/
structure Transfer where
  id : Nat
  values : InEffect
  deriving DecidableEq, Repr

/-- The next live frame (R9). A planned frame's transfer begins at `base` + frame period − `lead`; its scheduled start is
`base` + frame period. Once the transfer has begun the start and the latched values are fixed. -/
inductive NextFrame where
  | none
  | planned (base lead : Nat)
  | sent (start : Nat) (transfer : Transfer) (acked : Bool)
  deriving DecidableEq, Repr

inductive FramePhase where
  | exposing | reading
  deriving DecidableEq, Repr

/-- The frame on the pixel input: exposing until its exposure end, then reading until its readout limit (R9, R11). -/
structure InputFrame where
  kind : FrameKind
  phase : FramePhase
  limit : Nat
  deriving DecidableEq, Repr

/-- The capture in flight (R20 to R22, R62): the plan latched at the gate pass and the progress of its outputs. -/
structure Capture where
  mode : BurstMode
  plan : Plan
  supportOff : Bool
  lead : Nat
  travel : Nat
  transfer : Transfer
  second : Option Nat
  acked : Bool
  late : Bool
  releaseAt : Option Nat
  secondAt : Option Nat
  released : Nat
  triggerAt : Option Nat
  closeAt : Option Nat
  closed : Option Nat
  deriving DecidableEq, Repr

/-- The exposure start notice, Table 1-3: what Frame Control hands to the other blocks at a frame's exposure start (R12). -/
structure StartNotice where
  seq : Word32
  stamp : Word32
  kind : FrameKind
  t : Int
  g : Int
  gmax : Int
  late : Bool
  deriving DecidableEq, Repr

structure FrameControl where
  fseq : Word32
  capNo : Word32
  burstCount : Nat
  cadence : Cadence
  tlive : Int
  started : Bool
  quiet1 : Option Nat
  quiet2 : Option Nat
  state : FcState
  prepare : PerPort Bool
  owed : Nat
  continuous : Bool
  inEffect : InEffect
  next : NextFrame
  frame : Option InputFrame
  xfers : List Transfer
  xferId : Nat
  cap : Option Capture
  shutter : Shutter
  settle : Option Nat
  reopenAt : Option Nat
  /-- The last exposure start notice given (R12). -/
  notice : Option StartNotice
  deriving DecidableEq, Repr

/-- Gate conditions in the order of Table 1-6. -/
inductive WaitReason where
  | noShots | lensNotReady | lensMoving | noFreeSlot | storeNotReady | recenterBacklog | calibrating | focusing
  deriving DecidableEq, Repr

/-! ### Statistics Unit (Chapter 2) -/

/-- The accumulators of one metering zone (R31). -/
structure Zone where
  sum : Nat
  count : Nat
  min : Nat
  max : Nat
  high : Nat
  deriving DecidableEq, Repr

/-- One bank: 35 zones and nine feature counts (R34). -/
structure Bank where
  zones : List Zone
  feats : List Nat
  deriving DecidableEq, Repr

/-- What the unit latches at an exposure start (R28). -/
structure Geometry where
  w : Nat
  h : Nat
  phase : Nat
  clip : Nat
  contrast : Nat
  left : Nat
  top : Nat
  width : Nat
  height : Nat
  deriving DecidableEq, Repr

/-- Flags of a frame (R35, R36, R38). -/
structure FrameFlags where
  incomplete : Bool
  settingsLate : Bool
  irisMoved : Bool
  focusMoved : Bool
  zoomMoved : Bool
  recentered : Bool
  capture : Bool
  deriving DecidableEq, Repr

/-- The frame in progress (R34, R35): its identity, flags, latched geometry, and the samples counted so far. `spanOpen` is
true from its exposure start to its exposure end (R36). -/
structure FrameInProgress where
  seq : Word32
  stamp : Word32
  kind : FrameKind
  t : Int
  a : Int
  g : Int
  q : Int
  flags : FrameFlags
  spanOpen : Bool
  geo : Geometry
  samples : Nat
  /-- Row, column and value of the last green sample. -/
  prev : Option (Nat × Nat × Nat)
  deriving DecidableEq, Repr

/-- The Last Statistics record (R38). -/
structure StatRecord where
  seq : Word32
  stamp : Word32
  kind : FrameKind
  t : Int
  a : Int
  g : Int
  q : Int
  flags : FrameFlags
  aeEligible : Bool
  afEligible : Bool
  m : Nat
  pattern : Nat
  h : Nat
  n : Nat
  bank : Bank
  deriving DecidableEq, Repr

structure Statistics where
  active : Bank
  completed : Bank
  fip : Option FrameInProgress
  last : Option StatRecord
  patterns : List (List Nat)
  focusStamp : Option Word32
  deriving DecidableEq, Repr

/-! ### Lens Drive (Chapter 4) -/

inductive LensState where
  | homing | stowed | extending | ready | retracting | intermediate | faulted
  deriving DecidableEq, Repr

inductive LensCause where
  | none | homeStuck | homeNotFound | edgeMissing
  deriving DecidableEq, Repr

inductive Origin where
  | link | search | tracking | planner | lens
  deriving DecidableEq, Repr

/-- A pending target with its origin and speed level (R73). -/
structure PendingMove where
  target : Int
  origin : Origin
  speed : Nat
  deriving DecidableEq, Repr

/-- An actuator record (R73); position and target `none` are Unknown. -/
structure ActRecord where
  pos : Option Int
  target : Option Int
  inFlight : Bool
  origin : Origin
  speed : Nat
  pending : Option PendingMove
  stepAt : Option Nat
  deriving DecidableEq, Repr

/-- Progress of the drives of homing, extend and retract (R68, R69, R71). -/
inductive Drive where
  | none
  /-- Homing, still: the table load has not ended (R68). -/
  | homeWait
  /-- Stop phase, with the focus and iris steps left. -/
  | homeStop (focusLeft irisLeft : Nat)
  /-- Zoom phase, outward, steps made. -/
  | homeOut (steps : Nat)
  /-- Zoom phase, inward, steps made. -/
  | homeIn (steps : Nat)
  | homePark
  | extendMoves
  | extendFocus
  /-- Retract above the watching point. -/
  | retractFar
  /-- Retract, watching began at Home: outward, steps made. -/
  | retractOut (steps : Nat)
  | retractWatch
  /-- Retract, the zoom count rebased. -/
  | retractHomed
  deriving DecidableEq, Repr

structure Lens where
  state : LensState
  cause : LensCause
  zoom : ActRecord
  focus : ActRecord
  iris : ActRecord
  drive : Drive
  d : Option Int
  iv : Knot
  pmax : Int
  slip : Option Int
  slips : Nat
  sensor : HomeLevel
  deriving DecidableEq, Repr

/-! ### Focus Search (Chapter 5) -/

inductive AfState where
  | idle | coarse | fine | settle | locked | tracking | probe | failed
  deriving DecidableEq, Repr

inductive AfResult where
  | none | locked | lowContrast | aborted
  deriving DecidableEq, Repr

inductive SearchOrigin where
  | command | prepare | shoot
  deriving DecidableEq, Repr

inductive SweepPhase where
  | coarse | fine | probe
  deriving DecidableEq, Repr

/-- What Focus Search waits for: the completion of a move of its own, or the sample after it (R93, R97 to R99, R104). -/
inductive AfWait where
  | nothing
  | sampleMove
  | sample
  | settleBelow
  | settleBest
  | snap
  | failMove
  | probeFinal
  deriving DecidableEq, Repr

/-- An F with its focus position. -/
structure Peak where
  f : Nat
  pos : Int
  deriving DecidableEq, Repr

/-- The leg of a probe walk (R104): the first step, toward near after it, or the one reversed step. -/
inductive ProbeLeg where
  | first | toNear | reversed
  deriving DecidableEq, Repr

structure Probe where
  p0 : Int
  fref : Nat
  best : Peak
  step : Int
  prevF : Nat
  moves : Nat
  leg : ProbeLeg
  deriving DecidableEq, Repr

/-- One sweep log entry (R106). -/
structure SweepEntry where
  pos : Int
  f : Nat
  seq : Word32
  phase : SweepPhase
  deriving DecidableEq, Repr

structure FocusSearch where
  state : AfState
  result : AfResult
  origin : SearchOrigin
  coarse : Int
  fine : Int
  budget : Nat
  fmin : Nat
  /-- The latched zone selection: 0..8, or 9 for Multi. -/
  zone : Nat
  lo : Int
  hi : Int
  start : Int
  near : Bool
  reversed : Bool
  count : Nat
  low : Nat
  f0 : Nat
  f1 : Nat
  lastPos : Int
  peak : Option Peak
  best : Option Peak
  fineFrom : Int
  fineTo : Int
  fineTotal : Nat
  fineIx : Nat
  flock : Nat
  probe : Option Probe
  wait : AfWait
  log : List SweepEntry
  wrapped : Bool
  deriving DecidableEq, Repr

/-! ### Stabilizer (Chapter 6) -/

inductive StabMode where
  | off | continuous | shotOnly
  deriving DecidableEq, Repr

inductive StabState where
  | off | parked | calibrating | active | faulted
  deriving DecidableEq, Repr

inductive GyroCause where
  | none | stuckAxis1 | stuckAxis2 | stuckBoth | missing
  deriving DecidableEq, Repr

inductive CalStatus where
  | none | sampling | minMet | done | failed | aborted
  deriving DecidableEq, Repr

/-- The calibration record (R126 to R128); `limit` is its running timeout. -/
structure CalRecord where
  status : CalStatus
  start : Word32
  count : Nat
  sumX : Int
  sumY : Int
  result : Option (Int × Int)
  limit : Option Nat
  deriving DecidableEq, Repr

/-- One shift axis (R115, R116, R120). -/
structure ShiftAxis where
  theta : Int
  demand : Int
  target : Int
  excess : Int
  pan : Bool
  entry : Nat
  exit : Nat
  deriving DecidableEq, Repr

/-- A received gyro sample: the rates as received on axis 1 and 2, and the raw rates of axes X and Y (R114). -/
structure GyroSample where
  u : Int
  v : Int
  x : Int
  y : Int
  deriving DecidableEq, Repr

structure Stabilizer where
  state : StabState
  biasX : Int
  biasY : Int
  cal : CalRecord
  x : ShiftAxis
  y : ShiftAxis
  backlog : Nat
  tick : Option Nat
  urgent : Bool
  rx : Nat
  ry : Nat
  resFlag : Bool
  grade : Option Nat
  cause : GyroCause
  missed : Nat
  rep1 : Nat
  rep2 : Nat
  last : Option GyroSample
  orient : Int
  gain : Int
  /-- The end of the present request's 500 µs; `none` while sampling is stopped (R113). -/
  gyro : Option Nat
  /-- The request whose 500 µs end at `gyro` has gone out (R113, log 11). -/
  asked : Bool
  deriving DecidableEq, Repr

/-! ### Burst Store (Chapter 7) -/

inductive StoreState where
  | initialising | ready | selfRefresh
  deriving DecidableEq, Repr

inductive SlotState where
  | free | filling | full | draining | spent | releasing
  deriving DecidableEq, Repr

/-- A slot table entry (R142). -/
structure Slot where
  state : SlotState
  capNo : Option Word32
  bytes : Nat
  incomplete : Bool
  pins : Nat
  drainPort : Option Port
  deriving DecidableEq, Repr

inductive StreamKind where
  | drain | review
  deriving DecidableEq, Repr

inductive EndReason where
  | done | released | cleared | closed | cut
  deriving DecidableEq, Repr

/-- An open stream record (R149); `stall` is when its stall timer began to run (R153). -/
structure Stream where
  kind : StreamKind
  slot : Nat
  next : Nat
  endOff : Nat
  stall : Option Nat
  deriving DecidableEq, Repr

/-- Last end record of a port (R149). -/
structure LastEnd where
  slot : Nat
  kind : StreamKind
  reason : EndReason
  deriving DecidableEq, Repr

/-- Positions of the level-one ring (R147). -/
inductive RingPos where
  | ingest | portA | portB | portC | group
  deriving DecidableEq, Repr

/-- A requester of the arbiter (R145). -/
inductive Requester where
  | ingest | refresh | stream (p : Port)
  deriving DecidableEq, Repr

/-- The grant in progress (R135): whom, how many bytes, when it ends, and whether its data is discarded (R145, R152). -/
structure Grant where
  who : Requester
  bytes : Nat
  endAt : Nat
  discard : Bool
  deriving DecidableEq, Repr

structure Store where
  state : StoreState
  startup : Option Nat
  backlog : Nat
  urgent : Bool
  trickle : Option Nat
  slots : List Slot
  /-- The ingest buffer, oldest first: each byte with the DRAM address it is bound for (R144). -/
  buf : List Host.Cell
  /-- How many bytes at the front of the buffer are a remnant (R144). -/
  remnant : Nat
  ring1 : RingPos
  ring2 : Port
  grant : Option Grant
  wake : Option Nat
  streams : PerPort (Option Stream)
  fifos : PerPort (List Byte)
  cut : PerPort Bool
  ends : PerPort (Option LastEnd)
  /-- The DRAM bytes written so far, addresses strictly rising (R135). -/
  dram : List Host.Cell
  deriving DecidableEq, Repr

/-! ### Record Queue (Chapter 8) -/

/-- The exposure-start part of a capture record (R161). -/
structure StartPart where
  seq : Word32
  stamp : Word32
  t : Int
  a : Int
  g : Int
  q : Int
  isOver : Bool
  isUnder : Bool
  settingsLate : Bool
  zoom : Int
  focal : Int
  focus : Int
  d : Option Int
  afState : AfState
  afZone : Nat
  stabState : StabState
  deriving DecidableEq, Repr

/-- Residuals and grade of a capture (R119, R162). -/
structure Residual where
  rx : Nat
  ry : Nat
  grade : Nat
  deriving DecidableEq, Repr

/-- The exposure-end part (R162). -/
structure EndPart where
  stamp : Word32
  residual : Option Residual
  deriving DecidableEq, Repr

/-- The readout-end part (R163). -/
structure ReadPart where
  m : Nat
  h : Nat
  f : Nat
  timedOut : Bool
  bytes : Nat
  incomplete : Bool
  deriving DecidableEq, Repr

inductive RecordPhase where
  | gated | exposing | reading
  deriving DecidableEq, Repr

/-- The open record (R160). -/
structure OpenRecord where
  capNo : Word32
  slot : Nat
  burstIndex : Nat
  mode : BurstMode
  phase : RecordPhase
  withdrawn : Bool
  startPart : Option StartPart
  endPart : Option EndPart
  deriving DecidableEq, Repr

/-- A completed capture record, Table 8-2. -/
structure CaptureRecord where
  capNo : Word32
  slot : Nat
  burstIndex : Nat
  mode : BurstMode
  startPart : StartPart
  endPart : EndPart
  readPart : ReadPart
  deriving DecidableEq, Repr

structure RecordQueue where
  opened : Option OpenRecord
  queue : List CaptureRecord
  stale : Option Nat
  deriving DecidableEq, Repr

/-! ### Outputs -/

/-- What a step put out on the subordinate side, on the stream outputs and on data out (log 21). -/
inductive Output where
  /-- A settings transfer begins: T in microseconds, G, kind (R9, R21). -/
  | settings (micros : Nat) (g : Int) (kind : FrameKind)
  /-- A frame's trigger: its exposure starts (R9, R22). -/
  | trigger (kind : FrameKind)
  /-- The trigger pulse of a BurstHigh capture ends: the sensor ends the exposure (R22). -/
  | triggerEnd
  | closeShutter
  | reopenShutter
  /-- A step command to a motor, outward or toward higher positions when `up` (R73). -/
  | step (which : Actuator) (up : Bool)
  /-- A shift message: servo enable and the two targets (R117). -/
  | shift (enable : Bool) (x y : Int)
  | gyroRequest
  /-- The flash read command with address 0 (R190). -/
  | flashRead
  /-- The byte on data out in the byte time that ended. -/
  | dataOut (p : Port) (v : Byte)
  /-- A clock edge of a stream output: the byte with valid set, or valid clear (R148). -/
  | stream (p : Port) (v : Option Byte)
  deriving DecidableEq, Repr

end Sys2Proof.Machine
end

