-- ==== Sys2Proof/Machine/PowerOn.lean ====
section
/-! DEFINITION. The values at power-on, block by block: default settings, default lens table, cleared banks. -/

namespace Sys2Proof.Machine

/-! ### Units of time: 10 ns -/

/-- Microseconds in units of 10 ns. -/
def us (n : Nat) : Nat := n * 100

/-- Milliseconds in units of 10 ns. -/
def ms (n : Nat) : Nat := n * 100000

/-- Seconds in units of 10 ns. -/
def sec (n : Nat) : Nat := n * 100000000

/-! ### Settings (Table 11-3) -/

/-- What a setting may hold: a numeric range, or the codes of an enumeration. -/
inductive SettingRange where
  | range (lo hi : Int)
  | codes (l : List Int)
  deriving DecidableEq, Repr

/-- A setting with a numeric range and its default. -/
def numeric (lo hi dflt : Int) : SettingRange × Int := (.range lo hi, dflt)

/-- An enumerated setting: its codes and its default. -/
def coded (l : List Int) (dflt : Int) : SettingRange × Int := (.codes l, dflt)

/-- Settings 1..10, Frame Control (Table 1-7). -/
def settingRowsFrame : List (SettingRange × Int) :=
  [numeric 8000 100000 16667, numeric 8000 100000 33333, numeric 1 255 30, numeric 1 255 120, numeric 500 10000 1500,
    numeric 10 250 80, coded [0, 1, 2] 0, coded [0, 1] 0, numeric 500 8191 2200, numeric 1000 65535 12000]

/-- Settings 11..20, Statistics Unit (Table 2-1). -/
def settingRowsStatistics : List (SettingRange × Int) :=
  [numeric 64 8192 5184, numeric 64 8192 3888, coded [0, 1] 0, numeric 2048 4095 4000, numeric 1 1023 48,
    numeric 0 93 32, numeric 0 93 32, numeric 3 96 32, numeric 3 96 32, coded [0, 1, 2] 0]

/-- Settings 21..34, Exposure Planner (Table 3-1). -/
def settingRowsExposure : List (SettingRange × Int) :=
  [coded [0, 1, 2, 3] 0, numeric 80 320 176, numeric 0 6 0, numeric 0 96 0, numeric (-48) 48 0, numeric 64 3968 640,
    numeric 0 15 2, numeric 1 4 2, coded [0, 1] 1, numeric 1 64 8, numeric 0 96 80, numeric 48 128 96, coded [0, 1] 0,
    coded [0, 1] 0]

/-- Settings 35..40, Focus Search (Table 5-1). -/
def settingRowsFocus : List (SettingRange × Int) :=
  [coded [0, 1] 0, coded [0, 1, 2, 3, 4, 5, 6, 7, 8, 9] 4, numeric 8 64 24, numeric 1 16 4, numeric 16 64 48,
    numeric 1 65535 40]

/-- Settings 41..50, Stabilizer (Table 6-1). -/
def settingRowsStabilizer : List (SettingRange × Int) :=
  [coded [0, 1, 2] 1, coded [0, 90, 180, 270] 0, numeric 8 14 11, numeric 1 2047 1200, numeric 256 16384 2560,
    numeric 20 2000 200, numeric 5 255 25, numeric 1 1023 64, numeric 500 16000 4000, numeric 2 60 10]

/-- Settings 51..57, Burst Store and Record Queue (Tables 7-1, 8-1). -/
def settingRowsStore : List (SettingRange × Int) :=
  [numeric 10 156 78, numeric 1 255 20, coded [0, 1] 1, coded [0, 1] 1, coded [0, 1] 1, numeric 1 32 1, numeric 1 255 20]

/-- Range or codes, and default, of the settings 1..57 in order (Table 11-3). -/
def settingRows : List (SettingRange × Int) :=
  settingRowsFrame ++ settingRowsStatistics ++ settingRowsExposure ++ settingRowsFocus ++ settingRowsStabilizer
    ++ settingRowsStore

/-- The settings of the part, 57 values; setting index i stands at place i − 1. -/
def defaultSettings : List Int := settingRows.map Prod.snd

/-- Names of the setting indices (Table 11-3). -/
abbrev ixFastPeriod : Nat := 1
abbrev ixSlowPeriod : Nat := 2
abbrev ixQuietTime1 : Nat := 3
abbrev ixQuietTime2 : Nat := 4
abbrev ixSettingsLead : Nat := 5
abbrev ixReadoutLimit : Nat := 6
abbrev ixBurstMode : Nat := 7
abbrev ixShotPriority : Nat := 8
abbrev ixCloseTravel : Nat := 9
abbrev ixReopenSettle : Nat := 10
abbrev ixFrameWidth : Nat := 11
abbrev ixFrameHeight : Nat := 12
abbrev ixBayerPhase : Nat := 13
abbrev ixClipLevel : Nat := 14
abbrev ixContrast : Nat := 15
abbrev ixAfLeft : Nat := 16
abbrev ixAfTop : Nat := 17
abbrev ixAfWidth : Nat := 18
abbrev ixAfHeight : Nat := 19
abbrev ixPattern : Nat := 20
abbrev ixProgram : Nat := 21
abbrev ixUserT : Nat := 22
abbrev ixUserIris : Nat := 23
abbrev ixUserG : Nat := 24
abbrev ixCompensation : Nat := 25
abbrev ixTarget : Nat := 26
abbrev ixDeadband : Nat := 27
abbrev ixConvergence : Nat := 28
abbrev ixHighlightGuard : Nat := 29
abbrev ixHighlightThreshold : Nat := 30
abbrev ixGmax : Nat := 31
abbrev ixAmax : Nat := 32
abbrev ixAeLockOnPrepare : Nat := 33
abbrev ixSupportMode : Nat := 34
abbrev ixAfMode : Nat := 35
abbrev ixAfZone : Nat := 36
abbrev ixCoarseStep : Nat := 37
abbrev ixFineStep : Nat := 38
abbrev ixSampleBudget : Nat := 39
abbrev ixFmin : Nat := 40
abbrev ixStabMode : Nat := 41
abbrev ixOrientation : Nat := 42
abbrev ixLeakShift : Nat := 43
abbrev ixShiftLimit : Nat := 44
abbrev ixPanThreshold : Nat := 45
abbrev ixPanCount : Nat := 46
abbrev ixRecenterPeriod : Nat := 47
abbrev ixStillThreshold : Nat := 48
abbrev ixCalMinimum : Nat := 49
abbrev ixCalTimeout : Nat := 50
abbrev ixRefreshPeriod : Nat := 51
abbrev ixStallLimit : Nat := 52
abbrev ixRankA : Nat := 53
abbrev ixRankB : Nat := 54
abbrev ixRankC : Nat := 55
abbrev ixReadyThreshold : Nat := 56
abbrev ixStaleTime : Nat := 57

/-! ### Default lens table (R194) -/

/-- A row of Table 10-3. -/
def knotOf (amin tlimit inf near gain focal : Int) : Knot :=
  { amin := amin, tlimit := tlimit, inf := inf, near := near, gain := gain, focal := focal }

/-- Table 10-3, knots 0 to 32. -/
def defaultKnots : List Knot :=
  [ knotOf 48 232 96 240 300 24, knotOf 48 232 96 240 300 24, knotOf 48 232 96 240 300 24, knotOf 48 232 96 240 300 24,
    knotOf 48 232 96 240 300 24, knotOf 49 228 113 259 380 28, knotOf 50 224 130 278 460 33, knotOf 51 220 147 297 550 39,
    knotOf 53 217 164 316 650 46, knotOf 54 213 181 335 760 54, knotOf 56 209 198 354 880 63 ] ++
  [ knotOf 57 206 215 373 1010 74, knotOf 59 202 232 392 1150 86, knotOf 60 199 249 412 1300 100,
    knotOf 62 195 266 432 1460 116, knotOf 64 192 283 452 1630 135, knotOf 65 188 300 472 1800 156,
    knotOf 67 185 317 492 1970 180, knotOf 69 182 334 512 2140 206, knotOf 70 179 351 532 2310 234,
    knotOf 72 176 368 552 2480 264, knotOf 74 173 385 572 2660 302 ] ++
  [ knotOf 76 171 402 591 2880 340, knotOf 78 168 420 610 3100 380, knotOf 80 166 436 640 3240 420,
    knotOf 81 163 456 680 3400 465, knotOf 82 161 476 720 3560 512, knotOf 83 159 496 760 3720 560,
    knotOf 84 157 516 800 3880 612, knotOf 85 155 536 840 4040 668, knotOf 86 153 556 880 4200 728,
    knotOf 87 151 578 920 4360 794, knotOf 88 149 600 960 4520 864 ]

/-- The built-in default table (R194). -/
def defaultTable : LensTable :=
  { ident := 1, revision := 0, zwide := 256, park := 40, knots := defaultKnots }

/-! ### Blocks at power-on -/

/-- The same value for each port. -/
def PerPort.all {α : Type} (v : α) : PerPort α := { a := v, b := v, c := v }

/-- A zone after clearing (Table 2-4). -/
def Zone.cleared : Zone := { sum := 0, count := 0, min := 4095, max := 0, high := 0 }

/-- A bank after clearing (R31, R33). -/
def Bank.cleared : Bank := { zones := List.replicate 35 Zone.cleared, feats := List.replicate 9 0 }

/-- Table 2-6 and the text below it: centre-weighted, average, spot. -/
def defaultPatterns : List (List Nat) :=
  [ [1, 1, 1, 1, 1, 1, 1, 1, 1, 4, 4, 4, 1, 1, 1, 1, 4, 8, 4, 1, 1, 1, 1, 4, 4, 4, 1, 1, 1, 1, 1, 1, 1, 1, 1],
    List.replicate 35 1,
    List.replicate 17 0 ++ [15] ++ List.replicate 17 0 ]

/-- A plan with presence None, its other fields 0 (R64). -/
def Plan.none : Plan :=
  { formed := false, t := 0, p := 0, a := 0, amin := 0, g := 0, q := 0, tcap := 0, credit := 0, qraw := 0, isOver := false,
    isUnder := false, program := .auto, gmax := 0 }

/-- R27, R10. -/
def FrameControl.powerOn : FrameControl :=
  { fseq := 0, capNo := 0, burstCount := 0, cadence := .liveFast, tlive := 220, started := false, quiet1 := none,
    quiet2 := none, state := .idle, prepare := PerPort.all false, owed := 0, continuous := false,
    inEffect := { t := 160, g := 0, kind := .live, gmax := 80 }, next := .none, frame := none, xfers := [], xferId := 0,
    cap := none, shutter := .opened, settle := none, reopenAt := none, notice := none }

/-- R42. -/
def Statistics.powerOn : Statistics :=
  { active := Bank.cleared, completed := Bank.cleared, fip := none, last := none, patterns := defaultPatterns,
    focusStamp := none }

/-- R66. -/
def Planner.powerOn : Planner :=
  { qraw := 120, qreq := 120, offset := 0, lastMetered := none, fastStart := true, lock := .none, penalty := false,
    pmax := 0, given := none, capPlan := Plan.none, livePlan := Plan.none }

/-- An actuator before homing: position and target Unknown, not in flight (R88). Origin and speed level: log 20. -/
def ActRecord.powerOn : ActRecord :=
  { pos := none, target := none, inFlight := false, origin := .link, speed := 0, pending := none, stepAt := none }

/-- R88. -/
def Lens.powerOn : Lens :=
  { state := .homing, cause := .none, zoom := ActRecord.powerOn, focus := ActRecord.powerOn, iris := ActRecord.powerOn,
    drive := .homeWait, d := none, iv := knotOf 48 232 96 240 300 24, pmax := 0, slip := none, slips := 0, sensor := .home }

/-- R109. The fields that R109 does not name: log 20. -/
def FocusSearch.powerOn : FocusSearch :=
  { state := .idle, result := .none, origin := .command, coarse := 24, fine := 4, budget := 48, fmin := 40, zone := 4,
    lo := 0, hi := 0, start := 0, near := true, reversed := false, count := 0, low := 0, f0 := 0, f1 := 0, lastPos := 0,
    peak := none, best := none, fineFrom := 0, fineTo := 0, fineTotal := 0, fineIx := 0, flock := 0, probe := none,
    wait := .nothing, log := [], wrapped := false }

/-- An axis with θ, demand, target, excess, flag and counts at 0 (R134). -/
def ShiftAxis.zero : ShiftAxis :=
  { theta := 0, demand := 0, target := 0, excess := 0, pan := false, entry := 0, exit := 0 }

/-- R134; the gyro is sampled from power-on (R113). The start time of the calibration record and the orientation in use,
which R134 does not name: log 20. -/
def Stabilizer.powerOn : Stabilizer :=
  { state := .off, biasX := 0, biasY := 0,
    cal := { status := .none, start := 0, count := 0, sumX := 0, sumY := 0, result := none, limit := none },
    x := ShiftAxis.zero, y := ShiftAxis.zero, backlog := 0, tick := none, urgent := false, rx := 0, ry := 0,
    resFlag := false, grade := none, cause := .none, missed := 0, rep1 := 0, rep2 := 0, last := none, orient := 0,
    gain := 300, gyro := some (us 500), asked := true }

/-- A Free slot (R142). -/
def Slot.freed : Slot :=
  { state := .free, capNo := none, bytes := 0, incomplete := false, pins := 0, drainPort := none }

/-- R159; the start-up sequence takes 200 µs and 10 µs (R137). -/
def Store.powerOn : Store :=
  { state := .initialising, startup := some (us 210), backlog := 0, urgent := false, trickle := none,
    slots := List.replicate 32 Slot.freed, buf := [], remnant := 0, ring1 := .ingest, ring2 := .a, grant := none,
    wake := none, streams := PerPort.all none, fifos := PerPort.all [], cut := PerPort.all false,
    ends := PerPort.all none, dram := [] }

/-- R173. -/
def RecordQueue.powerOn : RecordQueue := { opened := none, queue := [], stale := none }

/-- R188. -/
def Links.powerOn : Links :=
  { txn := PerPort.all .deselected, pend := PerPort.all 0, mask := PerPort.all 0, line := PerPort.all false, occ := 0 }

/-- The 3,296 clocks of 80 ns of a table load, 263.68 µs (R190), in units of 10 ns. -/
def tableLoadSpan : Nat := 26368

/-- R189: a load starts at power-on. -/
def Loader.powerOn : Loader :=
  { table := defaultTable, source := .none, loading := some tableLoadSpan, result := .none }

end Sys2Proof.Machine
end

