-- ==== Sys2Proof/Machine/State.lean ====
section
/-! DEFINITION. The whole state, the stops, and the state after power-on reset. -/

namespace Sys2Proof.Machine

/-- Why a run could stop with a fault. The part stops on nothing (every request is answered, every event is acted on or
ignored), so there is no constructor: no meaning raises a fault, and none is needed. -/
inductive Fault where
  deriving DecidableEq, Repr

/-- Why a command could be refused by the model. -/
inductive Refusal where
  /-- Raised by `exec`'s arm of a command that has no meaning yet (safe: the run stops). No arm raises it now. -/
  | notModelled (mnemonic : String)
  deriving DecidableEq, Repr

/-- The state of the part, block by block, with the model's own fields (INVENTORY.md, "State"). -/
structure State where
  /-- The commands that wait, first in, first out. The model's own. -/
  pending : List Instr
  /-- Time since power-on in units of 10 ns; the time base of R1 is a view of it (log 1). -/
  clock : Nat
  settings : List Int
  fc : FrameControl
  st : Statistics
  ep : Planner
  lens : Lens
  af : FocusSearch
  stab : Stabilizer
  store : Store
  rq : RecordQueue
  links : Links
  loader : Loader
  /-- Count of power-ons, the argument of the free DRAM contents. The model's own (log 7). -/
  epoch : Nat
  /-- Counter of the free values drawn so far, the argument of the constants of `Config`. The model's own (log 3, log 12). -/
  free : Nat
  /-- The outputs of the last step. The model's own (log 21). -/
  outs : List Output
  deriving DecidableEq, Repr

/-- The part right after power-on (R27, R42, R66, R88, R109, R134, R159, R173, R188, R189, R196): the flash read and the
first gyro request begin at once. -/
def State.reset : State :=
  { pending := [], clock := 0, settings := defaultSettings, fc := FrameControl.powerOn, st := Statistics.powerOn,
    ep := Planner.powerOn, lens := Lens.powerOn, af := FocusSearch.powerOn, stab := Stabilizer.powerOn,
    store := Store.powerOn, rq := RecordQueue.powerOn, links := Links.powerOn, loader := Loader.powerOn,
    epoch := 0, free := 0, outs := [.flashRead, .gyroRequest] }

end Sys2Proof.Machine
end

