-- ==== Sys2Proof/Machine/Arith.lean ====
section
/-! DEFINITION. The arithmetic the chapters share: clamps, time codes, logarithm, interpolation, tracking, rounding. -/

namespace Sys2Proof.Machine

/-- A value below the range becomes its lower end and a value above it its upper end (spec/00_scope.md 5.4). -/
def clamp (lo hi x : Int) : Int := max lo (min hi x)

/-- µs(T) = (16 + T mod 16) × 2^(T div 16) / 16 (R60). -/
def microsOf (t : Int) : Nat := (16 + t.toNat % 16) * 2 ^ (t.toNat / 16) / 16

/-- Exposure time of a T code in units of 10 ns. -/
def exposureSpan (t : Int) : Nat := us (microsOf t)

/-- The largest T code in 80..80 + n whose µs value is at most the budget; 80 when none is. -/
def largestCode (budget : Nat) : Nat → Int
  | 0 => 80
  | n + 1 => if microsOf (81 + n) ≤ budget then 81 + n else largestCode budget n

/-- Tlive for a frame period in µs: the largest T code in 80..320 that fits the period less 2,000 µs (R4). -/
def tliveOf (period : Nat) : Int := largestCode (period - 2000) 240

/-- L(x), the piecewise linear 16 × log2 x (R45). -/
def logLight (x : Nat) : Int :=
  if x = 0 then 0
  else
    let p := Nat.log2 x
    (16 * p + 16 * (x - 2 ^ p) / 2 ^ p : Nat)

/-- ceil(x / 8) for the half-stop iris steps (R54, R55). -/
def ceilEighth (x : Int) : Int := (x + 7) / 8

/-- pmax: the largest iris position p in 0..6 with Amin(z) + 8p at or below Amax, or 0 (R51). -/
def pmaxOf (amin amax : Int) : Int := clamp 0 6 ((amax - amin) / 8)

/-! ### Zoom table (R83) -/

/-- Knot k of a table. -/
def knotAt (t : LensTable) (k : Nat) : Knot := t.knots.getD k (knotOf 0 0 0 0 0 0)

/-- The interpolated value of one field between two knots at distance f from the first (R83). -/
def interpField (a b f : Int) : Int := (64 * a + (b - a) * f + 32) / 64

/-- The six interpolated values at zoom position z from 0 up (R83). -/
def interpAt (t : LensTable) (z : Nat) : Knot :=
  let i := min (z / 64) 31
  let f : Int := z - 64 * i
  let a := knotAt t i
  let b := knotAt t (i + 1)
  { amin := interpField a.amin b.amin f, tlimit := interpField a.tlimit b.tlimit f, inf := interpField a.inf b.inf f,
    near := interpField a.near b.near f, gain := interpField a.gain b.gain f, focal := interpField a.focal b.focal f }

/-- The values Lens Drive gives at a zoom count: knot 0 while it is Unknown, R83 from 0 up, and those of a free zoom
position of the table below 0 (log 17). -/
def valuesAt (t : LensTable) (pos : Option Int) : Knot :=
  match pos with
  | none => knotAt t 0
  | some z => interpAt t (if z < 0 then min 2048 (Config.zoomBelowZero z) else z.toNat)

/-- The curve position track(z, d) from inf(z) and near(z) (R84). -/
def trackAt (iv : Knot) (d : Int) : Int := iv.inf + ((iv.near - iv.inf) * d + 127) / 255

/-- d from a focus position at the present zoom (R84). -/
def distanceOf (iv : Knot) (pos : Int) : Int :=
  let span := iv.near - iv.inf
  if span ≤ 0 then 0 else clamp 0 255 (((pos - iv.inf) * 255 + span / 2) / span)

/-! ### Stabilizer arithmetic -/

/-- Division rounded to the nearest integer, halves away from zero, by a positive divisor (R128). -/
def roundDiv (x : Int) (n : Nat) : Int :=
  if 0 ≤ x then (2 * x + n) / (2 * n) else -((2 * -x + n) / (2 * n))

/-- θ saturates at ±(2^31 − 1) (R115). -/
def saturateTheta (x : Int) : Int := clamp (-2147483647) 2147483647 x

/-- The negation of −32,768 is taken as 32,767 (R114). -/
def negRate (x : Int) : Int := if x = -32768 then 32767 else -x

/-- The orientation mapping of Table 6-4. -/
def mapRates (orientation u v : Int) : Int × Int :=
  if orientation = 90 then (v, negRate u)
  else if orientation = 180 then (negRate u, negRate v)
  else if orientation = 270 then (negRate v, u)
  else (u, v)

/-- Residual grade, Table 6-6. -/
def gradeOf (r : Nat) : Nat := if r ≤ 255 then 0 else if r ≤ 1023 then 1 else if r ≤ 4095 then 2 else 3

/-! ### Counters and stamps -/

/-- A counter that saturates at a limit (spec/00_scope.md 5.4). -/
def satAdd (limit x y : Nat) : Nat := min limit (x + y)

/-- Whether stamp x is later than stamp y: their difference modulo 2^32 lies in 1..2^31 − 1 (R37). -/
def laterStamp (x y : Word32) : Bool := 1 ≤ (x - y).toNat && (x - y).toNat ≤ 2147483647

/-- A span in units of 10 ns as whole milliseconds; whether a part of one counts is left open (log 19). -/
def wholeMs (n : Nat) : Nat :=
  if n % 100000 = 0 then n / 100000
  else n / 100000 + (if Config.partOfMsCounts n then 1 else 0)

/-- Replace the element at a place of a list. -/
def modifyAt {α : Type} (f : α → α) (l : List α) (i : Nat) : List α := l.modify i f

end Sys2Proof.Machine
end

