-- ==== Sys2Proof/Machine/Ops.lean ====
section
/-! DEFINITION. Operations every block uses: ports, settings, time, order of same-moment matters, events, replies. -/

namespace Sys2Proof.Machine

/-! ### Per-port values -/

def PerPort.get {α : Type} (x : PerPort α) : Port → α
  | .a => x.a
  | .b => x.b
  | .c => x.c

def PerPort.set {α : Type} (x : PerPort α) (p : Port) (v : α) : PerPort α :=
  match p with
  | .a => { x with a := v }
  | .b => { x with b := v }
  | .c => { x with c := v }

/-! ### Settings -/

/-- The value of a setting by its index (Table 11-3); index 1 stands first. -/
def settingOf (l : List Int) (i : Nat) : Int := l.getD (i - 1) 0

def State.setting (s : State) (i : Nat) : Int := settingOf s.settings i

def State.settingNat (s : State) (i : Nat) : Nat := (s.setting i).toNat

/-- A set flag of an On/Off setting. -/
def State.settingOn (s : State) (i : Nat) : Bool := s.setting i = 1

def State.burstMode (s : State) : BurstMode :=
  if s.setting ixBurstMode = 0 then .single else if s.setting ixBurstMode = 1 then .burstLow else .burstHigh

def State.shotPriority (s : State) : ShotPriority := if s.setting ixShotPriority = 0 then .focus else .release

def State.program (s : State) : Program :=
  if s.setting ixProgram = 0 then .auto
  else if s.setting ixProgram = 1 then .timePriority
  else if s.setting ixProgram = 2 then .aperturePriority
  else .manual

def State.afContinuous (s : State) : Bool := s.setting ixAfMode = 1

def State.stabMode (s : State) : StabMode :=
  if s.setting ixStabMode = 0 then .off else if s.setting ixStabMode = 1 then .continuous else .shotOnly

/-- Whether a port's stream rank is First (R147). -/
def State.promoted (s : State) : Port → Bool
  | .a => s.setting ixRankA = 0
  | .b => s.setting ixRankB = 0
  | .c => s.setting ixRankC = 0

/-! ### Time -/

/-- The time base: a 32-bit counter of microseconds, 0 at power-on, which wraps (R1). -/
def State.timeBase (s : State) : Word32 := BitVec.ofNat 32 (s.clock / 100)

/-- A timed event takes place at its moment: the clock has reached it (log 2). -/
def State.reach (s : State) (t : Nat) : State := { s with clock := max s.clock t }

/-- The outputs of the last step are dropped as a step begins (log 21). -/
def State.begin (s : State) : State := { s with outs := [] }

def State.put (s : State) (o : Output) : State := { s with outs := s.outs ++ [o] }

/-- Which of n same-moment matters is taken first: a free value (log 3). -/
def State.choice (s : State) (n : Nat) : Nat := Config.firstOf s.free % n

/-- The choice has been made: the next one is another free value. -/
def State.chosen (s : State) : State := { s with free := s.free + 1 }

/-! ### Events (R183, R184) -/

/-- Position of a kind in a set, Table 11-5. -/
def Kind.pos : Kind → Nat
  | .captureStored => 0 | .queueReady => 1 | .queueStale => 2 | .afLocked => 3 | .afFailed => 4 | .lensReady => 5
  | .lensStowed => 6 | .zoomReached => 7 | .biasCalEnded => 8 | .exposureLimit => 9 | .burstEnded => 10
  | .streamEnded => 11 | .storeClearedUnread => 12 | .recenterUrgent => 13 | .framePartial => 14 | .settingsLate => 15
  | .streamCut => 16 | .tableBad => 17 | .lensFault => 18 | .gyroFault => 19

/-- The set that holds one kind. -/
def Kind.bit (k : Kind) : KindSet := BitVec.twoPow 20 k.pos

/-- The Error class, Table 9-5: positions 14 to 19. -/
def errorKinds : KindSet := 0xFC000#20

/-- The line is active while pending set and mask have a kind in common (R184). -/
def lineOf (pend mask : KindSet) : Bool := pend &&& mask != 0

/-- The attention lines follow the sets (R184). -/
def Links.refresh (l : Links) : Links :=
  { l with line := { a := lineOf l.pend.a l.mask.a, b := lineOf l.pend.b l.mask.b, c := lineOf l.pend.c l.mask.c } }

/-- A kind raised to all ports (R183). -/
def State.raise (s : State) (k : Kind) : State :=
  { s with links := { s.links with
      pend := { a := s.links.pend.a ||| k.bit, b := s.links.pend.b ||| k.bit, c := s.links.pend.c ||| k.bit },
      occ := s.links.occ ||| k.bit }.refresh }

/-- STREAM_ENDED and STREAM_CUT are raised to the stream's port (R183). -/
def State.raiseTo (s : State) (p : Port) (k : Kind) : State :=
  { s with links := { s.links with
      pend := s.links.pend.set p (s.links.pend.get p ||| k.bit), occ := s.links.occ ||| k.bit }.refresh }

/-! ### Replies (R174, R175) -/

/-- Status codes, Table 11-1. -/
def Status.code : Status → Nat
  | .ok => 0 | .adjusted => 1 | .later => 2 | .wrongState => 3 | .badArgument => 4 | .badLength => 5 | .badCommand => 6
  | .portCut => 7

/-- What the owner of a request answers: the state after its effect, the status, the reply payload, and the capture
number of a record that the reply carries (R166, R167). -/
structure Answer where
  state : State
  status : Status
  payload : List Byte
  takes : Option Word32

/-- An answer without a reply payload. -/
def answer (s : State) (st : Status) : Answer := { state := s, status := st, payload := [], takes := none }

/-- A reading command's answer: OK with a payload. -/
def reading (s : State) (payload : List Byte) : Answer := { state := s, status := .ok, payload := payload, takes := none }

/-- Start marker, status, payload length, payload (Table 11-1). -/
def replyBytes (st : Status) (payload : List Byte) : List Byte :=
  [0x5A#8, BitVec.ofNat 8 st.code, BitVec.ofNat 8 payload.length] ++ payload

/-- The port goes to Preparing with the reply fixed; it is ready no later than 40 µs after the taking (R175). -/
def State.prepareReply (s : State) (p : Port) (r : Reply) : State :=
  { s with links := { s.links with txn := s.links.txn.set p (.preparing r (s.clock + us 40)) } }

/-- The reply of an answer is fixed at the taking (R174). -/
def Answer.sendTo (x : Answer) (p : Port) : State :=
  x.state.prepareReply p { bytes := replyBytes x.status x.payload, takes := x.takes }

/-- A request taken on a port: a payload length that Formats does not give is refused with BAD_LENGTH before the owner
sees the request (R176). `refused` is what a refusal still does (R6, activity). -/
def State.request (s : State) (p : Port) (lengthOk : Bool) (refused : State → State) (owner : State → Answer) :
    Host.Outcome State Fault Refusal :=
  .next ((if lengthOk then owner s.begin else answer (refused s.begin) .badLength).sendTo p)

/-! ### Shared conditions -/

def State.lensReady (s : State) : Bool := s.lens.state = .ready

/-- Prepare held: at least one of the three flags is set (R13). -/
def State.prepareHeld (s : State) : Bool := s.fc.prepare.a || s.fc.prepare.b || s.fc.prepare.c

/-- A burst is running while shots are owed or the continuous flag is set (R16). -/
def State.burstRunning (s : State) : Bool := 0 < s.fc.owed || s.fc.continuous

/-- A capture is in flight in ARMING, EXPOSING and READING (Table 1-1). -/
def State.inFlight (s : State) : Bool := s.fc.state = .arming || s.fc.state = .exposing || s.fc.state = .reading

/-- The capture hold runs from the gate pass to the capture's exposure end (R23). -/
def State.hold (s : State) : Bool := s.fc.state = .arming || s.fc.state = .exposing

/-- The capture exposure window, from exposure start to exposure end (R23). -/
def State.window (s : State) : Bool := s.fc.state = .exposing

/-- The busy conditions of R5. -/
def State.busy (s : State) : Bool :=
  s.prepareHeld || s.burstRunning || s.inFlight || s.fc.state = .reopening

/-- The frame period in force, in µs (R4); in STILL none is in force and the fast period stands in. -/
def State.period (s : State) : Nat :=
  if s.fc.cadence = .liveSlow then s.settingNat ixSlowPeriod else s.settingNat ixFastPeriod

end Sys2Proof.Machine
end

