-- ==== Sys2Proof/Machine/Flags.lean ====
section
/-! DEFINITION. Flags computed from the state: the gate conditions, the moves indication, the credit condition, and the
packing of flags into bytes. -/

namespace Sys2Proof.Machine

/-- Bits of a byte or set, the first at bit 0. -/
def packBits : List Bool → Nat
  | [] => 0
  | b :: rest => (if b then 1 else 0) + 2 * packBits rest

/-- In flight or with a pending target. -/
def ActRecord.busy (r : ActRecord) : Bool := r.inFlight || r.pending.isSome

/-- The moves-in-flight-or-pending indication (R75). -/
def State.moving (s : State) : Bool := s.lens.zoom.busy || s.lens.focus.busy || s.lens.iris.busy

/-- How many slots are Free (R142). -/
def State.freeSlots (s : State) : Nat := s.store.slots.countP (fun x => x.state = .free)

/-- A search or probe that the gate waits for with Focusing (Table 5-2). -/
def AfState.focusing : AfState → Bool
  | .coarse | .fine | .probe => true
  | .idle | .settle | .locked | .tracking | .failed => false

/-- States in which a search or probe runs (R100). -/
def AfState.searching : AfState → Bool
  | .coarse | .fine | .settle | .probe => true
  | .idle | .locked | .tracking | .failed => false

/-- A gate condition of Table 1-6 is met (R18). -/
def State.gateMet (s : State) : WaitReason → Bool
  | .noShots => s.burstRunning
  | .lensNotReady => s.lensReady
  | .lensMoving => !s.moving
  | .noFreeSlot => 0 < s.freeSlots
  | .storeNotReady => s.store.state = .ready
  | .recenterBacklog => !s.stab.urgent
  | .calibrating => s.stab.state ≠ .calibrating
  | .focusing => s.shotPriority = .release || !s.af.state.focusing

/-- The reasons in the order of Table 1-6. -/
def waitReasons : List WaitReason :=
  [.noShots, .lensNotReady, .lensMoving, .noFreeSlot, .storeNotReady, .recenterBacklog, .calibrating, .focusing]

/-- The wait-reason set as it stands (R18). -/
def State.waitSet (s : State) : List WaitReason := waitReasons.filter (fun r => !s.gateMet r)

/-- The gate passes when all eight conditions are met (R18). -/
def State.gateOpen (s : State) : Bool := waitReasons.all s.gateMet

/-- The credit condition: Active, no fault, panning on neither axis (R53). -/
def State.creditCondition (s : State) : Bool :=
  s.stab.state = .active && s.stab.cause = .none && !s.stab.x.pan && !s.stab.y.pan

/-- The class flag of the Error kinds (R185). -/
def errorPending (pend : KindSet) : Bool := pend &&& errorKinds != 0

/-- The class flag of the Information kinds (R185). -/
def informationPending (pend : KindSet) : Bool := pend &&& ~~~errorKinds != 0

/-- Bits 0..6 of the frame flags of READ STATISTICS (Section 11.6). -/
def FrameFlags.pack (f : FrameFlags) : Nat :=
  packBits [f.incomplete, f.settingsLate, f.irisMoved, f.focusMoved, f.zoomMoved, f.recentered, f.capture]

end Sys2Proof.Machine
end

