-- ==== Sys2Proof/Machine/SceneStatistics.lean ====
section
/-! DEFINITION. The Statistics Unit: metering zones, AF zones, the frame in progress and the Last Statistics record. -/

namespace Sys2Proof.Machine

/-! ### Geometry (R28 to R33) -/

/-- The settings the unit latches at an exposure start (R28). -/
def State.geometry (s : State) : Geometry :=
  { w := s.settingNat ixFrameWidth, h := s.settingNat ixFrameHeight, phase := s.settingNat ixBayerPhase,
    clip := s.settingNat ixClipLevel, contrast := s.settingNat ixContrast, left := s.settingNat ixAfLeft,
    top := s.settingNat ixAfTop, width := s.settingNat ixAfWidth, height := s.settingNat ixAfHeight }

/-- Green positions of the Bayer phases (Table 2-2). -/
def isGreen (phase row col : Nat) : Bool := (row + col) % 2 = phase

/-- The metering zone of a sample: 7 columns and 5 rows, the last ones taking the rest (R30). -/
def meterZone (g : Geometry) (row col : Nat) : Nat := 7 * min (row / (g.h / 5)) 4 + min (col / (g.w / 7)) 6

/-- Made even by dropping one if odd (R32). -/
def evenDown (x : Nat) : Nat := x - x % 2

/-- The bounds x0, x1 of the AF window in one dimension (R32). -/
def windowBound (size units : Nat) : Nat := evenDown (size * units / 96)

/-- Which of the three parts of x0..x1 − 1 a coordinate lies in: the third takes the rest (R33). -/
def third (x0 x1 x : Nat) : Option Nat :=
  if x < x0 ∨ x1 ≤ x then none
  else if x < x0 + (x1 - x0) / 3 then some 0
  else if x < x0 + 2 * ((x1 - x0) / 3) then some 1
  else some 2

/-- The AF zone of a sample, j = 3 × row + column, or none outside the window (R33). -/
def afZoneOf (g : Geometry) (row col : Nat) : Option Nat :=
  match third (windowBound g.h g.top) (windowBound g.h (g.top + g.height)) row,
    third (windowBound g.w g.left) (windowBound g.w (g.left + g.width)) col with
  | some r, some c => some (3 * r + c)
  | _, _ => none

/-- A green sample counted into its zone (R31). -/
def Zone.add (z : Zone) (clip v : Nat) : Zone :=
  { sum := z.sum + v, count := z.count + 1, min := Nat.min z.min v, max := Nat.max z.max v,
    high := z.high + (if clip ≤ v then 1 else 0) }

/-- Whether two greens of a row, two columns apart, in one AF zone, add to its feature count, and to which (R33). -/
def featureZone (g : Geometry) (prev : Option (Nat × Nat × Nat)) (row col v : Nat) : Option Nat :=
  match prev with
  | none => none
  | some (r, c, u) =>
    if r = row ∧ c + 2 = col ∧ g.contrast < (if u ≤ v then v - u else u - v) ∧ afZoneOf g r c = afZoneOf g row col then
      afZoneOf g row col
    else none

/-- One green sample at a row and column counted into a bank (R31, R33). -/
def Bank.add (b : Bank) (g : Geometry) (prev : Option (Nat × Nat × Nat)) (row col v : Nat) : Bank :=
  let zones := modifyAt (fun z => z.add g.clip v) b.zones (meterZone g row col)
  match featureZone g prev row col v with
  | none => { b with zones := zones }
  | some j => { zones := zones, feats := modifyAt (fun f => satAdd 65535 f 1) b.feats j }

/-- A pixel sample of the frame in readout: placed in raster order, counted if green and inside the frame (R29). -/
def Statistics.sample (st : Statistics) (v : Nat) : Statistics :=
  match st.fip with
  | none => st
  | some f =>
    let row := f.samples / f.geo.w
    let col := f.samples % f.geo.w
    if f.geo.w * f.geo.h ≤ f.samples then st
    else if isGreen f.geo.phase row col then
      { st with
        active := st.active.add f.geo f.prev row col v,
        fip := some { f with samples := f.samples + 1, prev := some (row, col, v) } }
    else { st with fip := some { f with samples := f.samples + 1 } }

/-! ### The frame in progress (R34 to R36) -/

/-- The applied A: Amin(z) + 8 × the iris position (R77). -/
def State.appliedA (s : State) : Int := s.lens.iv.amin + 8 * s.lens.iris.pos.getD 0

/-- The exposure start notice: the active bank is cleared and the frame in progress opened (R34, R35), marked with the moves
in flight (R36). -/
def State.statOpen (s : State) (n : StartNotice) : State :=
  { s with st := { s.st with
      active := Bank.cleared,
      fip := some {
        seq := n.seq, stamp := n.stamp, kind := n.kind, t := n.t, a := s.appliedA, g := n.g, q := n.t + n.g - s.appliedA,
        flags := { incomplete := false, settingsLate := n.late, irisMoved := s.lens.iris.inFlight,
                   focusMoved := s.lens.focus.inFlight, zoomMoved := s.lens.zoom.inFlight, recentered := false,
                   capture := n.kind = .capture },
        spanOpen := true, geo := s.geometry, samples := 0, prev := none } } }

/-- A change of the frame in progress. -/
def State.onFrame (s : State) (f : FrameInProgress → FrameInProgress) : State :=
  { s with st := { s.st with fip := s.st.fip.map f } }

/-- The exposure end notice ends the span for the movement flags (R36). -/
def State.statEndSpan (s : State) : State := s.onFrame (fun f => { f with spanOpen := false })

/-- A move start within the span sets its flag (R36). -/
def markMove (which : Actuator) (f : FrameInProgress) : FrameInProgress :=
  if f.spanOpen then
    { f with flags := match which with
        | .zoom => { f.flags with zoomMoved := true }
        | .focus => { f.flags with focusMoved := true }
        | .iris => { f.flags with irisMoved := true } }
  else f

def State.statMove (s : State) (which : Actuator) : State := s.onFrame (markMove which)

/-- A recenter step within the span sets Recentered (R36). -/
def State.statRecentered (s : State) : State :=
  s.onFrame (fun f => if f.spanOpen then { f with flags := { f.flags with recentered := true } } else f)

/-- A focus move completion renews the focus completion stamp (R37). -/
def State.statFocusDone (s : State) : State := { s with st := { s.st with focusStamp := some s.timeBase } }

/-! ### The Last Statistics record (R37, R38) -/

/-- The zone mean m_k (R38). -/
def Zone.mean (z : Zone) : Nat := z.sum / z.count

/-- M over the zones with a table's weights; every weight is 1 when they sum to 0 (R38). -/
def weightedMean (weights : List Nat) (zones : List Zone) : Nat :=
  let w := if weights.sum = 0 then List.replicate 35 1 else weights
  ((w.zip zones).map (fun x => x.1 * x.2.mean)).sum / w.sum

/-- AE eligible: neither Partial nor IrisMoved (R37). -/
def aeEligible (f : FrameFlags) : Bool := !f.incomplete && !f.irisMoved

/-- AF eligible: neither Partial, FocusMoved nor ZoomMoved, and exposed after the focus completion stamp (R37). -/
def afEligible (f : FrameFlags) (start : Word32) (stamp : Option Word32) : Bool :=
  !f.incomplete && !f.focusMoved && !f.zoomMoved &&
    match stamp with
    | none => true
    | some y => laterStamp start y

/-- The record formed from the bank just filled and the frame in progress (R38). -/
def State.statRecord (s : State) (f : FrameInProgress) (timedOut : Bool) : StatRecord :=
  let flags := { f.flags with incomplete := timedOut }
  let pattern := s.settingNat ixPattern
  { seq := f.seq, stamp := f.stamp, kind := f.kind, t := f.t, a := f.a, g := f.g, q := f.q, flags := flags,
    aeEligible := aeEligible flags, afEligible := afEligible flags f.stamp s.st.focusStamp,
    m := weightedMean (s.st.patterns.getD pattern []) s.st.active.zones, pattern := pattern,
    h := (s.st.active.zones.map Zone.high).sum, n := (s.st.active.zones.map Zone.count).sum, bank := s.st.active }

/-- The readout end: the banks swap roles, the record is formed and the frame in progress closed (R34). -/
def State.statSwap (s : State) (timedOut : Bool) : State :=
  match s.st.fip with
  | none => s
  | some f =>
    { s with st := { s.st with
        active := s.st.completed, completed := s.st.active, fip := none, last := some (s.statRecord f timedOut) } }

/-- The F of a zone selection: a zone's feature count, or the sum of the nine saturating at 65,535 for Multi (R93, R163). -/
def selectF (feats : List Nat) (zone : Nat) : Nat :=
  if zone = 9 then min 65535 feats.sum else feats.getD zone 0

/-- Soft reset (R41). -/
def Statistics.softReset (st : Statistics) : Statistics :=
  { st with active := Bank.cleared, completed := Bank.cleared, fip := none, last := none }

end Sys2Proof.Machine
end

