-- ==== Sys2Proof/Machine/Actuators.lean ====
section
/-! DEFINITION. The actuator records: how a request is taken, how a move starts, what a step does (R73 to R76). -/

namespace Sys2Proof.Machine

/-- The record of an actuator. -/
def State.act (s : State) : Actuator → ActRecord
  | .zoom => s.lens.zoom
  | .focus => s.lens.focus
  | .iris => s.lens.iris

def State.setAct (s : State) (which : Actuator) (r : ActRecord) : State :=
  match which with
  | .zoom => { s with lens := { s.lens with zoom := r } }
  | .focus => { s with lens := { s.lens with focus := r } }
  | .iris => { s with lens := { s.lens with iris := r } }

/-- Step interval, Table 4-2. -/
def stepInterval (which : Actuator) (speed : Nat) : Nat :=
  match which with
  | .zoom => if speed = 1 then us 4000 else if speed = 2 then us 2000 else if speed = 3 then us 1000 else us 500
  | .focus => us 250
  | .iris => us 8000

/-- Targets are clamped: zoom to Zwide..2048, focus to 0..1023, iris to 0..pmax (R76). -/
def State.clampTarget (s : State) (which : Actuator) (x : Int) : Int :=
  match which with
  | .zoom => clamp s.loader.table.zwide 2048 x
  | .focus => clamp 0 1023 x
  | .iris => clamp 0 s.lens.pmax x

/-- A completed move: the target equals the position, no step is due (R73). -/
def ActRecord.rest (r : ActRecord) : ActRecord := { r with inFlight := false, stepAt := none }

/-- A target given to an actuator without hold: it completes at once, replaces the target of the move in flight, or starts a
move (R73, R74). The result says whether the move completed at once. -/
def State.drive (s : State) (which : Actuator) (target : Int) (origin : Origin) (speed : Nat) : State × Bool :=
  let r := { s.act which with target := some target, origin := origin, speed := speed }
  if r.pos = some target then (s.setAct which r.rest, true)
  else if r.inFlight then (s.setAct which r, false)
  else
    ((s.setAct which { r with inFlight := true, stepAt := some (s.clock + stepInterval which speed) }).statMove which, false)

/-- A move request: clamped, then made pending while the capture hold is asserted, else taken as target (R74). -/
def State.give (s : State) (which : Actuator) (target : Int) (origin : Origin) (speed : Nat) : State × Bool :=
  let x := s.clampTarget which target
  if s.hold then
    (s.setAct which { s.act which with pending := some { target := x, origin := origin, speed := speed } }, false)
  else s.drive which x origin speed

/-- An iris request (R59, R85). -/
def State.giveIris (s : State) (target : Int) (origin : Origin) : State := (s.give .iris target origin 0).1

/-- One step toward the target: the position changes by one (R73). -/
def ActRecord.stepped (r : ActRecord) : ActRecord :=
  match r.pos, r.target with
  | some p, some t => { r with pos := some (if p < t then p + 1 else if t < p then p - 1 else p) }
  | _, _ => r

/-- Whether the step goes outward, toward higher positions. -/
def ActRecord.up (r : ActRecord) : Bool :=
  match r.pos, r.target with
  | some p, some t => p < t
  | _, _ => false

/-- A stop at the present step: the target becomes the position, pending targets are dropped (R72, R87). -/
def ActRecord.stop (r : ActRecord) : ActRecord := { r.rest with target := r.pos, pending := none }

end Sys2Proof.Machine
end

