-- ==== Sys2Proof/Machine/FocusSearching.lean ====
section
/-! DEFINITION. Focus Search: starting, samples, the coarse and fine pass, settle, lock and failure, aborts, tracking and
probes. -/

namespace Sys2Proof.Machine

/-! ### Focus moves -/

/-- A focus move request; a completion at once renews the focus completion stamp (R74, R77). The result says whether it
completed at once. -/
def State.giveFocus (s : State) (target : Int) (origin : Origin) : State × Bool :=
  let x := s.give .focus target origin 0
  if x.2 then (x.1.statFocusDone, true) else x

/-- The present focus position. -/
def State.focusPos (s : State) : Int := s.lens.focus.pos.getD 0

/-- The held distance index set from a position at the present zoom (R84). -/
def State.setDistance (s : State) (pos : Int) : State :=
  { s with lens := { s.lens with d := some (distanceOf s.lens.iv pos) } }

/-- The held distance index set to 32 (R69, R99). -/
def State.setDistance32 (s : State) : State := { s with lens := { s.lens with d := some 32 } }

/-- track(z, d) with d as held (R84). -/
def State.curve (s : State) : Int := trackAt s.lens.iv (s.lens.d.getD 0)

/-! ### Conditions -/

/-- A change of Focus Search's own state. -/
def State.withAf (s : State) (f : FocusSearch → FocusSearch) : State := { s with af := f s.af }

/-- The zone selection in use: the setting's in Idle, else the one latched (R93, R102). -/
def State.zoneInUse (s : State) : Nat := if s.af.state = .idle then s.settingNat ixAfZone else s.af.zone

/-- The conditions under which a lock is watched (R103). -/
def State.watching (s : State) : Bool := s.afContinuous && (s.prepareHeld || s.burstRunning)

/-- Locked and Tracking follow the conditions of R103. -/
def State.trackCheck (s : State) : State :=
  if s.af.state = .locked ∧ s.watching then s.withAf (fun a => { a with state := .tracking, low := 0 })
  else if s.af.state = .tracking ∧ ¬ s.watching then s.withAf (fun a => { a with state := .locked })
  else s

/-! ### Completions of own moves (R97 to R99, R105) -/

/-- The lock is reached or the probe ends: Tracking or Locked (R98, R105). -/
def State.lockedState (s : State) : AfState := if s.watching then .tracking else .locked

/-- The snap completes: the search locks (R98). -/
def State.afLock (s : State) : State :=
  (s.withAf (fun a => { a with
    state := s.lockedState, result := .locked, flock := (a.best.map Peak.f).getD 0, low := 0, wait := .nothing })).raise
    .afLocked

/-- The move to track(z, 32) completes: the search fails (R99). -/
def State.afFail (s : State) : State :=
  (s.withAf (fun a => { a with state := .failed, result := .lowContrast, flock := 0, wait := .nothing })).raise .afFailed

/-- The final move of a probe completes (R105). -/
def State.probeEnd (s : State) : State :=
  (s.setDistance s.focusPos).withAf (fun a => { a with
    state := s.lockedState, flock := (a.probe.map (fun p => p.best.f)).getD 0, low := 0, wait := .nothing, probe := none })

/-- Position B of the fine best record (R97). -/
def FocusSearch.bestPos (a : FocusSearch) : Int := (a.best.map Peak.pos).getD 0

/-- The greatest F of the fine pass (R96). -/
def FocusSearch.bestF (a : FocusSearch) : Nat := (a.best.map Peak.f).getD 0

/-- The move to B completes: d is set and the snap, or the move to track(z, 32), is what follows (R98, R99). -/
def State.afDecide (s : State) : State × AfWait :=
  if s.af.fmin ≤ s.af.bestF then (s.setDistance s.af.bestPos, .snap) else (s.setDistance32, .failMove)

/-- A move of Focus Search's own has completed; `fuel` bounds the chain of moves that complete at once. -/
def State.afAdvance : Nat → State → State
  | 0, s => s
  | n + 1, s =>
    let next (s : State) (w : AfWait) (target : Int) : State :=
      let x := (s.withAf (fun a => { a with wait := w })).giveFocus target .search
      if x.2 then State.afAdvance n x.1 else x.1
    match s.af.wait with
    | .sampleMove => s.withAf (fun a => { a with wait := .sample })
    | .settleBelow => next s .settleBest s.af.bestPos
    | .settleBest => let y := s.afDecide; next y.1 y.2 y.1.curve
    | .snap => s.afLock
    | .failMove => s.afFail
    | .probeFinal => s.probeEnd
    | .nothing | .sample => s

/-- Focus Search requests a move and waits for it (R93); the chain of moves that complete at once has at most four links. -/
def State.afMove (s : State) (w : AfWait) (target : Int) : State :=
  let x := (s.withAf (fun a => { a with wait := w })).giveFocus target .search
  if x.2 then State.afAdvance 4 x.1 else x.1

/-! ### Aborts (R100) -/

/-- Whether the focus target or the pending focus target has origin Search. -/
def State.focusOwned (s : State) : Bool :=
  s.lens.focus.origin = .search || (s.lens.focus.pending.map PendingMove.origin = some .search)

/-- The search or probe is given up: what stays and what goes (R100). -/
def FocusSearch.giveUp (a : FocusSearch) : FocusSearch :=
  { a with state := .idle, result := .aborted, wait := .nothing, probe := none }

/-- A search or probe in progress is aborted (R100); in the other states nothing happens. -/
def State.afAbort (s : State) : State :=
  if s.af.state.searching then
    let t := s.withAf FocusSearch.giveUp
    if t.lensReady ∧ t.focusOwned then (t.giveFocus t.focusPos .search).1 else t
  else s

/-- A lock, tracking or a failure is left for Idle, the result kept (R102). -/
def State.afLeave (s : State) : State :=
  if s.af.state.searching ∨ s.af.state = .idle then s else s.withAf (fun a => { a with state := .idle, wait := .nothing })

/-- To Idle from any state, as on FOCUS TO, AF CANCEL, the lens leaving Ready and cadence STILL (R100, R102). -/
def State.afIdle (s : State) : State := if s.af.state.searching then s.afAbort else s.afLeave

/-- Whether Focus Search waits for a move it requested (R93). -/
def AfWait.isMove : AfWait → Bool
  | .nothing | .sample => false
  | .sampleMove | .settleBelow | .settleBest | .snap | .failMove | .probeFinal => true

/-- A focus move completion is reported with its origin (R77, R93): an own move goes on, another origin's aborts. -/
def State.afFocusDone (s : State) (origin : Origin) : State :=
  if s.af.state.searching ∧ s.af.wait.isMove then
    if origin = .search then State.afAdvance 4 s else s.afAbort
  else s

/-! ### Search start (R92, R94) -/

/-- Whether the walk goes toward near at the start (R94). -/
def startsNear (s0 lo hi : Int) : Bool :=
  if hi - 64 ≤ s0 then decide (s0 = lo) else decide (s0 ≠ hi)

/-- A search starts with an origin, giving up what ran before (R90, R92). -/
def State.afStart (s : State) (origin : SearchOrigin) : State :=
  let lo := max 0 (s.lens.iv.inf - 32)
  let hi := s.lens.iv.near
  let s0 := clamp lo hi s.focusPos
  (s.withAf (fun a => { a with
    state := .coarse, origin := origin, coarse := s.setting ixCoarseStep, fine := s.setting ixFineStep,
    budget := s.settingNat ixSampleBudget, fmin := s.settingNat ixFmin, zone := s.settingNat ixAfZone, lo := lo, hi := hi,
    start := s0, near := startsNear s0 lo hi, reversed := false, count := 0, low := 0, f0 := 0, f1 := 0, peak := none,
    best := none, probe := none, log := [], wrapped := false })).afMove .sampleMove s0

/-! ### Samples (R93, R106) -/

/-- An entry appended to the sweep log of 64 entries (R106). -/
def FocusSearch.logEntry (a : FocusSearch) (e : SweepEntry) : FocusSearch :=
  if a.log.length < 64 then { a with log := a.log ++ [e] }
  else { a with log := a.log.drop 1 ++ [e], wrapped := true }

/-- The phase of a sample (R93). -/
def AfState.phase : AfState → SweepPhase
  | .coarse => .coarse
  | .fine => .fine
  | .idle | .settle | .locked | .tracking | .probe | .failed => .probe

/-- A better sample replaces a record; ties keep the earlier (R95, R96, R104). -/
def Peak.better (old : Option Peak) (new : Peak) : Peak :=
  match old with
  | none => new
  | some p => if p.f < new.f then new else p

/-- Coarse ends: the fine range is fixed and the first fine move made (R96). A peak more than c outside the latched range, where
tracking displaced sample 0, puts a above b; the first move still goes to a, and the sweep ends with the sample taken there, which
R96 leaves open (DESIGN CHOICE, log 44). -/
def State.coarseEnd (s : State) : State :=
  let p := (s.af.peak.map Peak.pos).getD 0
  let lo := max s.af.lo (p - s.af.coarse)
  (s.withAf (fun a => { a with
    state := .fine, fineFrom := lo, fineTo := min a.hi (p + a.coarse),
    fineTotal := min (2 * a.coarse.toNat / a.fine.toNat + 1) 33, fineIx := 0, best := none })).afMove .sampleMove lo

/-- A step of the coarse pass from a position in the present direction (R94). -/
def FocusSearch.coarseTarget (a : FocusSearch) (pos : Int) : Int :=
  clamp a.lo a.hi (if a.near then pos + a.coarse else pos - a.coarse)

/-- The reversal test (R95, 1): the third sample, and both samples after the start fell. -/
def FocusSearch.reverses (a : FocusSearch) (f : Nat) : Bool :=
  a.count = 3 && !a.reversed && decide (a.f1 < a.f0) && decide (f < a.f1)

/-- Whether S is the range end in the present direction (R94, R95). -/
def FocusSearch.startAtEnd (a : FocusSearch) : Bool := if a.near then a.start = a.hi else a.start = a.lo

/-- The low count after a coarse sample (R95, 2). -/
def FocusSearch.lowAfter (a : FocusSearch) (f : Nat) : Nat :=
  if 8 * f < 7 * (a.peak.map Peak.f).getD 0 then a.low + 1 else 0

/-- Range end: the sample was taken at hi while moving toward near, or at lo while moving toward infinity (R95, 3); a range in which
lo equals hi is covered by the first sample, wherever tracking has put it (R94). -/
def FocusSearch.atEnd (a : FocusSearch) (pos : Int) : Bool :=
  decide (a.lo = a.hi) || if a.near then decide (pos = a.hi) else decide (pos = a.lo)

/-- A coarse sample, with its peak and count brought up to date, and the tests of R95 in order; where S is the range end in
the new direction, coarse ends instead of reversing. -/
def State.coarseSample (s : State) (f : Nat) (pos : Int) : State :=
  let a := { s.af with
    count := s.af.count + 1, peak := some (Peak.better s.af.peak { f := f, pos := pos }), lastPos := pos,
    f0 := if s.af.count = 0 then f else s.af.f0, f1 := if s.af.count = 1 then f else s.af.f1 }
  if a.reverses f then
    let b := { a with reversed := true, low := 0, near := !a.near }
    if b.startAtEnd then State.coarseEnd { s with af := a }
    else State.afMove { s with af := b } .sampleMove (b.coarseTarget b.start)
  else
    let a := { a with low := a.lowAfter f }
    let t := { s with af := a }
    if 2 ≤ a.low || a.atEnd pos || decide (a.budget ≤ a.count) then t.coarseEnd
    else t.afMove .sampleMove (a.coarseTarget pos)

/-- The fine sweep has ended: the approach from below, or B at once (R97). -/
def State.settle (s : State) : State :=
  let t := s.withAf (fun a => { a with state := .settle })
  if t.af.bestPos < t.af.lastPos then t.afMove .settleBelow (t.af.bestPos - 2 * t.af.fine)
  else t.afMove .settleBest t.af.bestPos

/-- The target of fine sample n (R96). -/
def FocusSearch.fineTarget (a : FocusSearch) (n : Nat) : Int := min a.fineTo (a.fineFrom + a.fine * n)

/-- A fine sample (R96). -/
def State.fineSample (s : State) (f : Nat) (pos : Int) : State :=
  let t := s.withAf (fun a => { a with best := some (Peak.better a.best { f := f, pos := pos }), lastPos := pos })
  if t.af.fineTotal ≤ t.af.fineIx + 1 ∨ t.af.fineTarget t.af.fineIx = t.af.fineTo then t.settle
  else
    (t.withAf (fun a => { a with fineIx := a.fineIx + 1 })).afMove .sampleMove (t.af.fineTarget (t.af.fineIx + 1))

/-! ### Probes (R104) -/

/-- The walk of a probe after a sample: the next leg and target, or none to stop. -/
def Probe.next (p : Probe) (f : Nat) (pos : Int) : Option (ProbeLeg × Int) :=
  match p.leg with
  | .first => if p.fref < f then some (.toNear, pos + p.step) else some (.reversed, p.p0 - p.step)
  | .toNear => if f < p.prevF ∨ 8 ≤ p.moves then none else some (.toNear, pos + p.step)
  | .reversed => none

/-- A probe sample (R104). -/
def State.probeSample (s : State) (f : Nat) (pos : Int) : State :=
  match s.af.probe with
  | none => s
  | some p =>
    let p := { p with moves := p.moves + 1, best := Peak.better (some p.best) { f := f, pos := pos } }
    let t := s.withAf (fun a => { a with probe := some { p with prevF := f }, lastPos := pos })
    match p.next f pos with
    | none => t.afMove .probeFinal p.best.pos
    | some (leg, target) =>
      (t.withAf (fun a => { a with probe := some { p with prevF := f, leg := leg } })).afMove .sampleMove target

/-- A second weak record in Tracking starts a probe, whose first move is still to be requested (R103, R104). -/
def State.probeStart (s : State) (f : Nat) : State :=
  s.withAf (fun a => { a with
    state := .probe, wait := .nothing,
    probe := some { p0 := s.focusPos, fref := f, best := { f := f, pos := s.focusPos }, step := s.setting ixFineStep,
                    prevF := f, moves := 0, leg := .first } })

/-- The first move of a probe that has started: one fine step toward near (R104). -/
def State.probeMove (s : State) : State :=
  match s.af.probe with
  | none => s
  | some p => if s.af.state = .probe ∧ s.af.wait = .nothing then s.afMove .sampleMove (p.p0 + p.step) else s

/-- A sample taken from a record (R93). -/
def State.afSample (s : State) (r : StatRecord) : State :=
  let f := selectF r.bank.feats s.zoneInUse
  let pos := s.focusPos
  let t := s.withAf (fun a => a.logEntry { pos := pos, f := f, seq := r.seq, phase := a.state.phase })
  match s.af.state with
  | .coarse => t.coarseSample f pos
  | .fine => t.fineSample f pos
  | .probe => t.probeSample f pos
  | .idle | .settle | .locked | .tracking | .failed => t

/-- Tracking compares an eligible record with Flock (R103). -/
def State.afCompare (s : State) (r : StatRecord) : State :=
  let f := selectF r.bank.feats s.zoneInUse
  if 4 * f < 3 * s.af.flock then
    let t := s.withAf (fun a => { a with low := a.low + 1 })
    if 2 ≤ t.af.low then t.probeStart f else t
  else s.withAf (fun a => { a with low := 0 })

/-- A Last Statistics record is handed over (R93, R103). -/
def State.afRecord (s : State) (r : StatRecord) : State :=
  if !r.afEligible then s
  else if s.af.state.focusing ∧ s.af.wait = .sample then s.afSample r
  else if s.af.state = .tracking then s.afCompare r
  else s

/-! ### Prepare and SHOOT -/

/-- Prepare held begins: a search starts from Idle (R91). -/
def State.afPrepareBegins (s : State) : State :=
  if s.lensReady ∧ s.af.state = .idle then s.afStart .prepare else s.trackCheck

/-- Prepare held ends: a search of origin Prepare is aborted in Single mode (R100); Tracking may end (R103). -/
def State.afPrepareEnds (s : State) : State :=
  if s.af.state.searching ∧ ¬ s.afContinuous ∧ s.af.origin = .prepare then s.afAbort else s.trackCheck

/-- SHOOT taken with the lens Ready (R91, R100, R101). -/
def State.afShoot (s : State) : State :=
  if s.shotPriority = .release then s.afAbort.trackCheck
  else if s.af.state = .idle then s.afStart .shoot
  else s.trackCheck

/-! ### Soft reset (R108) -/

def FocusSearch.softReset (a : FocusSearch) : FocusSearch :=
  { a with state := .idle, low := 0, wait := .nothing, probe := none }

end Sys2Proof.Machine
end

