-- ==== Sys2Proof/Machine/ExposurePlanner.lean ====
section
/-! DEFINITION. The Exposure Planner: metering, the requested sum, the two plans, a run, the latches. -/

namespace Sys2Proof.Machine

/-! ### Decomposition (R54 to R58) -/

/-- The inputs of one run: Qreq, Amin(z), pmax, and the settings that shape a plan. -/
structure PlanInputs where
  qraw : Int
  qreq : Int
  amin : Int
  pmax : Int
  gmax : Int
  program : Program
  userT : Int
  userIris : Int
  userG : Int
  deriving DecidableEq, Repr

/-- T, p and G of a plan. -/
structure Split where
  t : Int
  p : Int
  g : Int
  deriving DecidableEq, Repr

/-- T and G at a fixed aperture: T = Qreq + A within 80..cap, the gain making up what the cap leaves (R54, R56). -/
def splitAt (i : PlanInputs) (p cap : Int) : Split :=
  let a := i.amin + 8 * p
  let t := i.qreq + a
  if t < 80 then { t := 80, p := p, g := 0 }
  else if cap < t then { t := cap, p := p, g := min i.gmax (i.qreq + a - cap) }
  else { t := t, p := p, g := 0 }

/-- Auto, the capture plan (R54). -/
def autoCapture (i : PlanInputs) (cap : Int) : Split :=
  if i.qreq + i.amin < 80 then
    let p := min i.pmax (ceilEighth (80 - (i.qreq + i.amin)))
    { t := max 80 (i.qreq + (i.amin + 8 * p)), p := p, g := 0 }
  else splitAt i 0 cap

/-- The gain of TimePriority at a time and aperture (R55, step 4). -/
def gainFor (i : PlanInputs) (t p : Int) : Int :=
  if t - (i.amin + 8 * p) < i.qreq then min i.gmax (i.qreq - (t - (i.amin + 8 * p))) else 0

/-- TimePriority, the capture plan (R55). -/
def timeCapture (i : PlanInputs) (cap : Int) : Split :=
  let t := clamp 80 cap i.userT
  let surplus := t - i.amin - i.qreq
  let p := if 0 < surplus then min i.pmax (ceilEighth surplus) else 0
  { t := t, p := p, g := gainFor i t p }

/-- The capture plan's T, p and G in each program. -/
def captureSplit (i : PlanInputs) (cap : Int) : Split :=
  match i.program with
  | .auto => autoCapture i cap
  | .timePriority => timeCapture i cap
  | .aperturePriority => splitAt i (min i.userIris i.pmax) cap
  | .manual => { t := i.userT, p := min i.userIris i.pmax, g := min i.userG i.gmax }

/-- The live plan's T, p and G: made at the capture plan's aperture (R54 to R57). -/
def liveSplit (i : PlanInputs) (p tlive : Int) : Split :=
  match i.program with
  | .auto | .aperturePriority => splitAt i p tlive
  | .timePriority =>
    let t := clamp 80 tlive i.userT
    { t := t, p := p, g := gainFor i t p }
  | .manual => { t := min i.userT tlive, p := p, g := min i.userG i.gmax }

/-- A plan from its split, with Q, Over and Under (R57, R58). -/
def planOf (i : PlanInputs) (x : Split) (tcap credit : Int) : Plan :=
  let a := i.amin + 8 * x.p
  let q := x.t + x.g - a
  { formed := true, t := x.t, p := x.p, a := a, amin := i.amin, g := x.g, q := q, tcap := tcap, credit := credit,
    qraw := i.qraw, isOver := i.program ≠ .manual && i.qraw < q, isUnder := i.program ≠ .manual && q < i.qraw,
    program := i.program, gmax := i.gmax }

/-! ### A run (R43) -/

/-- The credit: 48 while the credit condition holds, less 16 under the penalty, never below 0 (R53). -/
def State.credit (s : State) : Int :=
  if s.creditCondition then (if s.ep.penalty then 32 else 48) else 0

/-- The credit a capture plan uses: none in Manual (R57), none with Support mode On (R52, log 36). -/
def State.planCredit (s : State) : Int :=
  if s.program = .manual ∨ s.settingOn ixSupportMode then 0 else s.credit

/-- Tcap of the capture plan (R52, R57). -/
def State.captureCap (s : State) (tlimit : Int) : Int :=
  if s.program = .manual ∨ s.settingOn ixSupportMode then 320 else min 320 (tlimit + s.credit)

/-- Qlo and Qhi (R50). -/
def State.qLow (s : State) : Int := 80 - s.setting ixAmax
def State.qHigh (s : State) (amin : Int) : Int := 320 + s.setting ixGmax - amin

/-- The inputs of a run as they stand. -/
def State.planInputs (s : State) (amin : Int) : PlanInputs :=
  { qraw := s.ep.qraw, qreq := clamp s.qLow (s.qHigh amin) s.ep.qraw, amin := amin,
    pmax := pmaxOf amin (s.setting ixAmax), gmax := s.setting ixGmax, program := s.program, userT := s.setting ixUserT,
    userIris := s.setting ixUserIris, userG := s.setting ixUserG }

/-- Qreq, pmax and both plans made again from the values Lens Drive gave (R43, R50, R51). -/
def State.formPlans (s : State) (amin tlimit : Int) : State :=
  let i := s.planInputs amin
  let cap := s.captureCap tlimit
  let x := captureSplit i cap
  { s with
    ep := { s.ep with
      qreq := i.qreq, pmax := i.pmax, capPlan := planOf i x cap s.planCredit,
      livePlan := planOf i (liveSplit i x.p s.fc.tlive) s.fc.tlive 0 },
    lens := { s.lens with pmax := i.pmax } }

/-- The iris request at the end of a run (R59). -/
def State.requestIris (s : State) : State :=
  if s.lensReady ∧ s.lens.iris.target ≠ some s.ep.capPlan.p then s.giveIris s.ep.capPlan.p .planner else s

/-- A run of the planner; before Lens Drive has given Amin(z) and Tlimit(z) there is none (R43, R66). -/
def State.plannerRun (s : State) : State :=
  match s.ep.given with
  | none => s
  | some (amin, tlimit) => (s.formPlans amin tlimit).requestIris

/-- Lens Drive gives Amin(z) and Tlimit(z); the planner runs when either changes, and when they first come (R66, R83). -/
def State.giveLimits (s : State) : State :=
  if s.ep.given = some (s.lens.iv.amin, s.lens.iv.tlimit) then s
  else { s with ep := { s.ep with given := some (s.lens.iv.amin, s.lens.iv.tlimit) } }.plannerRun

/-- The planner runs when the credit condition has changed since `before` (R43, R53). -/
def State.creditWatch (before : Bool) (s : State) : State :=
  if s.creditCondition = before then s else s.plannerRun

/-- The residual penalty flag takes a value; a change runs the planner (R43, R53). -/
def State.setPenalty (s : State) (v : Bool) : State :=
  if s.ep.penalty = v then s else { s with ep := { s.ep with penalty := v } }.plannerRun

/-- The AE lock takes a source; the planner runs when the lock begins or ends (R49). -/
def State.setLock (s : State) (v : LockSource) : State :=
  let t := { s with ep := { s.ep with lock := v } }
  if (s.ep.lock = .none ↔ v = .none) then t else t.plannerRun

/-- Prepare held begins (R49). -/
def State.planPrepareBegins (s : State) : State :=
  if s.settingOn ixAeLockOnPrepare ∧ s.ep.lock = .none then s.setLock .prepare else s

/-- Prepare held ends (R49). -/
def State.planPrepareEnds (s : State) : State := if s.ep.lock = .prepare then s.setLock .none else s

/-- Tlive takes a value; a change runs the planner (R4, R43). -/
def State.setTlive (s : State) (v : Int) : State :=
  if s.fc.tlive = v then s else { s with fc := { s.fc with tlive := v } }.plannerRun

/-! ### Metering (R44 to R48) -/

/-- E = (L(target) + C) − L(M) (R46). -/
def State.meterError (s : State) (m : Nat) : Int :=
  logLight (s.settingNat ixTarget) + s.setting ixCompensation - logLight m

/-- K, taken as 4 when prepare is held or the fast start flag is set (R47). -/
def State.convergence (s : State) : Int :=
  if s.prepareHeld || s.ep.fastStart then 4 else s.setting ixConvergence

/-- The step before the highlight guard (R47). -/
def meterStep (e deadband k : Int) : Int :=
  clamp (-48) 48 (if |e| ≤ deadband then 0 else (e * k).tdiv 4)

/-- The highlight guard (R48). -/
def State.guardStep (s : State) (step : Int) (h n : Nat) : Int :=
  if s.settingOn ixHighlightGuard ∧ s.settingNat ixHighlightThreshold * n < 256 * h then min step (-4) else step

/-- A Last Statistics record reaches the planner (R43, R44, R49, R50). -/
def State.meter (s : State) (r : StatRecord) : State :=
  if r.aeEligible then
    let e := s.meterError r.m
    let ep := { s.ep with offset := e, lastMetered := some r.seq }
    let ep := if s.ep.lock = .none then
        { ep with
          qraw := r.q + s.guardStep (meterStep e (s.setting ixDeadband) s.convergence) r.h r.n, fastStart := false }
      else ep
    { s with ep := ep }.plannerRun
  else s

/-! ### Latches (R61, R62) -/

/-- T with the iris correction, clamped to 80..cap (R61). -/
def State.correctedT (s : State) (p : Plan) (cap : Int) : Int := clamp 80 cap (p.t + (s.appliedA - p.a))

/-- The values a live settings transfer carries (R9, R61). -/
def State.liveLatch (s : State) : InEffect :=
  { t := s.correctedT s.ep.livePlan s.fc.tlive, g := s.ep.livePlan.g, kind := .live, gmax := s.setting ixGmax }

/-- The plan latched at a gate pass (R62). -/
def State.captureLatch (s : State) : Plan :=
  { s.ep.capPlan with t := s.correctedT s.ep.capPlan s.ep.capPlan.tcap }

/-! ### Soft reset (R65) -/

/-- The planner's part of a soft reset, before its run. -/
def Planner.softReset (p : Planner) : Planner := { p with lock := .none, penalty := false }

end Sys2Proof.Machine
end

