-- ==== Sys2Proof/Machine/Stabilization.lean ====
section
/-! DEFINITION. The Stabilizer: states, samples, angle and shift, residuals, panning, recentering, calibration, faults. -/

namespace Sys2Proof.Machine

/-- A change of the Stabilizer's own state. -/
def State.withStab (s : State) (f : Stabilizer → Stabilizer) : State := { s with stab := f s.stab }

/-! ### States (R110 to R112, R117) -/

/-- The ShotOnly span: prepare held, or from a gate pass to that capture's exposure end (R112). -/
def State.shotOnlySpan (s : State) : Bool := s.prepareHeld || s.hold

/-- The state that follows the mode, Table 6-3 (R110). -/
def State.derivedState (s : State) : StabState :=
  if s.stabMode = .off ∨ ¬ s.lensReady then .off
  else if s.fc.cadence = .still then .parked
  else if s.stabMode = .continuous then .active
  else if s.shotOnlySpan then .active
  else .parked

/-- A shift message: servo enable and the two targets (R117). -/
def State.shiftMessage (s : State) : State :=
  s.put (.shift (s.stab.state ≠ .off) s.stab.x.target s.stab.y.target)

/-- θ, demand, target and excess at 0; the pan flag and counts stay (R111). -/
def ShiftAxis.centred (x : ShiftAxis) : ShiftAxis := { x with theta := 0, demand := 0, target := 0, excess := 0 }

/-- The Stabilizer leaves Active (R111); `window` tells whether a capture exposure window is open. -/
def Stabilizer.leaveActive (b : Stabilizer) (window : Bool) : Stabilizer :=
  { b with
    x := b.x.centred, y := b.y.centred, backlog := 0, tick := none, urgent := false,
    rx := if window then 65535 else b.rx, ry := if window then 65535 else b.ry }

/-- The full recenter period from now (R123). -/
def State.nextTick (s : State) : Option Nat := some (s.clock + ms (10 * s.settingNat ixRecenterPeriod))

/-- A change of state: Active left and entered (R111), the shift message (R117), the credit condition (R122). -/
def State.stabSet (s : State) (new : StabState) : State :=
  if s.stab.state = new then s
  else
    let b := if s.stab.state = .active then s.stab.leaveActive s.window else s.stab
    let b := if new = .active then { b with backlog := 0, tick := s.nextTick } else b
    State.creditWatch s.creditCondition { s with stab := { b with state := new } }.shiftMessage

/-- The state is derived again, unless a calibration or a fault holds it (R110). -/
def State.derive (s : State) : State :=
  if s.stab.state = .calibrating ∨ s.stab.state = .faulted then s else s.stabSet s.derivedState

/-! ### Calibration (R126 to R129) -/

/-- A calibration ends: its status, BIAS_CAL_ENDED, the state derived (R128, R129). -/
def State.calEnd (s : State) (status : CalStatus) : State :=
  let t := (s.withStab (fun b => { b with cal := { b.cal with status := status, limit := none } })).raise .biasCalEnded
  t.stabSet t.derivedState

/-- The result of a calibration: run sum × 16 / run count, rounded (R128). -/
def CalRecord.mean (c : CalRecord) : Int × Int := (roundDiv (c.sumX * 16) c.count, roundDiv (c.sumY * 16) c.count)

/-- A calibration ends with Done (R128). -/
def State.calDone (s : State) : State :=
  (s.withStab (fun b => { b with
    biasX := b.cal.mean.1, biasY := b.cal.mean.2, cal := { b.cal with result := some b.cal.mean } })).calEnd .done

/-- A calibration in progress is aborted (R129). -/
def State.calAbort (s : State) : State := if s.stab.state = .calibrating then s.calEnd .aborted else s

/-- A calibration starts (R126). -/
def State.calStart (s : State) : State :=
  (s.stabSet .calibrating).withStab (fun b => { b with
    cal := { status := .sampling, start := s.timeBase, count := 0, sumX := 0, sumY := 0, result := none,
             limit := some (s.clock + sec (s.settingNat ixCalTimeout)) } })

/-- A still sample: both raw rates within the still threshold of the sample before (R127); open when there is none
before (log 12). -/
def State.isStill (s : State) (x y : Int) : Bool :=
  match s.stab.last with
  | none => Config.stillWithoutEarlier s.free
  | some z => |x - z.x| ≤ s.setting ixStillThreshold && |y - z.y| ≤ s.setting ixStillThreshold

/-- A still sample adds to the run; it may reach the minimum (R127). -/
def CalRecord.addStill (c : CalRecord) (x y minimum : Int) : CalRecord :=
  let c := { c with count := c.count + 1, sumX := c.sumX + x, sumY := c.sumY + y }
  if c.status = .sampling ∧ minimum ≤ c.count then { c with status := .minMet } else c

/-- A received sample during a calibration (R127, R128). -/
def State.calSample (s : State) (x y : Int) : State :=
  if s.stab.state ≠ .calibrating then s
  else
    let still := s.isStill x y
    let s := if s.stab.last.isNone then s.chosen else s
    if still then
      let t := s.withStab (fun b => { b with cal := b.cal.addStill x y (s.setting ixCalMinimum) })
      if 16000 ≤ t.stab.cal.count then t.calDone else t
    else if s.stab.cal.status = .minMet then s.calDone
    else s.withStab (fun b => { b with cal := { b.cal with count := 0, sumX := 0, sumY := 0 } })

/-! ### Faults (R130) -/

/-- A fault is detected: flag and cause, GYRO_FAULT, a calibration aborted, Faulted (R130, R129). -/
def State.gyroFault (s : State) (cause : GyroCause) : State :=
  let t := (s.withStab (fun b => { b with cause := cause, missed := 0, rep1 := 0, rep2 := 0 })).raise .gyroFault
  let t := if t.stab.state = .calibrating then
      (t.withStab (fun b => { b with cal := { b.cal with status := .aborted, limit := none } })).raise .biasCalEnded
    else t
  State.creditWatch s.creditCondition (t.stabSet .faulted)

/-- The repeat count of an axis after a sample (R130). -/
def repeats (last : Option Int) (now : Int) (count : Nat) : Nat := if last = some now then count + 1 else 0

/-- The cause the repeat counts show, if any (R130). -/
def stuckCause (rep1 rep2 : Nat) : GyroCause :=
  if 255 ≤ rep1 ∧ 255 ≤ rep2 then .stuckBoth
  else if 255 ≤ rep1 then .stuckAxis1
  else if 255 ≤ rep2 then .stuckAxis2
  else .none

/-- The watch for a stuck axis, before the sample is used (R130, log 13). -/
def State.watchStuck (s : State) (u v : Int) : State :=
  if s.stab.cause ≠ .none then s
  else
    let r1 := repeats (s.stab.last.map GyroSample.u) u s.stab.rep1
    let r2 := repeats (s.stab.last.map GyroSample.v) v s.stab.rep2
    let t := s.withStab (fun b => { b with missed := 0, rep1 := r1, rep2 := r2 })
    if stuckCause r1 r2 = .none then t else t.gyroFault (stuckCause r1 r2)

/-- The watch for missing samples (R130). -/
def State.watchMissed (s : State) : State :=
  if s.stab.cause ≠ .none then s
  else
    let t := s.withStab (fun b => { b with missed := b.missed + 1 })
    if 4 ≤ t.stab.missed then t.gyroFault .missing else t

/-! ### Samples (R114 to R116, R118, R120, R124) -/

/-- A new orientation takes effect at a sample that is used: θ at 0, pan flags and counts cleared (R114, log 26). -/
def State.orientNow (s : State) : State :=
  if s.stab.orient = s.setting ixOrientation then s
  else s.withStab (fun b => { b with
    orient := s.setting ixOrientation,
    x := { b.x with theta := 0, pan := false, entry := 0, exit := 0 },
    y := { b.y with theta := 0, pan := false, entry := 0, exit := 0 } })

/-- Pan detection on one axis (R120); a count that already stands at or above a lowered pan count makes the change of flag
at this sample, whatever its rate (log 37). -/
def ShiftAxis.detect (x : ShiftAxis) (raw threshold : Int) (count : Nat) : ShiftAxis :=
  if x.pan then
    let n := if |raw| < threshold / 2 then x.exit + 1 else 0
    if count ≤ max n x.exit then { x with pan := false, entry := 0, exit := 0 } else { x with exit := n }
  else
    let n := if threshold < |raw| then x.entry + 1 else 0
    if count ≤ max n x.entry then { x with pan := true, entry := 0, exit := 0 } else { x with entry := n }

/-- The angle of one axis after a received sample in Active (R115). -/
def ShiftAxis.integrate (x : ShiftAxis) (raw bias : Int) (k : Nat) : ShiftAxis :=
  if x.pan then { x with theta := x.theta - x.theta.tdiv 64 }
  else { x with theta := saturateTheta (x.theta + (raw * 16 - bias) - x.theta / 2 ^ k) }

/-- A recenter step on one axis (R124). -/
def ShiftAxis.recentered (x : ShiftAxis) : ShiftAxis := { x with theta := x.theta - x.theta.tdiv 4 }

/-- Demand, target and excess of one axis (R116). -/
def ShiftAxis.shifted (x : ShiftAxis) (gain smax : Int) : ShiftAxis :=
  let demand := (x.theta * gain).tdiv 16777216
  let target := clamp (-smax) smax demand
  { x with demand := demand, target := target, excess := |demand - target| }

/-- A recenter step that is due at a sample time (R124, R125). -/
def State.recenterStep (s : State) : State :=
  if s.stab.state = .active ∧ 0 < s.stab.backlog ∧ ¬ s.window then
    (s.withStab (fun b => { b with
      x := b.x.recentered, y := b.y.recentered, backlog := b.backlog - 1,
      urgent := b.urgent && decide (b.backlog ≠ 1) })).statRecentered
  else s

/-- Pan detection of a received sample, in Parked and Active (R120). -/
def State.panSample (s : State) (x y : Int) : State :=
  if s.stab.state = .active ∨ s.stab.state = .parked then
    s.withStab (fun b => { b with
      x := b.x.detect x (s.setting ixPanThreshold) (s.settingNat ixPanCount),
      y := b.y.detect y (s.setting ixPanThreshold) (s.settingNat ixPanCount) })
  else s

/-- Integration of a received sample, in Active (R115). -/
def State.angleSample (s : State) (x y : Int) : State :=
  if s.stab.state = .active then
    s.withStab (fun b => { b with
      x := b.x.integrate x b.biasX (s.settingNat ixLeakShift), y := b.y.integrate y b.biasY (s.settingNat ixLeakShift) })
  else s

/-- The shift of a received sample, in Active, and its residuals in a capture exposure window (R116, R118). -/
def State.shiftSample (s : State) : State :=
  if s.stab.state = .active then
    let t := s.withStab (fun b => { b with
      x := b.x.shifted b.gain (s.setting ixShiftLimit), y := b.y.shifted b.gain (s.setting ixShiftLimit) })
    if t.window ∧ t.stab.resFlag then
      t.withStab (fun b => { b with
        rx := satAdd 65535 b.rx b.x.excess.toNat, ry := satAdd 65535 b.ry b.y.excess.toNat })
    else t
  else s

/-- The stages a received sample is taken through when no fault holds the Stabilizer (R113 to R116, R118, R120, R124,
R127). -/
def State.useSample (s : State) (u v : Int) : State :=
  let m := mapRates (s.setting ixOrientation) u v
  let t := s.orientNow.panSample m.1 m.2
  let t := State.creditWatch s.creditCondition t
  (((t.angleSample m.1 m.2).recenterStep.shiftSample).calSample m.1 m.2)

/-- A gyro request goes out: that of the present 500 µs (R113). -/
def State.askGyro (s : State) : State := (s.withStab (fun b => { b with asked := true })).put .gyroRequest

/-- The present request goes out, unless it has gone out already (R113, log 11). -/
def State.askOnce (s : State) : State := if s.stab.asked then s else s.askGyro

/-- The next request follows the present one after 500 µs (R113): it is still to go out, at its own moment. -/
def State.nextGyro (s : State) : State :=
  s.withStab (fun b => { b with gyro := b.gyro.map (· + us 500), asked := false })

/-- The moment of the present request has come, and it has not gone out yet (R113). -/
def State.requestDue (s : State) : Bool := !s.stab.asked && s.stab.gyro.any (fun g => decide (g ≤ s.clock + us 500))

/-- A received sample (R113). In Faulted the rates are mapped by the orientation as it stands, while what a new orientation
clears is cleared at the first sample that is used (DESIGN CHOICE, log 26). -/
def State.gyroReceived (s : State) (u v : Int) : State :=
  let m := mapRates (s.setting ixOrientation) u v
  let t := s.watchStuck u v
  let t := if t.stab.cause = .none then t.useSample u v else t
  (t.withStab (fun b => { b with last := some { u := u, v := v, x := m.1, y := m.2 } })).shiftMessage

/-- A missed sample (R113, R124, R130). -/
def State.gyroMissed (s : State) : State := (s.watchMissed.recenterStep).shiftMessage

/-- The tick: the backlog may grow, and at 3 the hold is set (R123, R125). -/
def State.recenterTick (s : State) : State :=
  let half := s.setting ixShiftLimit / 2
  let t := s.withStab (fun b => { b with tick := s.nextTick })
  if half < |t.stab.x.target| ∨ half < |t.stab.y.target| then
    if t.stab.backlog = 2 then (t.withStab (fun b => { b with backlog := 3, urgent := true })).raise .recenterUrgent
    else t.withStab (fun b => { b with backlog := satAdd 3 b.backlog 1 })
  else t

/-! ### Captures (R118, R119) -/

/-- A capture's exposure start (R118). -/
def State.residualStart (s : State) : State :=
  s.withStab (fun b => { b with rx := 0, ry := 0, resFlag := b.state = .active })

/-- The residuals and grade of a capture at its exposure end, if its residual flag is set (R119). -/
def Stabilizer.residual (b : Stabilizer) : Option Residual :=
  if b.resFlag then some { rx := b.rx, ry := b.ry, grade := gradeOf (max b.rx b.ry) } else none

/-- The grade is handed on: the last grade, and the planner's penalty flag (R119, R53). -/
def State.gradeEnd (s : State) : State :=
  match s.stab.residual with
  | none => s.setPenalty false
  | some r => (s.withStab (fun b => { b with grade := some r.grade })).setPenalty (2 ≤ r.grade)

/-! ### Sampling and resets -/

/-- Sampling stops for STILL (R113); a request whose moment has come has gone out before. -/
def State.stopSampling (s : State) : State :=
  (if s.requestDue then s.askGyro else s).withStab (fun b =>
    { b with gyro := none, asked := false, missed := 0, rep1 := 0, rep2 := 0 })

/-- Sampling starts again, with a new request at once (R113). -/
def State.resumeSampling (s : State) : State :=
  if s.stab.gyro.isSome then s
  else (s.withStab (fun b => { b with gyro := some (s.clock + us 500) })).askGyro

/-- STAB RESTART (R131). -/
def State.stabRestart (s : State) : State :=
  if s.stab.cause = .none then s
  else
    let t := s.withStab (fun b => { b with cause := .none, missed := 0, rep1 := 0, rep2 := 0 })
    t.stabSet t.derivedState

/-- Soft reset up to the moment the state is Parked (R133). With a fault held the state stays Faulted and does not pass through
Parked, and one shift message is sent (DESIGN CHOICE, log 39). -/
def State.stabSoftReset (s : State) : State :=
  let b := s.stab
  let cal := if b.state = .calibrating then { b.cal with status := .aborted, limit := none } else b.cal
  let b := { b with
    cal := cal, x := ShiftAxis.zero, y := ShiftAxis.zero, backlog := 0, urgent := false, tick := none, rx := 0, ry := 0,
    resFlag := false, state := if b.cause = .none then .parked else .faulted }
  { s with stab := b }.put (.shift true 0 0)

end Sys2Proof.Machine
end

