-- ==== Sys2Proof/Machine/CaptureRecords.lean ====
section
/-! DEFINITION. The Record Queue: the open record, the queue, takes, withdrawals, the ready threshold and the stale timer. -/

namespace Sys2Proof.Machine

/-- A change of the Record Queue's own state. -/
def State.withRq (s : State) (f : RecordQueue → RecordQueue) : State := { s with rq := f s.rq }

/-! ### The stale timer (R170) -/

/-- The full stale time from now. -/
def State.staleSpan (s : State) : Nat := ms (10 * s.settingNat ixStaleTime)

/-- The queue count is above 0 and below a threshold. -/
def State.countWithin (s : State) (threshold : Nat) : Bool :=
  0 < s.rq.queue.length && s.rq.queue.length < threshold

/-- Append or take: the timer starts afresh or is stopped (R170). -/
def State.staleRestart (s : State) : State :=
  s.withRq (fun q => { q with
    stale := if s.countWithin (s.settingNat ixReadyThreshold) then some (s.clock + s.staleSpan) else none })

/-- A change of the ready threshold, from its old value to the one that stands (R170). A count that had reached the old threshold
starts the timer also where an expiry had stopped it before that; R170 leaves it open (DESIGN CHOICE, log 45). Where a withdrawal took
the count below the threshold, with the timer stopped, the timer stays stopped; R170 names no case for it (DESIGN CHOICE, log 48). -/
def State.staleThreshold (s : State) (old : Nat) : State :=
  if !s.countWithin (s.settingNat ixReadyThreshold) then s.withRq (fun q => { q with stale := none })
  else if old ≤ s.rq.queue.length then s.withRq (fun q => { q with stale := some (s.clock + s.staleSpan) })
  else s

/-! ### The open record (R160 to R164) -/

/-- The gate pass starts the open record (R160). -/
def State.recordOpen (s : State) (slot : Nat) (mode : BurstMode) : State :=
  s.withRq (fun q => { q with
    opened := some { capNo := s.fc.capNo, slot := slot, burstIndex := s.fc.burstCount, mode := mode, phase := .gated,
                     withdrawn := false, startPart := none, endPart := none } })

/-- The exposure-start part with the values as they stand (R161). -/
def State.startPartNow (s : State) (t a g : Int) (over_ under_ late : Bool) : StartPart :=
  { seq := s.fc.fseq, stamp := s.timeBase, t := t, a := a, g := g, q := t + g - a, isOver := over_, isUnder := under_,
    settingsLate := late, zoom := s.lens.zoom.pos.getD 0, focal := s.lens.iv.focal, focus := s.focusPos, d := s.lens.d,
    afState := s.af.state, afZone := s.zoneInUse, stabState := s.stab.state }

/-- The capture's exposure start (R161). -/
def State.recordStart (s : State) (part : StartPart) : State :=
  s.withRq (fun q => { q with opened := q.opened.map (fun r => { r with phase := .exposing, startPart := some part }) })

/-- The capture's exposure end (R162). -/
def State.recordEnd (s : State) : State :=
  s.withRq (fun q => { q with
    opened := q.opened.map (fun r => { r with
      phase := .reading, endPart := some { stamp := s.timeBase, residual := s.stab.residual } }) })

/-- The readout-end part (R163): M, h and F out of the capture's Last Statistics record, and the slot's entry. -/
def State.readPart (s : State) (zone slot : Nat) (timedOut : Bool) : ReadPart :=
  let e := s.store.slots.getD slot Slot.freed
  match s.st.last with
  | none => { m := 0, h := 0, f := 0, timedOut := timedOut, bytes := e.bytes, incomplete := e.incomplete }
  | some r =>
    { m := r.m, h := r.h, f := selectF r.bank.feats zone, timedOut := timedOut, bytes := e.bytes,
      incomplete := e.incomplete }

/-- A completed record is appended: CAPTURE_STORED, QUEUE_READY when the count reaches the threshold, and the stale timer
(R163, R165, R169, R170). -/
def State.recordAppend (s : State) (r : CaptureRecord) : State :=
  let t := (s.withRq (fun q => { q with queue := q.queue ++ [r] })).raise .captureStored
  let t := if t.rq.queue.length = t.settingNat ixReadyThreshold then t.raise .queueReady else t
  t.staleRestart

/-- The capture's readout end: the record is completed, and appended unless it was withdrawn (R163). -/
def State.recordComplete (s : State) (timedOut : Bool) : State :=
  match s.rq.opened with
  | none => s
  | some o =>
    let t := s.withRq (fun q => { q with opened := none })
    match o.startPart, o.endPart with
    | some x, some y =>
      if o.withdrawn then t
      else t.recordAppend {
        capNo := o.capNo, slot := o.slot, burstIndex := o.burstIndex, mode := o.mode, startPart := x, endPart := y,
        readPart := s.readPart x.afZone o.slot timedOut }
    | _, _ => t

/-! ### Takes and withdrawals (R167, R168) -/

/-- The end of a TAKE RECORD reply removes the record it carried, if it is still queued (R167). -/
def State.take (s : State) (capNo : Word32) : State :=
  if s.rq.queue.any (fun r => r.capNo = capNo) then
    (s.withRq (fun q => { q with queue := q.queue.filter (fun r => r.capNo ≠ capNo) })).staleRestart
  else s

/-- A withdrawal notice names a slot (R168). -/
def State.withdraw (s : State) (slot : Nat) : State :=
  s.withRq (fun q =>
    let queue := q.queue.filter (fun r => r.slot ≠ slot)
    { q with
      queue := queue, stale := if queue.isEmpty then none else q.stale,
      opened := q.opened.map (fun o => if o.slot = slot then { o with withdrawn := true } else o) })

/-! ### Soft reset (R164, R172) -/

/-- Soft reset: the open record of a capture in flight is discarded, the stale timer set anew. -/
def State.recordSoftReset (s : State) (inFlight : Bool) : State :=
  (if inFlight then s.withRq (fun q => { q with opened := none }) else s).staleRestart

end Sys2Proof.Machine
end

