-- ==== Sys2Proof/Machine/Memory.lean ====
section
/-! DEFINITION. The stacked DRAM: 1 GiB, held as the bytes written so far with strictly rising addresses (R135, log 7). -/

namespace Sys2Proof.Machine

/-- One slot holds 32 MiB (R135). -/
def slotSize : Nat := 33554432

/-- 32 slots: the DRAM has 2^30 bytes (R135). -/
def dramSize : Nat := 32 * slotSize

/-- Slot s occupies the bytes from s × 32 MiB (R135). -/
def dramAddress (slot off : Nat) : Nat := slot * slotSize + off

/-- The byte written at an address, if one has been. -/
def dramRead (m : List Host.Cell) (addr : Nat) : Option Byte :=
  match m with
  | [] => none
  | (x, v) :: rest => if x = addr then some v else if addr < x then none else dramRead rest addr

/-- Put a byte in its place, addresses strictly rising. -/
def dramInsert (m : List Host.Cell) (addr : Nat) (v : Byte) : List Host.Cell :=
  match m with
  | [] => [(addr, v)]
  | (x, w) :: rest =>
    if addr < x then (addr, v) :: (x, w) :: rest
    else if addr = x then (x, v) :: rest
    else (x, w) :: dramInsert rest addr v

/-- Write one byte; the DRAM has no byte from 2^30 on. -/
def dramWrite (m : List Host.Cell) (addr : Nat) (v : Byte) : List Host.Cell :=
  if addr < dramSize then dramInsert m addr v else m

/-- Write the bytes of a grant, oldest first. -/
def dramWriteAll (m : List Host.Cell) (cells : List Host.Cell) : List Host.Cell :=
  cells.foldl (fun acc x => dramWrite acc x.1 x.2) m

/-- Addresses strictly rising from a bound, all below 2^30. -/
def dramRising (lo : Nat) : List Host.Cell → Bool
  | [] => true
  | (x, _) :: rest => lo ≤ x && x < dramSize && dramRising (x + 1) rest

/-- The canonical form of the DRAM contents. -/
def dramWf (m : List Host.Cell) : Bool := dramRising 0 m

/-- What a stream reads at an address: the byte written there, or the free value of a byte never written (R159). -/
def State.dramByte (s : State) (addr : Nat) : Byte :=
  (dramRead s.store.dram addr).getD (Config.dramPowerOn s.epoch addr)

/-- A read of n bytes from an address upward. -/
def State.dramBytes (s : State) (addr : Nat) (n : Nat) : List Byte :=
  (List.range n).map (fun i => s.dramByte (addr + i))

end Sys2Proof.Machine
end

