-- ==== Sys2Proof/Machine/BurstStorage.lean ====
section
/-! DEFINITION. The Burst Store: store states, refresh, the slot table, the ingest buffer, the arbiter, streams, release and
clear. -/

namespace Sys2Proof.Machine

/-- A change of the store's own state. -/
def State.withStore (s : State) (f : Store → Store) : State := { s with store := f s.store }

/-! ### Sizes and spans (R135, R144, R148, R153) -/

/-- A burst holds up to 2 KiB. -/
def burstBytes : Nat := 2048

/-- The ingest buffer holds 64 KiB; its half makes ingest outrank refresh. -/
def bufferBytes : Nat := 65536

/-- An output FIFO holds 16 KiB; above this fill it has less than 2 KiB free. -/
def fifoBytes : Nat := 16384
def fifoRoomBelow : Nat := 14336

/-- Grant durations in units of 10 ns (Table 7-2). -/
def dataGrant : Nat := 16
def refreshGrant : Nat := 35

/-! ### Slots (R142, R155) -/

/-- The entry of a slot. -/
def Store.slotAt (b : Store) (i : Nat) : Slot := b.slots.getD i Slot.freed

/-- An entry changed. -/
def Store.onSlot (b : Store) (i : Nat) (f : Slot → Slot) : Store := { b with slots := modifyAt f b.slots i }

/-- The lowest-numbered slot in a state. -/
def Store.firstSlot (b : Store) (st : SlotState) : Option Nat := b.slots.findIdx? (fun x => x.state = st)

/-- A pin is dropped; a Releasing slot without pins becomes Free (R155). -/
def Slot.unpin (x : Slot) : Slot :=
  if x.state = .releasing ∧ x.pins ≤ 1 then Slot.freed else { x with pins := x.pins - 1 }

/-- A slot whose frame is discarded: Free without pins, Releasing with (R154). -/
def Slot.release (x : Slot) : Slot :=
  if x.pins = 0 then Slot.freed else { x with state := .releasing, drainPort := none }

/-! ### Requests and the arbiter (R145 to R147) -/

/-- Ingest requests with 2 KiB or a remnant in the buffer (R145). -/
def Store.ingestRequests (b : Store) : Bool := burstBytes ≤ b.buf.length || 0 < b.remnant

/-- The ingest buffer holds a byte bound for a slot (R145). -/
def Store.boundFor (b : Store) (slot : Nat) : Bool := b.buf.any (fun x => x.1 / slotSize = slot)

/-- A stream requests (R145). -/
def Store.streamRequests (b : Store) (p : Port) : Bool :=
  match b.streams.get p with
  | none => false
  | some st => st.next < st.endOff && (b.fifos.get p).length ≤ fifoRoomBelow && !b.boundFor st.slot

/-- The cyclic order of the level-one ring from a position (R147). -/
def ringFrom : RingPos → List RingPos
  | .ingest => [.ingest, .portA, .portB, .portC, .group]
  | .portA => [.portA, .portB, .portC, .group, .ingest]
  | .portB => [.portB, .portC, .group, .ingest, .portA]
  | .portC => [.portC, .group, .ingest, .portA, .portB]
  | .group => [.group, .ingest, .portA, .portB, .portC]

/-- The position after one in the level-one ring. -/
def RingPos.after : RingPos → RingPos
  | .ingest => .portA
  | .portA => .portB
  | .portB => .portC
  | .portC => .group
  | .group => .ingest

/-- The cyclic order of the group ring from a position. -/
def portsFrom : Port → List Port
  | .a => [.a, .b, .c]
  | .b => [.b, .c, .a]
  | .c => [.c, .a, .b]

def portAfter : Port → Port
  | .a => .b
  | .b => .c
  | .c => .a

/-- A promoted port with a request. -/
def State.promotedRequests (s : State) (p : Port) : Bool := s.promoted p && s.store.streamRequests p

/-- A port of the group ring with a request. -/
def State.groupRequests (s : State) (p : Port) : Bool := !s.promoted p && s.store.streamRequests p

/-- A present position of the level-one ring requests (R147). -/
def State.ringRequests (s : State) : RingPos → Bool
  | .ingest => s.store.ingestRequests
  | .portA => s.promotedRequests .a
  | .portB => s.promotedRequests .b
  | .portC => s.promotedRequests .c
  | .group => s.groupRequests .a || s.groupRequests .b || s.groupRequests .c

/-- The port that Group stands for: the first requesting one from the group pointer. -/
def State.groupPort (s : State) : Option Port := (portsFrom s.store.ring2).find? s.groupRequests

/-- A grant for a requester begins now (Table 7-2, R145). -/
def State.grantFor (s : State) (who : Requester) : Grant :=
  match who with
  | .ingest => { who := who, bytes := min burstBytes s.store.buf.length, endAt := s.clock + dataGrant, discard := false }
  | .refresh => { who := who, bytes := 0, endAt := s.clock + refreshGrant, discard := false }
  | .stream p =>
    { who := who, endAt := s.clock + dataGrant, discard := false,
      bytes := match s.store.streams.get p with
        | none => 0
        | some st => min burstBytes (st.endOff - st.next) }

/-- A choice: the requester and the ring pointers after it (R146, R147). -/
def State.ringChoice (s : State) : Option (Requester × RingPos × Port) :=
  match (ringFrom s.store.ring1).find? s.ringRequests with
  | none => none
  | some pos =>
    match pos with
    | .ingest => some (.ingest, pos.after, s.store.ring2)
    | .portA => some (.stream .a, pos.after, s.store.ring2)
    | .portB => some (.stream .b, pos.after, s.store.ring2)
    | .portC => some (.stream .c, pos.after, s.store.ring2)
    | .group => s.groupPort.map (fun p => (.stream p, pos.after, portAfter p))

/-- The first tier with a request (R146). -/
def State.arbiterChoice (s : State) : Option (Requester × RingPos × Port) :=
  if 32768 ≤ s.store.buf.length then some (.ingest, s.store.ring1, s.store.ring2)
  else if s.store.urgent then some (.refresh, s.store.ring1, s.store.ring2)
  else
    match s.ringChoice with
    | some x => some x
    | none => if 0 < s.store.backlog then some (.refresh, s.store.ring1, s.store.ring2) else none

/-- The DRAM is free for a grant: Ready, none in progress, and out of self-refresh (R136, R141, R145). -/
def State.dramFree (s : State) : Bool :=
  s.store.state = .ready && s.store.grant.isNone && s.store.wake.isNone

/-- The arbiter chooses, if the DRAM is free (R145). -/
def State.arbitrate (s : State) : State :=
  if s.dramFree then
    match s.arbiterChoice with
    | none => s
    | some (who, r1, r2) => s.withStore (fun b => { b with grant := some (s.grantFor who), ring1 := r1, ring2 := r2 })
  else s

/-! ### Self-refresh (R140, R141) -/

/-- No stream is open. -/
def Store.noStreams (b : Store) : Bool := b.streams.a.isNone && b.streams.b.isNone && b.streams.c.isNone

/-- The store enters SelfRefresh when its conditions hold and the work owed is done (R140). -/
def State.enterSelfRefresh (s : State) : State :=
  if s.store.state = .ready ∧ s.fc.cadence = .still ∧ s.store.noStreams ∧ (s.store.firstSlot .filling).isNone ∧
      s.store.buf.isEmpty ∧ s.store.backlog = 0 ∧ s.store.grant.isNone ∧ s.store.wake.isNone then
    s.withStore (fun b => { b with state := .selfRefresh, trickle := none })
  else s

/-- The arbiter chooses and the entry to SelfRefresh is looked at: after each event of the store. -/
def State.storeSettle (s : State) : State := s.arbitrate.enterSelfRefresh

/-- The full refresh period from now (R138). -/
def State.tricklePeriod (s : State) : Option Nat := some (s.clock + 10 * s.settingNat ixRefreshPeriod)

/-- The store leaves SelfRefresh (R141). -/
def State.leaveSelfRefresh (s : State) : State :=
  if s.store.state = .selfRefresh then
    s.withStore (fun b => { b with
      state := .ready, backlog := 3, urgent := true, trickle := s.tricklePeriod, wake := some (s.clock + us 1) })
  else s

/-! ### Refresh (R137 to R139) -/

/-- The start-up sequence ends (R137). -/
def State.startupEnd (s : State) : State :=
  (s.withStore (fun b => { b with
    state := .ready, startup := none, backlog := 3, urgent := true, trickle := s.tricklePeriod })).storeSettle

/-- An expiry of the trickle counter (R138, R139). -/
def State.trickleEnd (s : State) : State :=
  (s.withStore (fun b => { b with
    backlog := satAdd 3 b.backlog 1, urgent := b.urgent || decide (2 ≤ b.backlog), trickle := s.tricklePeriod })).storeSettle

/-! ### Ingest (R143, R144) -/

/-- The gate pass: the slot becomes Filling with the capture's number (R143). -/
def State.slotFill (s : State) (slot : Nat) : State :=
  s.withStore (fun b => b.onSlot slot (fun x => { x with
    state := .filling, capNo := some s.fc.capNo, bytes := 0, incomplete := false }))

/-- A byte of a capture in readout: accepted, or dropped at a limit (R144). -/
def State.ingestByte (s : State) (v : Byte) : State :=
  match s.store.firstSlot .filling with
  | none => s
  | some i =>
    let x := s.store.slotAt i
    if x.bytes < slotSize ∧ s.store.buf.length < bufferBytes then
      s.withStore (fun b => { b with buf := b.buf ++ [(dramAddress i x.bytes, v)] }.onSlot i (fun y =>
        { y with bytes := y.bytes + 1 }))
    else if x.incomplete then s
    else (s.withStore (fun b => b.onSlot i (fun y => { y with incomplete := true }))).raise .framePartial

/-- The capture's readout end: Filling becomes Full, and what is still in the buffer is a remnant (R143, R144). -/
def State.slotFull (s : State) (timedOut : Bool) : State :=
  match s.store.firstSlot .filling with
  | none => s
  | some i =>
    (s.withStore (fun b => { b with remnant := b.buf.length }.onSlot i (fun x =>
      { x with state := .full, incomplete := x.incomplete || timedOut }))).storeSettle

/-! ### Streams (R148 to R153) -/

/-- The stall timer of a port follows its FIFO (R153). -/
def State.stallUpdate (s : State) (p : Port) : State :=
  match s.store.streams.get p with
  | none => s
  | some st =>
    s.withStore (fun b => { b with
      streams := b.streams.set p (some { st with
        stall := if fifoRoomBelow < (b.fifos.get p).length then some (st.stall.getD s.clock) else none }) })

/-- A grant in progress for a port's stream is marked: its data will be discarded (R145, R152). -/
def Store.discardGrant (b : Store) (p : Port) : Store :=
  { b with grant := b.grant.map (fun g => if g.who = .stream p then { g with discard := true } else g) }

/-- The slot's part in the end of a stream: a drain's slot takes a state, a review's pin is dropped (R149, R152). -/
def Slot.streamGone (x : Slot) (kind : StreamKind) (drained : SlotState) : Slot :=
  match kind with
  | .drain => { x with state := drained, drainPort := none }
  | .review => x.unpin

/-- A stream's record is closed, its FIFO discarded, its last end recorded (R149, R152). -/
def State.streamClose (s : State) (p : Port) (reason : EndReason) (drained : SlotState) : State :=
  match s.store.streams.get p with
  | none => s
  | some st =>
    s.withStore (fun b => ({ b with
      streams := b.streams.set p none, fifos := b.fifos.set p [],
      ends := b.ends.set p (some { slot := st.slot, kind := st.kind, reason := reason }) }.onSlot st.slot (fun x =>
        x.streamGone st.kind drained)).discardGrant p)

/-- A stream ends when its last byte has been taken, or at its opening when it has none (R149). -/
def State.streamDone (s : State) (p : Port) : State :=
  match s.store.streams.get p with
  | none => s
  | some st =>
    if st.next = st.endOff ∧ (s.store.fifos.get p).isEmpty then (s.streamClose p .done .spent).raiseTo p .streamEnded
    else s

/-- A stream opens: its record, the store out of SelfRefresh, its end at once when it has no byte (R149 to R151). -/
def State.streamOpen (s : State) (p : Port) (kind : StreamKind) (slot first endOff : Nat) : State :=
  let t := s.leaveSelfRefresh.withStore (fun b => { b with
    streams := b.streams.set p (some { kind := kind, slot := slot, next := first, endOff := endOff, stall := none }),
    fifos := b.fifos.set p [] })
  (t.streamDone p).storeSettle

/-- A clock edge of a stream output: the oldest byte with valid set, or valid clear (R148). -/
def State.streamByteOut (s : State) (p : Port) : State :=
  match s.store.fifos.get p with
  | [] => s.put (.stream p none)
  | v :: rest =>
    ((((s.put (.stream p (some v))).withStore (fun b => { b with fifos := b.fifos.set p rest })).stallUpdate p).streamDone
      p).storeSettle

/-- A stream is cut at the stall limit (R153). -/
def State.streamCut (s : State) (p : Port) : State :=
  (((s.streamClose p .cut .full).withStore (fun b => { b with cut := b.cut.set p true })).raiseTo p .streamCut).storeSettle

/-! ### Grants (R145) -/

/-- The bytes of an ingest grant are written; the rest of the buffer stays (R145). -/
def Store.ingestDone (b : Store) (n : Nat) : Store :=
  { b with dram := dramWriteAll b.dram (b.buf.take n), buf := b.buf.drop n, remnant := b.remnant - n }

/-- A refresh grant ends (R138, R139). -/
def Store.refreshDone (b : Store) : Store :=
  { b with backlog := b.backlog - 1, urgent := b.urgent && decide (2 ≤ b.backlog) }

/-- The data of a stream grant reaches the FIFO (R145). -/
def State.streamData (s : State) (p : Port) (n : Nat) : State :=
  match s.store.streams.get p with
  | none => s
  | some st =>
    (s.withStore (fun b => { b with
      fifos := b.fifos.set p (b.fifos.get p ++ s.dramBytes (dramAddress st.slot st.next) n),
      streams := b.streams.set p (some { st with next := st.next + n }) })).stallUpdate p

/-- The grant in progress ends, and the arbiter chooses the next (R135, R145). -/
def State.grantDone (s : State) : State :=
  match s.store.grant with
  | none => s
  | some g =>
    let t := s.withStore (fun b => { b with grant := none })
    let t := match g.who with
      | .ingest => t.withStore (fun b => b.ingestDone g.bytes)
      | .refresh => t.withStore Store.refreshDone
      | .stream p => if g.discard then t else t.streamData p g.bytes
    t.storeSettle

/-! ### Release and clear (R154 to R156) -/

/-- A Full, Draining or Spent slot is released (R154). -/
def State.slotRelease (s : State) (slot : Nat) : State :=
  let x := s.store.slotAt slot
  let t := match x.state, x.drainPort with
    | .draining, some p => (s.streamClose p .released .full).raiseTo p .streamEnded
    | _, _ => s
  ((t.withdraw slot).withStore (fun b => b.onSlot slot Slot.release)).storeSettle

/-- CLEAR STORE acts on a slot that is not Filling and not Free (R156). -/
def Slot.clearable (x : Slot) : Bool := x.state ≠ .filling && x.state ≠ .free

/-- A stream open on one of the slots that CLEAR STORE acts on ends with reason Cleared (R156). -/
def State.clearStream (slots : List Nat) (s : State) (p : Port) : State :=
  match s.store.streams.get p with
  | none => s
  | some st => if st.slot ∈ slots then (s.streamClose p .cleared .full).raiseTo p .streamEnded else s

/-- The slots CLEAR STORE acts on, as it finds them. -/
def State.clearSlots (s : State) : List Nat :=
  (List.range 32).filter (fun i => (s.store.slotAt i).clearable)

/-- The slots found are cleared: their streams, their records, the slots themselves (R156). -/
def State.clearAll (s : State) (slots : List Nat) : State :=
  let unread := slots.any (fun i => (s.store.slotAt i).state = .full)
  let t := [Port.a, .b, .c].foldl (State.clearStream slots) s
  let t := slots.foldl (fun x i => (x.withdraw i).withStore (fun b => b.onSlot i (fun _ => Slot.freed))) t
  (if unread then t.raise .storeClearedUnread else t).storeSettle

/-- CLEAR STORE; one that finds every slot Free or Filling changes nothing (R156). -/
def State.storeClear (s : State) : State := if s.clearSlots.isEmpty then s else s.clearAll s.clearSlots

/-! ### Soft reset (R158) -/

/-- A slot at a soft reset: no streams, no pins. -/
def Slot.softReset (x : Slot) : Slot :=
  match x.state with
  | .filling | .releasing => Slot.freed
  | .draining => { x with state := .full, drainPort := none, pins := 0 }
  | .free | .full | .spent => { x with pins := 0 }

/-- The last end record of a port at a soft reset. -/
def Store.endClosed (b : Store) (p : Port) : Option LastEnd :=
  match b.streams.get p with
  | none => b.ends.get p
  | some st => some { slot := st.slot, kind := st.kind, reason := .closed }

/-- The store's part of a soft reset (R158); what is in the buffer beyond the remnant belonged to the Filling slot, if there
is one. -/
def Store.softReset (b : Store) : Store :=
  let b' := ((b.discardGrant .a).discardGrant .b).discardGrant .c
  { b' with
    slots := b.slots.map Slot.softReset,
    buf := if (b.firstSlot .filling).isSome then b.buf.take b.remnant else b.buf,
    streams := PerPort.all none, fifos := PerPort.all [], cut := PerPort.all false,
    ends := { a := b.endClosed .a, b := b.endClosed .b, c := b.endClosed .c }, ring1 := .ingest, ring2 := .a }

end Sys2Proof.Machine
end

