-- ==== Sys2Proof/Machine/LensMoves.lean ====
section
/-! DEFINITION. Lens Drive in Ready: requests with their completions, tracking points, halt, pending moves, stops. -/

namespace Sys2Proof.Machine

/-- A change of Lens Drive's own state. -/
def State.withLens (s : State) (f : Lens → Lens) : State := { s with lens := f s.lens }

/-- The interpolated values are computed again, and their changes given to the planner and the Stabilizer (R83). -/
def State.reinterpolate (s : State) : State :=
  let iv := valuesAt s.loader.table s.lens.zoom.pos
  { s with lens := { s.lens with iv := iv }, stab := { s.stab with gain := iv.gain } }.giveLimits

/-- A focus request whose completion at once is reported to Focus Search (R77). -/
def State.requestFocus (s : State) (target : Int) (origin : Origin) : State :=
  let x := s.giveFocus target origin
  if x.2 then x.1.afFocusDone origin else x.1

/-- The curve's part of a tracking point (R85). -/
def State.trackFocus (s : State) : State :=
  if s.lens.focus.target = some s.curve then s else s.requestFocus s.curve .tracking

/-- The iris part of a tracking point (R85). -/
def State.trackIris (s : State) : State :=
  if s.lens.pmax < s.lens.iris.target.getD 0 then s.giveIris s.lens.pmax .lens else s

/-- A tracking point (R85). -/
def State.trackingPoint (s : State) : State :=
  if s.lensReady ∧ s.lens.d.isSome then s.trackFocus.trackIris else s

/-- A zoom move completes: ZOOM_REACHED for a link move (R81), and a tracking point (R85). -/
def State.zoomDone (s : State) (origin : Origin) : State :=
  (if origin = .link then s.raise .zoomReached else s).trackingPoint

/-- A zoom request (R74, R81). -/
def State.requestZoom (s : State) (target : Int) (origin : Origin) (speed : Nat) : State :=
  let x := s.give .zoom target origin speed
  if x.2 then x.1.zoomDone origin else x.1

/-- ZOOM HALT in Ready (R80). -/
def State.zoomHalt (s : State) : State :=
  let r := s.lens.zoom
  if r.inFlight then (s.setAct .zoom { r.rest with target := r.pos }).zoomDone r.origin
  else
    match r.pending with
    | none => s
    | some m =>
      let t := s.setAct .zoom { r with pending := none }
      if m.origin = .link then t.raise .zoomReached else t

/-- The pending target of an actuator is given as a fresh request (R75). -/
def State.startPending (s : State) (which : Actuator) : State :=
  match (s.act which).pending with
  | none => s
  | some m =>
    let t := s.setAct which { s.act which with pending := none }
    match which with
    | .zoom => t.requestZoom m.target m.origin m.speed
    | .focus => t.requestFocus m.target m.origin
    | .iris => t.giveIris m.target m.origin

/-- The capture hold is released: the pending moves start (R75). -/
def State.startAllPending (s : State) : State := ((s.startPending .zoom).startPending .focus).startPending .iris

/-- Every move stops at its present step; a focus move stopped so is a completion for the stamp (R87). -/
def State.stopMoves (s : State) : State :=
  let t := if s.lens.focus.inFlight then s.statFocusDone else s
  t.withLens (fun l => { l with zoom := l.zoom.stop, focus := l.focus.stop, iris := l.iris.stop })

/-- Soft reset of Lens Drive by lens state (R87). -/
def State.lensSoftReset (s : State) : State :=
  match s.lens.state with
  | .ready => s.stopMoves
  | .extending | .retracting => s.stopMoves.withLens (fun l => { l with state := .intermediate, drive := .none })
  | .homing | .stowed | .intermediate | .faulted => s

end Sys2Proof.Machine
end

