-- ==== Sys2Proof/Machine/FrameControlling.lean ====
section
/-! DEFINITION. Frame Control: cadence and activity, the live loop, the gate, the capture sequence, soft reset. -/

namespace Sys2Proof.Machine

/-- A change of Frame Control's own state. -/
def State.withFc (s : State) (f : FrameControl → FrameControl) : State := { s with fc := f s.fc }

/-! ### Quiet timers and bursts (R5, R16) -/

/-- The moment quiet timer 1 ends when it starts now (R5). R1 measures a span of Frame Control by readings of the time base and leaves
open where within its microsecond a span ends that began between two ticks; the model ends it exactly its length after its start
(DESIGN CHOICE, log 49). -/
def State.quietSpan1 (s : State) : Option Nat := some (s.clock + sec (s.settingNat ixQuietTime1))

/-- The moment quiet timer 2 ends when it starts now (R5, log 49). -/
def State.quietSpan2 (s : State) : Option Nat := some (s.clock + sec (s.settingNat ixQuietTime2))

/-- The timer of the cadence in force starts with its full span (R5). -/
def State.quietRestart (s : State) : State :=
  match s.fc.cadence with
  | .liveFast => s.withFc (fun c => { c with quiet1 := s.quietSpan1, quiet2 := none })
  | .liveSlow => s.withFc (fun c => { c with quiet1 := none, quiet2 := s.quietSpan2 })
  | .still => s.withFc (fun c => { c with quiet1 := none, quiet2 := none })

/-- Neither timer runs while a busy condition holds; at the end of the last one the timer restarts (R5). `was` tells
whether one held before the step. -/
def State.quietSync (was : Bool) (s : State) : State :=
  if !s.fc.started then s
  else if s.busy then s.withFc (fun c => { c with quiet1 := none, quiet2 := none })
  else if was then s.quietRestart
  else s

/-- A step whose effect on the busy conditions moves the quiet timers. -/
def State.watchBusy (f : State → State) (s : State) : State := (f s).quietSync s.busy

/-- The burst has ended if it ran before: BURST_ENDED, the burst count, the penalty, Tracking (R16, R53, R103). -/
def State.burstCheck (was : Bool) (s : State) : State :=
  if was && !s.burstRunning then
    (((s.withFc (fun c => { c with burstCount := 0 })).raise .burstEnded).setPenalty false).trackCheck
  else s

/-- The owed shots and the continuous flag are cleared (R15, R16). -/
def State.clearShots (s : State) : State :=
  State.burstCheck s.burstRunning (s.withFc (fun c => { c with owed := 0, continuous := false }))

/-! ### Settings transfers (R9, R21, R61) -/

/-- The number the next transfer carries. -/
def State.nextTransfer (s : State) (v : InEffect) : Transfer := { id := s.fc.xferId, values := v }

/-- A settings transfer begins on the sensor control link. -/
def State.beginTransfer (s : State) (v : InEffect) : State :=
  (s.withFc (fun c => { c with xfers := c.xfers ++ [s.nextTransfer v], xferId := c.xferId + 1 })).put
    (.settings (microsOf v.t) v.g v.kind)

/-- A live frame's transfer begins: the live plan is latched (R9, R61). -/
def State.beginLive (s : State) (start : Nat) : State :=
  (s.beginTransfer s.liveLatch).withFc (fun c => { c with next := .sent start (s.nextTransfer s.liveLatch) false })

/-- The settings lead and the frame period in units of 10 ns, counted exactly from the span's start (R9, R21, log 49). -/
def State.leadSpan (s : State) : Nat := us (s.settingNat ixSettingsLead)
def State.periodSpan (s : State) : Nat := us s.period

/-- The first live frame after entry to LIVE: its transfer begins at once (R9). -/
def State.planFirst (s : State) : State := s.beginLive (s.clock + s.leadSpan)

/-- A live frame is planned at its predecessor's exposure start, which is now; a transfer whose moment is past begins at once
(R9). -/
def State.planNext (s : State) : State :=
  if s.periodSpan ≤ s.leadSpan then s.beginLive (s.clock + s.periodSpan)
  else s.withFc (fun c => { c with next := .planned s.clock s.leadSpan })

/-! ### The live loop and the gate (R8, R19, R20) -/

/-- The live loop runs (R8). -/
def State.loopRuns (s : State) : Bool := s.lensReady && s.fc.cadence ≠ .still

/-- Frame Control goes to LIVE and begins the first live frame (R8, R19). -/
def State.enterLive (s : State) : State := (s.withFc (fun c => { c with state := .live })).planFirst

/-- The capture as latched at the gate pass (R20 to R22, R62). -/
def State.newCapture (s : State) : Capture :=
  let plan := s.captureLatch
  { mode := s.burstMode, plan := plan, supportOff := !s.settingOn ixSupportMode, lead := s.leadSpan,
    travel := us (s.settingNat ixCloseTravel),
    transfer := s.nextTransfer { t := plan.t, g := plan.g, kind := .capture, gmax := plan.gmax },
    second := none, acked := false, late := false, releaseAt := some (s.clock + s.leadSpan), secondAt := none,
    released := 0, triggerAt := none, closeAt := none, closed := none }

/-- Capture number and burst count at a gate pass (R3). -/
def State.countCapture (s : State) : State :=
  s.withFc (fun c => { c with capNo := c.capNo + 1, burstCount := satAdd 255 c.burstCount 1 })

/-- The gate passes (R20): the numbers, the slot, the open record, the latch, ARMING, and the settings transfer (R21). -/
def State.gatePass (s : State) : State :=
  let slot := (s.store.firstSlot .free).getD 0
  let t := ((s.countCapture).slotFill slot)
  let t := t.recordOpen slot t.burstMode
  let c := t.newCapture
  let t := t.beginTransfer c.transfer.values
  (t.withFc (fun x => { x with state := .arming, cap := some c, next := .none })).derive

/-- The gate has failed in REOPENING, or after a BurstHigh capture (R19). -/
def State.gateFailed (s : State) : State :=
  if s.loopRuns then s.enterLive else s.withFc (fun c => { c with state := .idle })

/-- The gate is evaluated in REOPENING, or after a BurstHigh capture (R19). -/
def State.evaluateGate (s : State) : State := if s.gateOpen then s.gatePass else s.gateFailed

/-- A live-frame boundary (R8, R19). -/
def State.liveBoundary (s : State) : State :=
  if !s.loopRuns then s.withFc (fun c => { c with state := .idle, next := .none })
  else if s.gateOpen then s.gatePass
  else if s.fc.next = .none then s.planFirst
  else s

/-- Frame Control leaves IDLE when the loop runs: the gate first, else LIVE with the fast start flag set (R8, R47). -/
def State.leaveIdle (s : State) : State :=
  if s.fc.state = .idle ∧ s.loopRuns then
    if s.gateOpen then s.gatePass else { s with ep := { s.ep with fastStart := true } }.enterLive
  else s

/-- The live loop stops: no new transfer, a frame not yet exposing is dropped (R7, R8). -/
def State.stopLoop (s : State) : State :=
  if s.fc.state = .live then
    s.withFc (fun c => { c with next := .none, state := if c.frame.isNone then .idle else .live })
  else s

/-! ### Cadence (R4 to R7) -/

/-- Tlive is computed again for the period in force (R4). -/
def State.renewTlive (s : State) : State := s.setTlive (tliveOf s.period)

/-- The cadence becomes STILL (R7). -/
def State.goStill (s : State) : State :=
  let t := (s.withFc (fun c => { c with cadence := .still })).stopLoop
  let t := t.afIdle.calAbort
  (t.stopSampling.derive).storeSettle

/-- The store and Frame Control act on the cadence leaving STILL, either first (R141, log 3). -/
def State.wakeBoth (s : State) : State :=
  if s.store.state = .selfRefresh ∧ s.fc.state = .idle then
    if s.choice 2 = 0 then s.chosen.leaveSelfRefresh.storeSettle.leaveIdle
    else s.chosen.leaveIdle.leaveSelfRefresh.storeSettle
  else s.leaveSelfRefresh.storeSettle.leaveIdle

/-- The cadence becomes a live level (R4, R7, R113, R141). On leaving STILL, Tlive and the Stabilizer's state with the planner runs
and iris requests they bring come before the gate evaluation; R59 and R43 leave the order open (DESIGN CHOICE, log 40). -/
def State.goLive (s : State) (level : Cadence) : State :=
  let t := (s.withFc (fun c => { c with cadence := level })).renewTlive
  if s.fc.cadence = .still then t.resumeSampling.derive.wakeBoth else t

/-- The cadence takes a level (R4). -/
def State.setCadence (s : State) (level : Cadence) : State :=
  if s.fc.cadence = level then s else if level = .still then s.goStill else s.goLive level

/-- Activity (R6): LIVE-FAST, quiet timer 2 stopped, quiet timer 1 restarted when nothing is busy. -/
def State.activity (s : State) : State :=
  let t := (s.setCadence .liveFast).withFc (fun c => { c with quiet2 := none })
  if t.fc.started ∧ ¬ t.busy then t.withFc (fun c => { c with quiet1 := t.quietSpan1 }) else t

/-! ### Live frames (R9 to R12) -/

/-- The values a live frame is exposed with, and whether its settings are late (R10). An acknowledged frame is exposed with its own
transfer's values also where an older transfer's later acknowledgement has made other values the settings in effect; R10 leaves it
open (DESIGN CHOICE, log 43). -/
def State.liveApplied (s : State) (x : Transfer) (acked : Bool) : InEffect × Bool :=
  if acked then (x.values, false) else (s.fc.inEffect, true)

/-- The exposure start notice of the frame whose number comes next, with its settings as applied (R2, R12). -/
def State.startNotice (s : State) (v : InEffect) (late : Bool) : StartNotice :=
  { seq := s.fc.fseq + 1, stamp := s.timeBase, kind := v.kind, t := v.t, g := v.g, gmax := v.gmax, late := late }

/-- A frame's exposure start: its number is counted, it stands on the pixel input, the notice goes to the other blocks, and the
trigger is put out (R2, R9, R12, R22). -/
def State.startFrame (s : State) (v : InEffect) (late : Bool) : State :=
  let t := s.withFc (fun c => { c with
    fseq := c.fseq + 1, notice := some (s.startNotice v late),
    frame := some { kind := v.kind, phase := .exposing, limit := s.clock + exposureSpan v.t } })
  (t.statOpen (s.startNotice v late)).put (.trigger v.kind)

/-- A live frame's exposure start (R9, R10, R12, R2). -/
def State.liveStart (s : State) (x : Transfer) (acked : Bool) : State :=
  let v := s.liveApplied x acked
  let t := s.startFrame { v.1 with kind := .live } v.2
  (if v.2 then t.raise .settingsLate else t).planNext

/-- A live frame's exposure end: its readout begins, and the readout limit runs from now (R9, R11, log 49). -/
def State.liveEnd (s : State) : State :=
  (s.withFc (fun c => { c with
    frame := c.frame.map (fun f => { f with phase := .reading, limit := s.clock + ms (s.settingNat ixReadoutLimit) }) }))
    |>.statEndSpan

/-! ### The capture sequence (R21, R22, R62, R63) -/

/-- A change of the capture in flight. -/
def State.onCap (s : State) (f : Capture → Capture) : State := s.withFc (fun c => { c with cap := c.cap.map f })

/-- The latched plan was made with credit, and the Stabilizer is not Active (R62). -/
def State.creditLost (s : State) (c : Capture) : Bool :=
  c.plan.program ≠ .manual && c.supportOff && 0 < c.plan.credit && s.stab.state ≠ .active

/-- T as confirmed (R62). -/
def State.confirmedT (s : State) (c : Capture) : Int :=
  if s.creditLost c then min c.plan.t s.lens.iv.tlimit else c.plan.t

/-- The close command is issued (R22, R26). -/
def State.issueClose (s : State) : State :=
  ((s.onCap (fun c => { c with closed := some s.clock, closeAt := none })).withFc (fun c =>
    { c with shutter := .closing })).put .closeShutter

/-- G as applied (R21): that of the settings in effect when the capture's settings are late. Where the close command comes
first, they are those in effect at the exposure start, not at the release (DESIGN CHOICE, log 23). A capture whose transfer was
acknowledged in time takes its own plan's also where an older transfer's later acknowledgement has made other values the settings in
effect; R21 and R10 leave it open (DESIGN CHOICE, log 47). -/
def State.appliedG (s : State) (c : Capture) : Int := if c.late then s.fc.inEffect.g else c.plan.g

/-- Gmax as applied (R21), at the same moment as G (log 23) and from the same values (log 47). -/
def State.appliedGmax (s : State) (c : Capture) : Int := if c.late then s.fc.inEffect.gmax else c.plan.gmax

/-- The capture's exposure start (R12, R22, R63, R118, R161). -/
def State.captureStart (s : State) (c : Capture) : State :=
  let g := s.appliedG c
  let a := s.appliedA
  let q := c.plan.t + g - a
  let isOver := c.plan.program ≠ .manual && c.plan.qraw < q
  let isUnder := c.plan.program ≠ .manual && q < c.plan.qraw
  let t := s.withFc (fun x => { x with state := .exposing, cap := some { c with triggerAt := none } })
  let t := (t.startFrame { t := c.plan.t, g := g, kind := .capture, gmax := s.appliedGmax c } c.late).residualStart
  let t := t.recordStart (t.startPartNow c.plan.t a g isOver isUnder c.late)
  if isOver || isUnder then t.raise .exposureLimit else t

/-- The release: the trigger or the close command, by comparing t with the close travel (R22), counted exactly from now (log 49). -/
def State.release (s : State) (c : Capture) : State :=
  let c := { c with plan := { c.plan with t := s.confirmedT c }, releaseAt := none, secondAt := none, released := s.clock }
  let span := exposureSpan c.plan.t
  if c.mode = .burstHigh then s.captureStart c
  else if span < c.travel then
    (s.withFc (fun x => { x with cap := some { c with triggerAt := some (s.clock + (c.travel - span)) } })).issueClose
  else
    let t := s.captureStart { c with closeAt := some (s.clock + (span - c.travel)) }
    if span = c.travel then t.issueClose else t

/-- The release is due: it takes place, or a second transfer of the same values begins (R21). -/
def State.releaseDue (s : State) (c : Capture) : State :=
  if c.acked then s.release c
  else
    (s.beginTransfer c.transfer.values).withFc (fun x => { x with
      cap := some { c with
        releaseAt := none, second := some (s.nextTransfer c.transfer.values).id, secondAt := some (s.clock + c.lead) } })

/-- The second transfer is not acknowledged in time (R21). -/
def State.secondTimeout (s : State) (c : Capture) : State := (s.raise .settingsLate).release { c with late := true }

/-- The trigger is due after a close command that was the release: the test is made again (R62). -/
def State.triggerDue (s : State) (c : Capture) : State :=
  if s.creditLost c ∧ s.lens.iv.tlimit < c.plan.t then
    s.withFc (fun x => { x with
      cap := some { c with
        plan := { c.plan with t := s.lens.iv.tlimit },
        triggerAt := some (c.released + (c.travel - exposureSpan s.lens.iv.tlimit)) } })
  else s.captureStart c

/-- An acknowledgement of a transfer makes its values the settings in effect (R10), and may be what a capture waits for
(R21). -/
def State.acknowledge (s : State) (x : Transfer) : State :=
  let t := s.withFc (fun c => { c with
    xfers := c.xfers.filter (fun y => y.id ≠ x.id), inEffect := x.values,
    next := match c.next with
      | .sent start y acked => .sent start y (acked || decide (y.id = x.id))
      | .planned base lead => .planned base lead
      | .none => .none })
  match t.fc.cap with
  | none => t
  | some c =>
    if c.transfer.id = x.id ∨ c.second = some x.id then
      let t := t.withFc (fun y => { y with cap := some { c with acked := true } })
      if c.secondAt.isSome then t.release { c with acked := true } else t
    else t

/-- The trigger pulse of a BurstHigh capture ends with its exposure (R22). -/
def State.pulseEnd (s : State) : State := if s.fc.cap.map Capture.mode = some .burstHigh then s.put .triggerEnd else s

/-- The capture's exposure end: READING, and what the other blocks do then (R22, R23, R53, R75, R112, R119, R162). The pending
moves start before the grade goes to the planner, so that a p asked for then is the later request (R59, R74, R75, log 22). The readout
limit runs from now (R11, log 49). -/
def State.captureEnd (s : State) : State :=
  let t := s.withFc (fun c => { c with
    state := .reading,
    shutter := match c.cap.map Capture.mode with
      | some .burstHigh => c.shutter
      | _ => .closed,
    frame := some { kind := .capture, phase := .reading, limit := s.clock + ms (s.settingNat ixReadoutLimit) } })
  (t.pulseEnd.statEndSpan.recordEnd.startAllPending.gradeEnd).derive

/-! ### Readout end (R11, R16, R24, R34) -/

/-- The readout-end record reaches the planner and Focus Search (R43, R93); a probe that it starts has not moved yet. -/
def State.takeRecord (s : State) : State :=
  match s.st.last with
  | none => s
  | some r => (s.meter r).afRecord r

/-- The first move of the probe that a record handed over in Tracking has started (R103, R104). -/
def State.movesProbe (s t : State) : State := if s.af.state = .tracking then t.probeMove else t

/-- The record is handed over, and a probe that it starts makes its first move (R43, R93, R104). -/
def State.handRecord (s : State) : State := s.movesProbe s.takeRecord

/-- The reopen command and REOPENING, the settle running from now (R24, R25, log 49). -/
def State.reopen (s : State) : State :=
  (s.withFc (fun c => { c with
    state := .reopening, cap := none, shutter := .reopening,
    settle := some (s.clock + us (s.settingNat ixReopenSettle)) })).put .reopenShutter

/-- What Frame Control does after a frame's readout end (R19, R24). -/
def State.afterReadout (s : State) (kind : FrameKind) : State :=
  match kind with
  | .live => if s.fc.state = .live then s.liveBoundary else s
  | .capture =>
    match s.fc.cap.map Capture.mode with
    | some .burstHigh => (s.withFc (fun c => { c with cap := none })).evaluateGate
    | _ => s.reopen

/-- The capture's part of a readout end: the decrement, the slot, the record, the burst (R16, R24, R143, R163). -/
def State.captureReadout (s : State) (timedOut : Bool) : State :=
  let was := s.burstRunning
  let t := ((s.withFc (fun c => { c with owed := c.owed - 1 })).slotFull timedOut).recordComplete timedOut
  State.burstCheck was t

/-- The record is taken before the frame's end is acted on; after a capture the first move of a probe that starts so is
requested only when the gate has been evaluated, which holds it pending when it passes (R103). R103 gives this for a BurstHigh capture
alone and leaves a live frame open: there the model requests that move before the gate evaluation, which then waits with LensMoving,
with shot priority Release too (DESIGN CHOICE, log 51). -/
def State.recordFirst (s : State) (kind : FrameKind) : State :=
  match kind with
  | .live => s.handRecord.afterReadout .live
  | .capture => s.movesProbe (s.takeRecord.afterReadout .capture)

/-- A frame's readout end, by completion or timeout. The record's way to the planner and Focus Search and the evaluation of
the gate are taken in either order (R43, R59, R103, log 3). -/
def State.readoutEnd (s : State) (f : InputFrame) (timedOut : Bool) : State :=
  let t := s.withFc (fun c => { c with frame := none })
  let t := (if timedOut then t.raise .framePartial else t).statSwap timedOut
  let t := match f.kind with
    | .live => t
    | .capture => t.captureReadout timedOut
  if t.choice 2 = 0 then t.chosen.recordFirst f.kind else (t.chosen.afterReadout f.kind).handRecord

/-- The reopen settle expires (R25, R26). -/
def State.settleEnd (s : State) : State :=
  let t := s.withFc (fun c => { c with settle := none, shutter := .opened })
  if t.fc.state = .reopening then t.evaluateGate else t

/-- The reopen command after an abort, the settle running from now (R26, log 49). -/
def State.abortReopen (s : State) : State :=
  (s.withFc (fun c => { c with
    reopenAt := none, shutter := .reopening, settle := some (s.clock + us (s.settingNat ixReopenSettle)) })).put
    .reopenShutter

/-! ### Soft reset (R26) -/

/-- A capture in flight is aborted: the close command at once if none was issued and the shutter is open, the reopen command
one close travel after the close (R26, log 49); a trigger pulse ends at the abort (log 21). -/
def State.abortCapture (s : State) : State :=
  match s.fc.cap with
  | none => s
  | some c =>
    let t := if s.window then s.pulseEnd else s
    let t := if c.closed.isNone ∧ s.fc.shutter = .opened then t.issueClose else t
    let due := (c.closed.getD s.clock) + c.travel
    if due ≤ s.clock then t.abortReopen else t.withFc (fun x => { x with reopenAt := some due })

/-- Frame Control at a soft reset, before it goes to LIVE or stays in IDLE (R26). -/
def State.fcSoftReset (s : State) : State :=
  let t := if s.inFlight then s.abortCapture else s
  let t := t.withFc (fun c => { c with
    state := .idle, cap := none, next := .none, frame := none, owed := 0, continuous := false,
    prepare := PerPort.all false, burstCount := 0, cadence := .liveFast, quiet2 := none,
    quiet1 := if c.started then s.quietSpan1 else none })
  t

/-- Soft reset of every block (R182, R26, R41, R65, R87, R108, R133, R158, R172, R188). The planner's run comes before the first live
transfer latches its plan (DESIGN CHOICE, log 40). Lens Drive stops its moves before the planner's run asks for the iris (DEDUCED, log
22). -/
def State.softReset (s : State) : State :=
  let wasInFlight := s.inFlight
  let t := { s with links := { s.links with pend := PerPort.all 0 }.refresh }
  let t := t.fcSoftReset.lensSoftReset
  let t := { t with af := t.af.softReset, st := t.st.softReset }
  let t := t.recordSoftReset wasInFlight
  let t := ((t.withStore Store.softReset).leaveSelfRefresh).storeSettle
  let t := t.stabSoftReset.resumeSampling
  let t := { t with ep := t.ep.softReset }
  let t := t.derive.renewTlive.plannerRun
  if t.lensReady then { t with ep := { t.ep with fastStart := true } }.enterLive else t

end Sys2Proof.Machine
end

