-- ==== Sys2Proof/Machine/LensDriving.lean ====
section
/-! DEFINITION. Lens Drive: the lens states, homing, EXTEND and RETRACT, the home check, faults, and the steps. -/

namespace Sys2Proof.Machine

/-! ### Into and out of Ready (R67) -/

/-- The quiet timers start when the lens first becomes Ready (R5). -/
def State.startTimers (s : State) : State :=
  if s.fc.started then s
  else
    let t := s.withFc (fun c => { c with started := true })
    if t.busy then t else t.quietRestart

/-- The lens becomes Ready: LENS_READY, the Stabilizer, the planner, the timers, the live loop (R67, R69). The planner's run and its
iris request come before the gate evaluation; R59 leaves the order open (DESIGN CHOICE, log 40). -/
def State.becomeReady (s : State) : State :=
  let t := (s.withLens (fun l => { l with state := .ready, drive := .none })).raise .lensReady
  t.derive.plannerRun.startTimers.leaveIdle

/-- The lens leaves Ready for Retracting: the shots, the live loop, Focus Search, the Stabilizer (R67, R16, R8, R129). -/
def State.leaveReady (s : State) : State :=
  let t := s.withLens (fun l => { l with state := .retracting })
  t.clearShots.stopLoop.afIdle.calAbort.derive

/-- The lens is Stowed (R68, R71). -/
def State.becomeStowed (s : State) : State :=
  (s.withLens (fun l => { l with state := .stowed, drive := .none })).raise .lensStowed

/-- The lens becomes Faulted: every actuator stops, LENS_FAULT (R72). The target of a stopped actuator becomes its position, Unknown
with it; R72 does not give it (DESIGN CHOICE, log 42). A focus move stopped so does not renew the focus completion stamp: R87 makes it a
completion at a soft reset only, and R72 and R77 are silent on a fault (DESIGN CHOICE, log 50). -/
def State.lensFault (s : State) (cause : LensCause) : State :=
  (s.withLens (fun l => { l with
    state := .faulted, cause := cause, drive := .none, zoom := l.zoom.stop, focus := l.focus.stop, iris := l.iris.stop })
    ).raise .lensFault

/-! ### Drives -/

/-- A drive of homing, extend or retract: unclamped, origin Lens (R73, R76). -/
def State.driveLens (s : State) (which : Actuator) (target : Int) (speed : Nat) : State :=
  let x := s.drive which target .lens speed
  if x.2 ∧ which = .focus then x.1.statFocusDone else x.1

/-- An actuator driven without a known target, its first step one interval from now (R68). Its record keeps the target it holds,
which in homing is Unknown; the spec does not give it (DESIGN CHOICE, log 41). -/
def State.driveBlind (s : State) (which : Actuator) (speed : Nat) : State :=
  (s.setAct which { s.act which with
    inFlight := true, origin := .lens, speed := speed, stepAt := some (s.clock + stepInterval which speed) }).statMove which

/-- The next step of an actuator comes one interval after this one. -/
def State.nextStep (s : State) (which : Actuator) : State :=
  s.setAct which { s.act which with stepAt := some (s.clock + stepInterval which (s.act which).speed) }

/-- A change of the drive's progress. -/
def State.setDrive (s : State) (d : Drive) : State := s.withLens (fun l => { l with drive := d })

/-! ### Homing (R68) -/

/-- The motion of homing begins: the stop phase. -/
def State.homeStart (s : State) : State := ((s.driveBlind .focus 0).driveBlind .iris 0).setDrive (.homeStop 1100 8)

/-- The zoom phase begins; the home sensor is as last read (log 9). -/
def State.homeZoom (s : State) : State :=
  (s.driveBlind .zoom 2).setDrive (if s.lens.sensor = .home then .homeOut 0 else .homeIn 0)

/-- An actuator stands at 0, at rest; its target is 0 with its position (log 41). -/
def ActRecord.atZero (r : ActRecord) : ActRecord := { r.rest with pos := some 0, target := some 0 }

/-- A step of the stop phase. -/
def State.homeStopStep (s : State) (which : Actuator) (focusLeft irisLeft : Nat) : State :=
  let f := if which = .focus then focusLeft - 1 else focusLeft
  let i := if which = .iris then irisLeft - 1 else irisLeft
  let left := if which = .focus then f else i
  let t := if left = 0 then s.setAct which (s.act which).atZero else s.nextStep which
  let t := if left = 0 ∧ which = .focus then t.statFocusDone else t
  let t := t.setDrive (.homeStop f i)
  if f = 0 ∧ i = 0 then t.homeZoom else t

/-- An outward step of the zoom phase. -/
def State.homeOutStep (s : State) (level : HomeLevel) (steps : Nat) : State :=
  if level = .away then (s.nextStep .zoom).setDrive (.homeIn 0)
  else if 64 ≤ steps + 1 then s.lensFault .homeStuck
  else (s.nextStep .zoom).setDrive (.homeOut (steps + 1))

/-- The zoom has found position 0: focus goes to the park position. -/
def State.homeFound (s : State) : State :=
  let t := ((s.setAct .zoom (s.act .zoom).atZero).reinterpolate.setDrive .homePark).driveLens .focus s.loader.table.park 0
  if t.lens.focus.inFlight then t else t.becomeStowed

/-- An inward step of the zoom phase. -/
def State.homeInStep (s : State) (level : HomeLevel) (steps : Nat) : State :=
  if level = .home then s.homeFound
  else if 2300 ≤ steps + 1 then s.lensFault .homeNotFound
  else (s.nextStep .zoom).setDrive (.homeIn (steps + 1))

/-! ### EXTEND (R69) -/

/-- The extend's focus move has completed, or completes at once. -/
def State.extendFocus (s : State) : State :=
  let t := (s.setDistance32).setDrive .extendFocus
  let t := t.driveLens .focus t.curve 0
  if t.lens.focus.inFlight then t else t.becomeReady

/-- The extend's zoom and iris moves, when both have completed. -/
def State.extendCheck (s : State) : State :=
  if s.lens.zoom.inFlight ∨ s.lens.iris.inFlight then s else s.extendFocus

/-- EXTEND from Stowed or Intermediate (R69). -/
def State.extendStart (s : State) : State :=
  let t := (s.withLens (fun l => { l with state := .extending, drive := .extendMoves })).driveLens .iris 0 0
  (t.driveLens .zoom s.loader.table.zwide 3).extendCheck

/-! ### RETRACT (R70, R71) -/

/-- The retract is done when the count is rebased and focus and iris have completed (R71). -/
def State.retractCheck (s : State) : State :=
  if s.lens.drive = .retractHomed ∧ ¬ s.lens.focus.inFlight ∧ ¬ s.lens.iris.inFlight then s.becomeStowed else s

/-- Watching begins, by the level of the home sensor (R71). -/
def State.watchBegin (s : State) (level : HomeLevel) : State :=
  s.setDrive (if level = .home then .retractOut 0 else .retractWatch)

/-- The zoom is driven toward 0 at speed level 3; a move in flight goes on from its step (R70). -/
def State.retractZoom (s : State) : State :=
  let r := { s.lens.zoom with target := some 0, origin := .lens, speed := 3, pending := none }
  if r.inFlight then s.setAct .zoom r else (s.setAct .zoom r).driveBlind .zoom 3

/-- RETRACT taken from Ready, Extending or Intermediate (R70, R71). -/
def State.retractStart (s : State) : State :=
  let t := if s.lensReady then s.leaveReady else s.withLens (fun l => { l with state := .retracting })
  let t := ((t.driveLens .focus s.loader.table.park 0).driveLens .iris 0 0).retractZoom
  if t.lens.zoom.pos.getD 0 ≤ 8 then t.watchBegin t.lens.sensor else t.setDrive .retractFar

/-- The zoom count after one step outward or inward, with the values at the new position (R83). -/
def State.zoomBy (s : State) (delta : Int) : State :=
  (s.setAct .zoom { s.lens.zoom with pos := s.lens.zoom.pos.map (· + delta) }).reinterpolate

/-- A slip other than 0 goes to the slip record (R71). -/
def Lens.slipped (l : Lens) (slip : Int) : Lens :=
  if slip = 0 then l else { l with slip := some slip, slips := satAdd 255 l.slips 1 }

/-- The home edge is found while watching: the count is the slip, and is rebased to 0 (R71). -/
def State.rebase (s : State) : State :=
  let slip := s.lens.zoom.pos.getD 0
  let t := (s.withLens (fun l => l.slipped slip)).setAct .zoom s.lens.zoom.atZero
  (t.reinterpolate.setDrive .retractHomed).retractCheck

/-- A step of the zoom in Retracting (R70, R71). -/
def State.retractZoomStep (s : State) (level : HomeLevel) : State :=
  match s.lens.drive with
  | .retractFar =>
    let t := (s.zoomBy (-1)).nextStep .zoom
    if t.lens.zoom.pos.getD 0 ≤ 8 then t.watchBegin level else t
  | .retractOut steps =>
    let t := s.zoomBy 1
    if level = .away then (t.nextStep .zoom).setDrive .retractWatch
    else if 64 ≤ steps + 1 then t.lensFault .homeStuck
    else (t.nextStep .zoom).setDrive (.retractOut (steps + 1))
  | _ =>
    let t := s.zoomBy (-1)
    if level = .home then t.rebase
    else if t.lens.zoom.pos.getD 0 ≤ -72 then t.lensFault .edgeMissing
    else t.nextStep .zoom

/-! ### Steps (R73) -/

/-- The record after an ordinary step: complete at the target, else the next step an interval later. -/
def State.plainStep (s : State) (which : Actuator) : State :=
  let r := (s.act which).stepped
  if r.pos = r.target then s.setAct which r.rest else (s.setAct which r).nextStep which

/-- An ordinary zoom step: the values at the new position, the completion, a tracking point (R81, R83, R85). -/
def State.zoomStep (s : State) : State :=
  let t := (s.plainStep .zoom).reinterpolate
  if !t.lens.zoom.inFlight then
    if t.lens.state = .extending then t.extendCheck else t.zoomDone t.lens.zoom.origin
  else if t.lens.zoom.pos.getD 0 % 16 = 0 then t.trackingPoint
  else t

/-- What a completed focus move of a drive brings (R68, R69, R71). -/
def State.focusDriven (s : State) : State :=
  match s.lens.drive with
  | .homePark => s.becomeStowed
  | .extendFocus => s.becomeReady
  | .retractHomed => s.retractCheck
  | _ => s

/-- A focus step; its completion goes to the Statistics Unit and Focus Search (R77). -/
def State.focusStep (s : State) : State :=
  let t := s.plainStep .focus
  if t.lens.focus.inFlight then t
  else if t.lensReady then t.statFocusDone.afFocusDone t.lens.focus.origin
  else t.statFocusDone.focusDriven

/-- An iris step. -/
def State.irisStep (s : State) : State :=
  let t := s.plainStep .iris
  if t.lens.iris.inFlight then t
  else
    match t.lens.drive with
    | .extendMoves => t.extendCheck
    | .retractHomed => t.retractCheck
    | _ => t

/-- Whether the next step of an actuator goes outward. -/
def State.stepUp (s : State) (which : Actuator) : Bool :=
  match which, s.lens.drive with
  | .zoom, .homeOut _ => true
  | .zoom, .retractOut _ => true
  | .zoom, .homeIn _ => false
  | .zoom, .retractWatch => false
  | _, _ => (s.act which).up

/-- One step of an actuator, with the level of the home sensor as read after it. -/
def State.actuatorStep (s : State) (which : Actuator) (level : HomeLevel) : State :=
  let t := (s.put (.step which (s.stepUp which))).withLens (fun l => { l with sensor := level })
  match which, t.lens.drive with
  | .focus, .homeStop f i => t.homeStopStep .focus f i
  | .iris, .homeStop f i => t.homeStopStep .iris f i
  | .zoom, .homeOut n => t.homeOutStep level n
  | .zoom, .homeIn n => t.homeInStep level n
  | .zoom, .retractFar => t.retractZoomStep level
  | .zoom, .retractOut _ => t.retractZoomStep level
  | .zoom, .retractWatch => t.retractZoomStep level
  | .zoom, _ => t.zoomStep
  | .focus, _ => t.focusStep
  | .iris, _ => t.irisStep

/-! ### Link requests (R78, R79, R82) -/

/-- A link zoom request: taken, then told to Focus Search (R74, R77). -/
def State.linkZoom (s : State) (target : Int) (speed : Nat) : State := (s.requestZoom target .link speed).afAbort

/-- A link focus request: d, the request, then Focus Search is told (R82, R77). -/
def State.linkFocus (s : State) (target : Int) : State :=
  let x := s.clampTarget .focus target
  ((s.setDistance x).requestFocus x .link).afIdle

/-- A table is given to Lens Drive; at the first load end homing begins (R193, R68). -/
def State.tableGiven (s : State) : State :=
  let t := s.reinterpolate
  if t.lens.drive = .homeWait then t.homeStart else t

end Sys2Proof.Machine
end

