-- ==== Sys2Proof/Machine/TableLoading.lean ====
section
/-! DEFINITION. The Table Loader: the image, its CRC and checks, adoption. -/

namespace Sys2Proof.Machine

/-- One bit into the CRC register (R191). -/
def crcBit (reg : BitVec 16) (b : Bool) : BitVec 16 :=
  if reg.msb != b then (reg <<< 1) ^^^ 0x1021#16 else reg <<< 1

/-- One byte into the CRC register, most significant bit first (R191). -/
def crcByte (reg : BitVec 16) (v : Byte) : BitVec 16 :=
  [7, 6, 5, 4, 3, 2, 1, 0].foldl (fun acc i => crcBit acc (v.getLsbD i)) reg

/-- The CRC of bytes: the register starts at all ones (R191). -/
def crcOf (l : List Byte) : BitVec 16 := l.foldl crcByte 0xFFFF#16

/-- The bytes a load reads: 408, those a silent flash does not drive being all ones (R190, log 10). -/
def imageBytes (l : List Byte) : List Byte := (l ++ List.replicate 408 0xFF#8).take 408

/-- A two-byte field of the image, most significant byte first (Table 11-8). -/
def imageField (l : List Byte) (off : Nat) : Nat :=
  (l.getD off 0).toNat * 256 + (l.getD (off + 1) 0).toNat

/-- Knot k of the image (Table 11-8). -/
def imageKnot (l : List Byte) (k : Nat) : Knot :=
  let off := 10 + 12 * k
  knotOf (imageField l off) (imageField l (off + 2)) (imageField l (off + 4)) (imageField l (off + 6))
    (imageField l (off + 8)) (imageField l (off + 10))

/-- The table an image holds. -/
def imageTable (l : List Byte) : LensTable :=
  { ident := imageField l 0, revision := imageField l 4, zwide := imageField l 6, park := imageField l 8,
    knots := (List.range 33).map (imageKnot l) }

/-- A value in a range. -/
def inRange (lo hi x : Int) : Bool := lo ≤ x && x ≤ hi

/-- The first check of a knot that fails (R192, 5). -/
def knotCheck (k : Nat) (x : Knot) : LoadResult :=
  if !inRange 32 128 x.amin then .aminRange k
  else if !inRange 80 320 x.tlimit then .tlimitRange k
  else if !inRange 0 1023 x.inf || !inRange 0 1023 x.near then .focusRange k
  else if x.near < x.inf then .nearBelowInf k
  else .passed

/-- The knots in turn, from index k. -/
def knotsCheck (k : Nat) : List Knot → LoadResult
  | [] => .passed
  | x :: rest => if knotCheck k x = .passed then knotsCheck (k + 1) rest else knotCheck k x

/-- The checks of an image in order (R192). -/
def imageCheck (l : List Byte) : LoadResult :=
  if (crcOf (l.take 406)).toNat ≠ imageField l 406 then .crcMismatch
  else if imageField l 2 ≠ 33 then .knotCount
  else if !inRange 64 1024 (imageField l 6) then .zwideRange
  else if !inRange 0 1023 (imageField l 8) then .parkRange
  else knotsCheck 0 (imageTable l).knots

/-- The loader after a load: the image, or the default table whole (R193). -/
def Loader.adopt (image : List Byte) : Loader :=
  if imageCheck image = .passed then
    { table := imageTable image, source := .flash, loading := none, result := .passed }
  else { table := defaultTable, source := .default, loading := none, result := imageCheck image }

/-- The end of a load (R193): adoption, TABLE_BAD when the image failed, the table given to Lens Drive. -/
def State.loadEnd (s : State) (image : List Byte) : State :=
  let t := { s with loader := Loader.adopt (imageBytes image) }
  (if t.loader.result = .passed then t else t.raise .tableBad).tableGiven

/-- A load starts (R190, R195). -/
def State.loadStart (s : State) : State :=
  { s with loader := { s.loader with loading := some (s.clock + tableLoadSpan) } }.put .flashRead

end Sys2Proof.Machine
end

