-- ==== Sys2Proof/Machine/Deadlines.lean ====
section
/-! DEFINITION. When each timed event is due, and how a timed event is taken (log 2). -/

namespace Sys2Proof.Machine

/-! ### Frame Control -/

/-- The moment of the planned live frame's settings transfer, with the period in force (R4, R9, log 14). -/
def State.dueLiveTransfer (s : State) : Option Nat :=
  match s.fc.next with
  | .planned base lead => some (base + s.periodSpan - lead)
  | .none | .sent _ _ _ => none

/-- The live frame's exposure start: its scheduled start, with the pixel input free and the shutter settled (R9, R26). -/
def State.dueLiveStart (s : State) : Option Nat :=
  match s.fc.next with
  | .sent start _ _ =>
    if s.fc.state = .live ∧ s.fc.frame.isNone ∧ s.fc.reopenAt.isNone then some (max start (s.fc.settle.getD 0)) else none
  | .none | .planned _ _ => none

/-- The end time of the frame on the pixel input, if it is of a kind and in a phase. -/
def State.dueFrame (s : State) (kind : FrameKind) (phase : FramePhase) : Option Nat :=
  match s.fc.frame with
  | none => none
  | some f => if f.kind = kind ∧ f.phase = phase then some f.limit else none

def State.dueLiveEnd (s : State) : Option Nat := s.dueFrame .live .exposing
def State.dueCaptureEnd (s : State) : Option Nat := s.dueFrame .capture .exposing

/-- The readout limit of the frame in readout (R11). -/
def State.dueReadout (s : State) : Option Nat :=
  match s.fc.frame with
  | none => none
  | some f => if f.phase = .reading then some f.limit else none

def State.dueRelease (s : State) : Option Nat := s.fc.cap.bind Capture.releaseAt
def State.dueSecond (s : State) : Option Nat := s.fc.cap.bind Capture.secondAt
def State.dueTrigger (s : State) : Option Nat := s.fc.cap.bind Capture.triggerAt
def State.dueClose (s : State) : Option Nat := s.fc.cap.bind Capture.closeAt

/-! ### Store and links -/

def State.dueGrant (s : State) : Option Nat := s.store.grant.map Grant.endAt

/-- The stall limit of a port's stream, by the setting as it stands (R153). -/
def State.dueStall (s : State) (p : Port) : Option Nat :=
  ((s.store.streams.get p).bind Stream.stall).map (· + ms (s.settingNat ixStallLimit))

/-- The latest moment at which a port's reply is ready (R175). -/
def State.dueReply (s : State) (p : Port) : Option Nat :=
  match s.links.txn.get p with
  | .preparing _ due => some due
  | .deselected | .command | .length _ | .payload _ _ _ | .reply _ _ | .finished => none

/-! ### Gyro -/

/-- A request is answered from its own moment on, 500 µs before its limit (R113, log 11). -/
def State.dueSample (s : State) : Option Nat := s.stab.gyro.map (· - us 500)

/-! ### Taking a timed event -/

/-- A timed event: with no deadline running it cannot occur and changes nothing; else the clock moves to its moment, if that
is still to come, and it takes effect. -/
def State.timed (s : State) (due : Option Nat) (f : State → State) : Host.Outcome State Fault Refusal :=
  match due with
  | none => .next s.begin
  | some t => .next (f (s.begin.reach t))

/-- The events of the part's own timers that are due by a moment: what the idle part does next (log 1). Data that only a
device can deliver is not among them. -/
def State.agenda (s : State) : List (Option Nat × Instr) :=
  [(s.fc.quiet1, .quietTimer1Expiry), (s.fc.quiet2, .quietTimer2Expiry), (s.dueLiveTransfer, .liveSettingsTransfer),
    (s.dueLiveStart, .liveExposureStart), (s.dueLiveEnd, .liveExposureEnd), (s.dueReadout, .readoutTimeout),
    (s.dueRelease, .captureRelease), (s.dueSecond, .secondTransferTimeout), (s.dueTrigger, .captureTrigger),
    (s.dueClose, .closeCommand), (s.dueCaptureEnd, .captureExposureEnd), (s.fc.settle, .reopenSettleExpiry),
    (s.fc.reopenAt, .abortReopen)] ++
  [(s.lens.zoom.stepAt, .actuatorStep .zoom s.lens.sensor), (s.lens.focus.stepAt, .actuatorStep .focus s.lens.sensor),
    (s.lens.iris.stepAt, .actuatorStep .iris s.lens.sensor), (s.stab.gyro, .gyroSampleMissed),
    (s.stab.tick, .recenterTick), (s.stab.cal.limit, .calibrationTimeout), (s.store.startup, .storeStartupEnd),
    (s.store.trickle, .trickleExpiry), (s.dueGrant, .grantEnd), (s.store.wake, .dramWake)] ++
  [(s.dueStall .a, .stallLimitExpiry .a), (s.dueStall .b, .stallLimitExpiry .b), (s.dueStall .c, .stallLimitExpiry .c),
    (s.rq.stale, .staleTimerExpiry), (s.loader.loading, .tableLoadEnd (List.replicate 408 0xFF#8)),
    (s.dueReply .a, .replyReady .a), (s.dueReply .b, .replyReady .b), (s.dueReply .c, .replyReady .c)]

/-- The commands of the agenda whose moment has come. -/
def State.dueCommands (s : State) : List Instr :=
  s.agenda.filterMap (fun x => if x.1.any (fun t => decide (t ≤ s.clock)) then some x.2 else none)

end Sys2Proof.Machine
end

