-- ==== Sys2Proof/Machine/DeviceEvents.lean ====
section
/-! DEFINITION. The events of the lens, the gyro, the store, the queue and the loader. -/

namespace Sys2Proof.Machine

/-- ACTUATOR_STEP (R73). -/
def execActuatorStep (which : Actuator) (level : HomeLevel) (s : State) : Host.Outcome State Fault Refusal :=
  s.timed (s.act which).stepAt (fun t => t.watchBusy (fun x => x.actuatorStep which level))

/-- GYRO_SAMPLE_RECEIVED (R113): the request has gone out by the moment its sample is used. -/
def execGyroSampleReceived (u v : Rate) (s : State) : Host.Outcome State Fault Refusal :=
  s.timed s.dueSample (fun t => (t.askOnce.gyroReceived u.toInt v.toInt).nextGyro)

/-- GYRO_SAMPLE_MISSED (R113): the next request goes out at once, its moment being the end of the missed one's 500 µs. -/
def execGyroSampleMissed (s : State) : Host.Outcome State Fault Refusal :=
  s.timed s.stab.gyro (fun t => t.askOnce.gyroMissed.nextGyro.askGyro)

/-- RECENTER_TICK (R123, R125). -/
def execRecenterTick (s : State) : Host.Outcome State Fault Refusal := s.timed s.stab.tick State.recenterTick

/-- The calibration timeout expires: Done in MinMet, Failed in Sampling (R128). -/
def State.calTimeout (s : State) : State := if s.stab.cal.status = .minMet then s.calDone else s.calEnd .failed

/-- CALIBRATION_TIMEOUT (R128). -/
def execCalibrationTimeout (s : State) : Host.Outcome State Fault Refusal := s.timed s.stab.cal.limit State.calTimeout

/-- STORE_STARTUP_END (R137). -/
def execStoreStartupEnd (s : State) : Host.Outcome State Fault Refusal := s.timed s.store.startup State.startupEnd

/-- TRICKLE_EXPIRY (R138). -/
def execTrickleExpiry (s : State) : Host.Outcome State Fault Refusal := s.timed s.store.trickle State.trickleEnd

/-- GRANT_END (R145). -/
def execGrantEnd (s : State) : Host.Outcome State Fault Refusal := s.timed s.dueGrant State.grantDone

/-- DRAM_WAKE (R141). -/
def execDramWake (s : State) : Host.Outcome State Fault Refusal :=
  s.timed s.store.wake (fun t => (t.withStore (fun b => { b with wake := none })).storeSettle)

/-- STREAM_BYTE (R148, R149). -/
def execStreamByte (p : Port) (s : State) : Host.Outcome State Fault Refusal := .next (s.begin.streamByteOut p)

/-- STALL_LIMIT_EXPIRY (R153). -/
def execStallLimitExpiry (p : Port) (s : State) : Host.Outcome State Fault Refusal :=
  s.timed (s.dueStall p) (fun t => t.streamCut p)

/-- STALE_TIMER_EXPIRY (R170). -/
def execStaleTimerExpiry (s : State) : Host.Outcome State Fault Refusal :=
  s.timed s.rq.stale (fun t => (t.withRq (fun q => { q with stale := none })).raise .queueStale)

/-- TABLE_LOAD_END (R193). -/
def execTableLoadEnd (image : List Byte) (s : State) : Host.Outcome State Fault Refusal :=
  s.timed s.loader.loading (fun t => t.loadEnd image)

end Sys2Proof.Machine
end

