-- ==== Sys2Proof/Machine/FrameEvents.lean ====
section
/-! DEFINITION. The frame events: quiet timers, live frames, pixel data, readout end, and the capture sequence. -/

namespace Sys2Proof.Machine

/-- Quiet timer 1 expires: LIVE-SLOW, and quiet timer 2 starts (R5). -/
def execQuietTimer1Expiry (s : State) : Host.Outcome State Fault Refusal :=
  s.timed s.fc.quiet1 (fun t =>
    let t := (t.withFc (fun c => { c with quiet1 := none })).setCadence .liveSlow
    t.withFc (fun c => { c with quiet2 := t.quietSpan2 }))

/-- Quiet timer 2 expires: STILL (R5, R7). -/
def execQuietTimer2Expiry (s : State) : Host.Outcome State Fault Refusal :=
  s.timed s.fc.quiet2 (fun t => (t.withFc (fun c => { c with quiet2 := none })).setCadence .still)

/-- The planned live frame's transfer begins (R9, R61). -/
def State.liveTransfer (s : State) : State :=
  match s.fc.next with
  | .planned base _ => s.beginLive (base + s.periodSpan)
  | .none | .sent _ _ _ => s

/-- LIVE_SETTINGS_TRANSFER (R9). -/
def execLiveSettingsTransfer (s : State) : Host.Outcome State Fault Refusal :=
  s.timed s.dueLiveTransfer State.liveTransfer

/-- SETTINGS_ACKNOWLEDGEMENT (R10, R21); with no such transfer outstanding nothing changes. -/
def execSettingsAcknowledgement (which : Nat) (s : State) : Host.Outcome State Fault Refusal :=
  match s.fc.xfers[which]? with
  | none => .next s.begin
  | some x => .next (s.begin.acknowledge x)

/-- The exposure of the frame whose transfer has begun starts. -/
def State.liveStartNow (s : State) : State :=
  match s.fc.next with
  | .sent _ x acked => s.liveStart x acked
  | .none | .planned _ _ => s

/-- LIVE_EXPOSURE_START (R9, R12). -/
def execLiveExposureStart (s : State) : Host.Outcome State Fault Refusal := s.timed s.dueLiveStart State.liveStartNow

/-- LIVE_EXPOSURE_END (R9, R11). -/
def execLiveExposureEnd (s : State) : Host.Outcome State Fault Refusal := s.timed s.dueLiveEnd State.liveEnd

/-- A sample on the pixel input: counted while a frame is in readout; the bytes of a capture go to the store (R29, R144). -/
def State.pixel (s : State) (v : Sample) (bytes : List Byte) : State :=
  match s.fc.frame with
  | none => s
  | some f =>
    if f.phase = .reading then
      let t := { s with st := s.st.sample v.toNat }
      match f.kind with
      | .live => t
      | .capture => (bytes.foldl State.ingestByte t).storeSettle
    else s

/-- PIXEL_DATA (R29, R144). -/
def execPixelData (v : Sample) (bytes : List Byte) (s : State) : Host.Outcome State Fault Refusal :=
  .next (s.begin.pixel v bytes)

/-- The readout of the frame in readout ends, if there is one. -/
def State.endReadout (timedOut : Bool) (s : State) : State :=
  match s.fc.frame with
  | none => s
  | some f => if f.phase = .reading then s.watchBusy (fun t => t.readoutEnd f timedOut) else s

/-- FRAME_END_MARKER (R11): ignored while no frame is in readout. -/
def execFrameEndMarker (s : State) : Host.Outcome State Fault Refusal := .next (s.begin.endReadout false)

/-- READOUT_TIMEOUT (R11). -/
def execReadoutTimeout (s : State) : Host.Outcome State Fault Refusal := s.timed s.dueReadout (State.endReadout true)

/-- The capture in flight, if there is one, goes through a stage. -/
def State.withCap (f : State → Capture → State) (s : State) : State :=
  match s.fc.cap with
  | none => s
  | some c => f s c

/-- CAPTURE_RELEASE (R21, R22). -/
def execCaptureRelease (s : State) : Host.Outcome State Fault Refusal :=
  s.timed s.dueRelease (State.withCap State.releaseDue)

/-- SECOND_TRANSFER_TIMEOUT (R21). -/
def execSecondTransferTimeout (s : State) : Host.Outcome State Fault Refusal :=
  s.timed s.dueSecond (State.withCap State.secondTimeout)

/-- CAPTURE_TRIGGER (R22, R62). -/
def execCaptureTrigger (s : State) : Host.Outcome State Fault Refusal :=
  s.timed s.dueTrigger (State.withCap State.triggerDue)

/-- CLOSE_COMMAND (R22). -/
def execCloseCommand (s : State) : Host.Outcome State Fault Refusal := s.timed s.dueClose State.issueClose

/-- CAPTURE_EXPOSURE_END (R22, R23). -/
def execCaptureExposureEnd (s : State) : Host.Outcome State Fault Refusal := s.timed s.dueCaptureEnd State.captureEnd

/-- REOPEN_SETTLE_EXPIRY (R25, R26). -/
def execReopenSettleExpiry (s : State) : Host.Outcome State Fault Refusal :=
  s.timed s.fc.settle (State.watchBusy State.settleEnd)

/-- ABORT_REOPEN (R26). -/
def execAbortReopen (s : State) : Host.Outcome State Fault Refusal := s.timed s.fc.reopenAt State.abortReopen

end Sys2Proof.Machine
end

