-- ==== Sys2Proof/Machine/Formats.lean ====
section
/-! DEFINITION. The reply payloads: the coding of fields and the layout of every reading command (Chapter 11). -/

namespace Sys2Proof.Machine

/-! ### Coding of fields (R197, R198) -/

/-- A field of n bytes, most significant byte first. -/
def be : Nat → Nat → List Byte
  | 0, _ => []
  | n + 1, v => be n (v / 256) ++ [BitVec.ofNat 8 v]

/-- A signed field in two's complement. -/
def beInt (n : Nat) (v : Int) : List Byte := be n (v % 256 ^ n).toNat

/-- A one-byte flag. -/
def beFlag (b : Bool) : List Byte := be 1 (if b then 1 else 0)

/-- A position: 65,535 when Unknown (R198); the two bytes of a count below 0 are left open (log 18). -/
def bePos (p : Option Int) : List Byte :=
  match p with
  | none => be 2 65535
  | some v => if v < 0 then be 2 (Config.negativeCount v).toNat else be 2 v.toNat

/-- An absent field is sent as zero (R198). -/
def beWord (w : Option Word32) : List Byte := be 4 ((w.map BitVec.toNat).getD 0)

/-! ### Codes (Table 11-4) -/

def BurstMode.code : BurstMode → Nat
  | .single => 0 | .burstLow => 1 | .burstHigh => 2

def Cadence.code : Cadence → Nat
  | .liveFast => 0 | .liveSlow => 1 | .still => 2

def FcState.code : FcState → Nat
  | .idle => 0 | .live => 1 | .arming => 2 | .exposing => 3 | .reading => 4 | .reopening => 5

def LensState.code : LensState → Nat
  | .homing => 0 | .stowed => 1 | .extending => 2 | .ready => 3 | .retracting => 4 | .intermediate => 5 | .faulted => 6

def LensCause.code : LensCause → Nat
  | .none => 0 | .homeStuck => 1 | .homeNotFound => 2 | .edgeMissing => 3

def Origin.code : Origin → Nat
  | .link => 0 | .search => 1 | .tracking => 2 | .planner => 3 | .lens => 4

def AfState.code : AfState → Nat
  | .idle => 0 | .coarse => 1 | .fine => 2 | .settle => 3 | .locked => 4 | .tracking => 5 | .probe => 6 | .failed => 7

def AfResult.code : AfResult → Nat
  | .none => 0 | .locked => 1 | .lowContrast => 2 | .aborted => 3

def SearchOrigin.code : SearchOrigin → Nat
  | .command => 0 | .prepare => 1 | .shoot => 2

def SweepPhase.code : SweepPhase → Nat
  | .coarse => 0 | .fine => 1 | .probe => 2

def StabMode.code : StabMode → Nat
  | .off => 0 | .continuous => 1 | .shotOnly => 2

def StabState.code : StabState → Nat
  | .off => 0 | .parked => 1 | .calibrating => 2 | .active => 3 | .faulted => 4

def GyroCause.code : GyroCause → Nat
  | .none => 0 | .stuckAxis1 => 1 | .stuckAxis2 => 2 | .stuckBoth => 3 | .missing => 4

def CalStatus.code : CalStatus → Nat
  | .none => 0 | .sampling => 1 | .minMet => 2 | .done => 3 | .failed => 4 | .aborted => 5

def StoreState.code : StoreState → Nat
  | .initialising => 0 | .ready => 1 | .selfRefresh => 2

def SlotState.code : SlotState → Nat
  | .free => 0 | .filling => 1 | .full => 2 | .draining => 3 | .spent => 4 | .releasing => 5

def portCode : Port → Nat
  | .a => 0 | .b => 1 | .c => 2

def StreamKind.code : StreamKind → Nat
  | .drain => 1 | .review => 2

def EndReason.code : EndReason → Nat
  | .done => 0 | .released => 1 | .cleared => 2 | .closed => 3 | .cut => 4

def TableSource.code : TableSource → Nat
  | .none => 0 | .flash => 1 | .default => 2

/-- Last result and the knot index it carries (0 where it carries none). -/
def LoadResult.code : LoadResult → Nat × Nat
  | .none => (0, 0) | .passed => (1, 0) | .crcMismatch => (2, 0) | .knotCount => (3, 0) | .zwideRange => (4, 0)
  | .parkRange => (5, 0) | .aminRange k => (6, k) | .tlimitRange k => (7, k) | .focusRange k => (8, k)
  | .nearBelowInf k => (9, k)

def RecordPhase.code : RecordPhase → Nat
  | .gated => 0 | .exposing => 1 | .reading => 2

def Program.code : Program → Nat
  | .auto => 0 | .timePriority => 1 | .aperturePriority => 2 | .manual => 3

def LockSource.code : LockSource → Nat
  | .none => 0 | .command => 1 | .prepare => 2

def RingPos.code : RingPos → Nat
  | .ingest => 0 | .portA => 1 | .portB => 2 | .portC => 3 | .group => 4

def FrameKind.code : FrameKind → Nat
  | .live => 0 | .capture => 1

/-! ### Frame Control and the links -/

/-- GET STATE, 34 bytes (Table 11-7, R180). -/
def State.stateReply (s : State) : List Byte :=
  [be 4 s.timeBase.toNat, be 4 s.fc.fseq.toNat, be 4 s.fc.capNo.toNat, be 1 s.fc.burstCount, be 1 s.fc.cadence.code,
    be 1 s.fc.state.code, be 1 (packBits (waitReasons.map (fun r => !s.gateMet r))),
    be 1 (packBits [s.fc.prepare.a, s.fc.prepare.b, s.fc.prepare.c]), be 1 s.fc.owed, beFlag s.fc.continuous,
    be 1 s.lens.state.code, be 1 s.af.state.code, be 1 s.af.result.code, be 1 s.stab.state.code,
    beFlag (s.stab.cause ≠ .none), be 1 s.store.state.code, be 1 s.freeSlots, be 1 s.loader.source.code,
    beFlag s.loader.loading.isSome, be 1 s.loader.result.code.1, be 1 s.loader.result.code.2,
    be 2 s.loader.table.ident, be 2 s.loader.table.revision].flatten

/-- READ EVENTS, 13 bytes (R185). -/
def State.eventsReply (s : State) (p : Port) : List Byte :=
  be 4 (s.links.pend.get p).toNat ++ be 4 (s.links.mask.get p).toNat ++ be 4 s.links.occ.toNat ++
  be 1 (packBits [errorPending (s.links.pend.get p), informationPending (s.links.pend.get p)])

/-- GET SETTINGS: pairs from the first index on, stopping at 57 (R179). -/
def State.settingsReply (s : State) (first count : Nat) : List Byte :=
  (((List.range 58).drop first).take count).flatMap (fun i => be 1 i ++ beInt 4 (s.setting i))

/-! ### Statistics and plans -/

/-- Part Summary of READ STATISTICS, 50 bytes (Section 11.6). -/
def State.summaryReply (s : State) : List Byte :=
  match s.st.last with
  | none => be 50 0
  | some r =>
    [be 1 0, be 1 1, be 4 r.seq.toNat, be 1 r.kind.code, beInt 2 r.t, beInt 2 r.a, beInt 2 r.g, beInt 2 r.q,
      be 1 r.flags.pack, be 1 (packBits [r.aeEligible, r.afEligible]), be 4 r.stamp.toNat, be 2 r.m, be 1 r.pattern,
      be 4 r.h, be 4 r.n, (r.bank.feats.take 9).flatMap (be 2)].flatten

/-- A zone of part Zones, 16 bytes. -/
def Zone.reply (z : Zone) : List Byte := be 4 z.sum ++ be 4 z.count ++ be 2 z.min ++ be 2 z.max ++ be 4 z.high

/-- Part Zones of READ STATISTICS: up to 12 zones, stopping at zone 34 (R40). -/
def State.zonesReply (s : State) (first : Nat) : List Byte :=
  let n := min 12 (35 - first)
  match s.st.last with
  | none => [be 1 1, be 1 0, be 4 0, be 1 first, be 1 n, (List.replicate n (be 16 0)).flatten].flatten
  | some r =>
    [be 1 1, be 1 1, be 4 r.seq.toNat, be 1 first, be 1 n,
      ((r.bank.zones.drop first).take n).flatMap Zone.reply].flatten

/-- A plan within GET PLAN, 20 bytes. -/
def Plan.reply (p : Plan) : List Byte :=
  [beFlag p.formed, beInt 2 p.t, beInt 1 p.p, beInt 2 p.a, beInt 2 p.amin, beInt 2 p.g, beInt 2 p.q, beInt 2 p.tcap,
    beInt 1 p.credit, beInt 2 p.qraw, be 1 (packBits [p.isOver, p.isUnder]), be 1 p.program.code,
    beInt 1 p.gmax].flatten

/-- GET PLAN, 59 bytes (R64). Amin(z) and Tlimit(z) that Lens Drive has not given yet are sent as 0 (DESIGN CHOICE, log 20). -/
def State.planReply (s : State) : List Byte :=
  [s.ep.capPlan.reply, s.ep.livePlan.reply, beInt 2 s.ep.qraw, beInt 2 s.ep.qreq, beInt 2 s.ep.offset,
    beWord s.ep.lastMetered, be 1 s.ep.lock.code, be 1 (packBits [s.ep.fastStart, s.ep.penalty, s.creditCondition]),
    beInt 2 (s.ep.given.getD (0, 0)).1, beInt 2 (s.ep.given.getD (0, 0)).2, beInt 2 s.fc.tlive,
    beInt 1 s.ep.pmax].flatten

/-! ### Lens and focus -/

/-- Pending target and its origin, three bytes. -/
def pendingReply (m : Option PendingMove) : List Byte :=
  match m with
  | none => be 3 0
  | some m => bePos (some m.target) ++ be 1 m.origin.code

/-- The nine bytes every actuator record begins with: position, target, flags, origin, pending target, pending origin. -/
def ActRecord.reply (r : ActRecord) : List Byte :=
  [bePos r.pos, bePos r.target, be 1 (packBits [r.inFlight, r.pending.isSome]), be 1 r.origin.code,
    pendingReply r.pending].flatten

/-- GET LENS STATE, 53 bytes (Section 11.7, R86). -/
def State.lensReply (s : State) : List Byte :=
  let l := s.lens
  [be 1 l.state.code, be 1 l.cause.code, be 1 (packBits [l.d.isSome, l.slip.isSome]), l.zoom.reply,
    be 1 l.zoom.speed, be 1 ((l.zoom.pending.map PendingMove.speed).getD 0), l.focus.reply, l.iris.reply,
    beInt 1 (l.d.getD 0), beInt 2 l.iv.amin, beInt 2 l.iv.tlimit, beInt 2 l.iv.inf, beInt 2 l.iv.near,
    beInt 2 l.iv.gain, beInt 2 l.iv.focal, beInt 1 l.pmax, beInt 2 s.loader.table.zwide, beInt 2 s.loader.table.park,
    beInt 2 (l.slip.getD 0), be 1 l.slips].flatten

/-- F and position of a record that may be absent. -/
def peakReply (p : Option Peak) : List Byte :=
  match p with
  | none => be 4 0
  | some x => be 2 x.f ++ beInt 2 x.pos

/-- A sweep log entry, 9 bytes. -/
def SweepEntry.reply (e : SweepEntry) : List Byte := beInt 2 e.pos ++ be 2 e.f ++ be 4 e.seq.toNat ++ be 1 e.phase.code

/-- READ SWEEP LOG: an 18-byte header and up to 24 entries (R107). -/
def State.sweepReply (s : State) (first : Nat) : List Byte :=
  let entries := (s.af.log.drop first).take 24
  [be 1 s.af.state.code, be 1 s.af.result.code, be 1 s.af.origin.code, be 1 s.zoneInUse, be 1 s.af.log.length,
    be 1 (packBits [s.af.wrapped, s.af.peak.isSome, s.af.best.isSome]), be 2 s.af.flock, peakReply s.af.peak,
    peakReply s.af.best, be 1 first, be 1 entries.length, entries.flatMap SweepEntry.reply].flatten

/-! ### Stabilizer -/

/-- One axis of GET STAB STATE, 19 bytes. -/
def ShiftAxis.reply (x : ShiftAxis) : List Byte :=
  [beInt 4 x.theta, beInt 4 x.demand, beInt 2 x.target, beInt 4 x.excess, beFlag x.pan, be 2 x.entry,
    be 2 x.exit].flatten

/-- GET STAB STATE, 81 bytes (R132). -/
def State.stabReply (s : State) : List Byte :=
  let b := s.stab
  [be 1 b.state.code, be 1 s.stabMode.code, be 1 b.cause.code, beInt 4 b.biasX, beInt 4 b.biasY,
    be 1 b.cal.status.code, be 4 b.cal.start.toNat, be 2 b.cal.count, beInt 4 b.cal.sumX, beInt 4 b.cal.sumY,
    beInt 4 (b.cal.result.getD (0, 0)).1, beInt 4 (b.cal.result.getD (0, 0)).2, b.x.reply, b.y.reply, be 1 b.backlog,
    be 1 (packBits [b.urgent, s.creditCondition, b.resFlag, b.cal.result.isSome, b.grade.isSome]), be 2 b.rx,
    be 2 b.ry, be 1 (b.grade.getD 0), beInt 2 b.gain].flatten

/-! ### Store -/

/-- A stream record that may be absent: kind, slot, next offset, end offset. -/
def streamReply (x : Option Stream) : List Byte :=
  match x with
  | none => be 10 0
  | some st => be 1 st.kind.code ++ be 1 st.slot ++ be 4 st.next ++ be 4 st.endOff

/-- A last end record that may be absent: kind, slot, reason. -/
def endReply (x : Option LastEnd) : List Byte :=
  match x with
  | none => be 3 0
  | some e => be 1 e.kind.code ++ be 1 e.slot ++ be 1 e.reason.code

/-- One port of GET STORE STATE, 18 bytes. -/
def State.storePortReply (s : State) (p : Port) : List Byte :=
  [be 1 (if s.promoted p then 0 else 1), beFlag (s.store.cut.get p), streamReply (s.store.streams.get p),
    be 2 (s.store.fifos.get p).length,
    be 1 ((((s.store.streams.get p).bind Stream.stall).map (fun t => wholeMs (s.clock - t))).getD 0),
    endReply (s.store.ends.get p)].flatten

/-- GET STORE STATE, 66 bytes (R157). -/
def State.storeReply (s : State) : List Byte :=
  [be 1 s.store.state.code, be 1 s.store.backlog, beFlag s.store.urgent, be 1 s.freeSlots,
    be 1 ((s.store.firstSlot .filling).getD 255), be 4 s.store.buf.length, beFlag (0 < s.store.remnant),
    be 1 s.store.ring1.code, be 1 (portCode s.store.ring2), s.storePortReply .a, s.storePortReply .b,
    s.storePortReply .c].flatten

/-- A slot entry, 13 bytes (Section 11.6). -/
def Slot.reply (x : Slot) (i : Nat) : List Byte :=
  [be 1 i, be 1 x.state.code, be 1 (packBits [x.capNo.isSome, x.incomplete, x.drainPort.isSome]), beWord x.capNo,
    be 4 x.bytes, be 1 x.pins, be 1 ((x.drainPort.map portCode).getD 0)].flatten

/-- READ SLOTS: up to 16 entries from a slot on, stopping at slot 31 (R157). -/
def State.slotsReply (s : State) (first : Nat) : List Byte :=
  let n := min 16 (32 - first)
  be 1 first ++ be 1 n ++ ((List.range 32).drop first |>.take n).flatMap (fun i => (s.store.slotAt i).reply i)

/-! ### Records -/

/-- Residuals and grade that may be absent. -/
def residualReply (x : Option Residual) : List Byte :=
  match x with
  | none => be 5 0
  | some y => be 2 y.rx ++ be 2 y.ry ++ be 1 y.grade

/-- Offsets 1 to 58 of the TAKE RECORD reply: presence Present, then the record (Table 11-6). -/
def CaptureRecord.reply (r : CaptureRecord) : List Byte :=
  let x := r.startPart
  [be 1 1, be 1 (packBits [x.d.isSome, r.endPart.residual.isSome]), be 4 r.capNo.toNat, be 1 r.slot,
    be 1 r.burstIndex, be 1 r.mode.code, be 4 x.seq.toNat, be 4 x.stamp.toNat, beInt 2 x.t, beInt 2 x.a, beInt 2 x.g,
    beInt 2 x.q, be 1 (packBits [x.isOver, x.isUnder, x.settingsLate]), bePos (some x.zoom), beInt 2 x.focal,
    bePos (some x.focus), beInt 1 (x.d.getD 0), be 1 x.afState.code, be 1 x.afZone, be 1 x.stabState.code,
    be 4 r.endPart.stamp.toNat, residualReply r.endPart.residual,
    be 2 r.readPart.m, be 4 r.readPart.h, be 2 r.readPart.f,
    be 1 (packBits [r.readPart.timedOut, r.readPart.incomplete]), be 4 r.readPart.bytes].flatten

/-- TAKE RECORD, 59 bytes (R166). -/
def State.recordReply (s : State) : List Byte :=
  be 1 s.rq.queue.length ++
  (match s.rq.queue.head? with
    | none => be 58 0
    | some r => r.reply)

/-- Capture number and slot of a record that may be absent. -/
def recordId (r : Option (Word32 × Nat)) : List Byte :=
  match r with
  | none => be 5 0
  | some x => be 4 x.1.toNat ++ be 1 x.2

/-- QUEUE STATUS, 22 bytes (R171). -/
def State.queueReply (s : State) : List Byte :=
  [be 1 s.rq.queue.length, be 1 (s.settingNat ixReadyThreshold), be 1 (s.settingNat ixStaleTime),
    be 1 (packBits [!s.rq.queue.isEmpty, !s.rq.queue.isEmpty, s.rq.stale.isSome, s.rq.opened.isSome]),
    recordId (s.rq.queue.head?.map (fun r => (r.capNo, r.slot))),
    recordId (s.rq.queue.getLast?.map (fun r => (r.capNo, r.slot))),
    be 2 ((s.rq.stale.map (fun t => wholeMs (t - s.clock))).getD 0),
    recordId (s.rq.opened.map (fun o => (o.capNo, o.slot))),
    be 1 ((s.rq.opened.map (fun o => o.phase.code)).getD 0)].flatten

end Sys2Proof.Machine
end

