-- ==== Sys2Proof/Machine/Operands.lean ====
section
/-! DEFINITION. The operand forms: what the payload bytes of each request spell (R197, Table 11-2). -/

namespace Sys2Proof.Machine

/-- The value of bytes sent most significant first (R197). -/
def bigEndian (l : List Byte) : Nat := l.foldl (fun acc b => acc * 256 + b.toNat) 0

/-- A field of n bytes from an offset of the payload. -/
def field (payload : List Byte) (off n : Nat) : Nat := bigEndian ((payload.drop off).take n)

/-- A signed field in two's complement (R197). -/
def signedField (payload : List Byte) (off n : Nat) : Int :=
  let v := field payload off n
  if 2 * v < 256 ^ n then v else (v : Int) - 256 ^ n

/-- Fields of SHOOT: the count n. -/
def shootCount (payload : List Byte) : Nat := field payload 0 1

/-- Fields of SET PATTERN: the pattern number and the 35 weights. -/
def patternNumber (payload : List Byte) : Nat := field payload 0 1
def patternWeights (payload : List Byte) : List Nat := (payload.drop 1).map BitVec.toNat

/-- Fields of READ STATISTICS: the part and the first zone. -/
def statisticsPart (payload : List Byte) : Nat := field payload 0 1
def statisticsFirst (payload : List Byte) : Nat := field payload 1 1

/-- Fields of ZOOM TO: target and speed level. -/
def zoomTarget (payload : List Byte) : Int := field payload 0 2
def zoomToSpeed (payload : List Byte) : Nat := field payload 2 1

/-- Fields of ZOOM RUN: direction (Tele 0, Wide 1) and speed level. -/
def runDirection (payload : List Byte) : Nat := field payload 0 1
def runSpeed (payload : List Byte) : Nat := field payload 1 1

/-- Speed levels are 1..4 (R78, R79). -/
def speedOk (speed : Nat) : Bool := 1 ≤ speed && speed ≤ 4

/-- Field of FOCUS TO: the focus position. -/
def focusTarget (payload : List Byte) : Int := field payload 0 2

/-- The first index of READ SWEEP LOG and GET SETTINGS, and the slot of OPEN DRAIN, OPEN REVIEW, RELEASE SLOT and
READ SLOTS. -/
def firstByte (payload : List Byte) : Nat := field payload 0 1

/-- Fields of OPEN REVIEW after the slot: first offset and length. -/
def reviewOffset (payload : List Byte) : Nat := field payload 1 4
def reviewLength (payload : List Byte) : Nat := field payload 5 4

/-- The count of GET SETTINGS. -/
def settingsCount (payload : List Byte) : Nat := field payload 1 1

/-- The (index, value) pairs of SET SETTINGS, five bytes each (R178). -/
def settingPairs : List Byte → List (Nat × Int)
  | i :: a :: b :: c :: d :: rest => (i.toNat, signedField [a, b, c, d] 0 4) :: settingPairs rest
  | _ => []

/-- A set of kinds: four bytes; none when a bit of positions 20..31 is set (R197). -/
def kindSetOf (payload : List Byte) : Option KindSet :=
  let v := field payload 0 4
  if v < 2 ^ 20 then some (BitVec.ofNat 20 v) else none

/-- The payload length that Formats gives for a command of fixed length (Table 11-2). -/
def lengthIs (n : Nat) (payload : List Byte) : Bool := payload.length = n

/-- The lengths SET SETTINGS accepts: multiples of 5 from 5 to 250 (R197). -/
def settingsLengthOk (payload : List Byte) : Bool :=
  5 ≤ payload.length && payload.length ≤ 250 && payload.length % 5 = 0

end Sys2Proof.Machine
end

