-- ==== Sys2Proof/Machine/FrameRequests.lean ====
section
/-! DEFINITION. The requests of Frame Control: PREPARE, UNPREPARE, SHOOT, STOP BURST. -/

namespace Sys2Proof.Machine

/-- An activity command's effect, then the activity itself, then the quiet timers (R5, R6). R6 does not order the effect and the
activity; the effect first is the model's choice (DESIGN CHOICE, log 38): a SHOOT taken in STILL is owed when IDLE is left. -/
def State.activeStep (f : State → State) (s : State) : State := (f s).activity.quietSync s.busy

/-- A refusal of an activity command is still activity (R6, R176). -/
def State.activityOnly (s : State) : State := s.activeStep id

/-- A port's prepare flag set (R13). -/
def State.setPrepare (s : State) (p : Port) (v : Bool) : State :=
  s.withFc (fun c => { c with prepare := c.prepare.set p v })

/-- PREPARE's own effect: the flag, and what the other blocks do when prepare held begins (R13, R49, R91, R112). -/
def State.prepareOn (s : State) (p : Port) : State :=
  let t := s.setPrepare p true
  if s.prepareHeld then t else t.planPrepareBegins.afPrepareBegins.derive

/-- UNPREPARE's own effect (R13, R49, R100, R103, R112). -/
def State.prepareOff (s : State) (p : Port) : State :=
  let t := s.setPrepare p false
  if s.prepareHeld && !t.prepareHeld then t.planPrepareEnds.afPrepareEnds.derive else t

/-- PREPARE (R13). -/
def execPrepare (p : Port) (payload : List Byte) (s : State) : Host.Outcome State Fault Refusal :=
  s.request p (lengthIs 0 payload) State.activityOnly (fun t => answer (t.activeStep (fun x => x.prepareOn p)) .ok)

/-- UNPREPARE (R13). -/
def execUnprepare (p : Port) (payload : List Byte) (s : State) : Host.Outcome State Fault Refusal :=
  s.request p (lengthIs 0 payload) id (fun t => answer (t.watchBusy (fun x => x.prepareOff p)) .ok)

/-- The shots of SHOOT: added to the counter, saturating at 255, or the continuous flag (R14). -/
def State.addShots (s : State) (n : Nat) : State :=
  if n = 0 then s.withFc (fun c => { c with continuous := true })
  else s.withFc (fun c => { c with owed := satAdd 255 c.owed (min n 32) })

/-- SHOOT's reply: ADJUSTED when n was taken as 32 or the addition saturated (R14). -/
def State.shotsStatus (s : State) (n : Nat) : Status :=
  if 32 < n ∨ (n ≠ 0 ∧ 255 < s.fc.owed + min n 32) then .adjusted else .ok

/-- SHOOT's own effect with the lens Ready (R14, R91, R100, R129). -/
def State.shoot (s : State) (n : Nat) : State := ((s.addShots n).calAbort).afShoot

/-- SHOOT (R14). -/
def execShoot (p : Port) (payload : List Byte) (s : State) : Host.Outcome State Fault Refusal :=
  s.request p (lengthIs 1 payload) State.activityOnly (fun t =>
    if t.lensReady then
      answer (t.activeStep (fun x => x.shoot (shootCount payload))) (t.shotsStatus (shootCount payload))
    else answer t.activityOnly .wrongState)

/-- STOP BURST (R15, R16). -/
def execStopBurst (p : Port) (payload : List Byte) (s : State) : Host.Outcome State Fault Refusal :=
  s.request p (lengthIs 0 payload) id (fun t => answer (t.watchBusy State.clearShots) .ok)

end Sys2Proof.Machine
end

