-- ==== Sys2Proof/Machine/LensRequests.lean ====
section
/-! DEFINITION. The requests of Lens Drive and Focus Search. -/

namespace Sys2Proof.Machine

/-- What EXTEND answers by lens state: LATER where it starts, OK in Ready (R69). -/
def State.extendStatus (s : State) : Status :=
  match s.lens.state with
  | .stowed => if s.loader.loading.isSome then .wrongState else .later
  | .intermediate => .later
  | .ready => .ok
  | .homing | .extending | .retracting | .faulted => .wrongState

/-- EXTEND's own effect. -/
def State.extend (s : State) : State := if s.extendStatus = .later then s.extendStart else s

/-- EXTEND (R69). -/
def execExtend (p : Port) (payload : List Byte) (s : State) : Host.Outcome State Fault Refusal :=
  s.request p (lengthIs 0 payload) State.activityOnly (fun t => answer (t.activeStep State.extend) t.extendStatus)

/-- What RETRACT answers by lens state (R70). -/
def State.retractStatus (s : State) : Status :=
  match s.lens.state with
  | .ready => if s.inFlight then .wrongState else .later
  | .extending | .intermediate => .later
  | .stowed => .ok
  | .homing | .retracting | .faulted => .wrongState

/-- RETRACT's own effect. -/
def State.retract (s : State) : State := if s.retractStatus = .later then s.retractStart else s

/-- RETRACT (R70). -/
def execRetract (p : Port) (payload : List Byte) (s : State) : Host.Outcome State Fault Refusal :=
  s.request p (lengthIs 0 payload) id (fun t => answer (t.watchBusy State.retract) t.retractStatus)

/-- ADJUSTED when a target is clamped (R76). -/
def State.clampStatus (s : State) (which : Actuator) (target : Int) (plain : Status) : Status :=
  if s.clampTarget which target = target then plain else .adjusted

/-- ZOOM TO (R78). -/
def execZoomTo (p : Port) (payload : List Byte) (s : State) : Host.Outcome State Fault Refusal :=
  s.request p (lengthIs 3 payload) State.activityOnly (fun t =>
    if !speedOk (zoomToSpeed payload) then answer t.activityOnly .badArgument
    else if !t.lensReady then answer t.activityOnly .wrongState
    else
      answer (t.activeStep (fun x => x.linkZoom (zoomTarget payload) (zoomToSpeed payload)))
        (t.clampStatus .zoom (zoomTarget payload) .later))

/-- The end of the shooting range in a direction: 2048 for Tele, Zwide for Wide (R79). -/
def State.runTarget (s : State) (direction : Nat) : Int := if direction = 0 then 2048 else s.loader.table.zwide

/-- ZOOM RUN (R79). -/
def execZoomRun (p : Port) (payload : List Byte) (s : State) : Host.Outcome State Fault Refusal :=
  s.request p (lengthIs 2 payload) State.activityOnly (fun t =>
    if 1 < runDirection payload ∨ !speedOk (runSpeed payload) then answer t.activityOnly .badArgument
    else if !t.lensReady then answer t.activityOnly .wrongState
    else answer (t.activeStep (fun x => x.linkZoom (x.runTarget (runDirection payload)) (runSpeed payload))) .later)

/-- ZOOM HALT (R80). -/
def execZoomHalt (p : Port) (payload : List Byte) (s : State) : Host.Outcome State Fault Refusal :=
  s.request p (lengthIs 0 payload) id (fun t =>
    if t.lensReady then answer t.zoomHalt .ok else answer t .wrongState)

/-- FOCUS TO (R82). -/
def execFocusTo (p : Port) (payload : List Byte) (s : State) : Host.Outcome State Fault Refusal :=
  s.request p (lengthIs 2 payload) State.activityOnly (fun t =>
    if t.lensReady then
      answer (t.activeStep (fun x => x.linkFocus (focusTarget payload))) (t.clampStatus .focus (focusTarget payload) .ok)
    else answer t.activityOnly .wrongState)

/-- GET LENS STATE (R86). -/
def execGetLensState (p : Port) (payload : List Byte) (s : State) : Host.Outcome State Fault Refusal :=
  s.request p (lengthIs 0 payload) id (fun t => reading t t.lensReply)

/-- AF START (R90). -/
def execAfStart (p : Port) (payload : List Byte) (s : State) : Host.Outcome State Fault Refusal :=
  s.request p (lengthIs 0 payload) State.activityOnly (fun t =>
    if t.lensReady then answer (t.activeStep (fun x => x.afStart .command)) .ok
    else answer t.activityOnly .wrongState)

/-- AF CANCEL (R100, R102). -/
def execAfCancel (p : Port) (payload : List Byte) (s : State) : Host.Outcome State Fault Refusal :=
  s.request p (lengthIs 0 payload) id (fun t => answer t.afIdle .ok)

/-- READ SWEEP LOG (R107). -/
def execReadSweepLog (p : Port) (payload : List Byte) (s : State) : Host.Outcome State Fault Refusal :=
  s.request p (lengthIs 1 payload) id (fun t =>
    if 63 < firstByte payload then answer t .badArgument else reading t (t.sweepReply (firstByte payload)))

end Sys2Proof.Machine
end

