-- ==== Sys2Proof/Machine/LinkRequests.lean ====
section
/-! DEFINITION. The requests of the Link Ports and the Table Loader: state, nudge, soft reset, events, reload; and a request
with an unknown number. -/

namespace Sys2Proof.Machine

/-- A request with an unknown command number (R176). -/
def execBadCommandRequest (p : Port) (_number : Byte) (s : State) : Host.Outcome State Fault Refusal :=
  .next ((answer s.begin .badCommand).sendTo p)

/-- GET STATE (R180). -/
def execGetState (p : Port) (payload : List Byte) (s : State) : Host.Outcome State Fault Refusal :=
  s.request p (lengthIs 0 payload) id (fun t => reading t t.stateReply)

/-- NUDGE (R181). -/
def execNudge (p : Port) (payload : List Byte) (s : State) : Host.Outcome State Fault Refusal :=
  s.request p (lengthIs 0 payload) State.activityOnly (fun t => answer t.activityOnly .ok)

/-- SOFT RESET (R182). -/
def execSoftReset (p : Port) (payload : List Byte) (s : State) : Host.Outcome State Fault Refusal :=
  s.request p (lengthIs 0 payload) id (fun t => answer t.softReset .ok)

/-- READ EVENTS (R185). -/
def execReadEvents (p : Port) (payload : List Byte) (s : State) : Host.Outcome State Fault Refusal :=
  s.request p (lengthIs 0 payload) id (fun t => reading t (t.eventsReply p))

/-- A change of the event sets, with the attention lines brought up to date (R184). -/
def State.withLinks (s : State) (f : Links → Links) : State := { s with links := (f s.links).refresh }

/-- Kinds removed from a port's pending set (R186). -/
def State.ackKinds (s : State) (p : Port) (k : KindSet) : State :=
  s.withLinks (fun l => { l with pend := l.pend.set p (l.pend.get p &&& ~~~k) })

/-- ACK EVENTS (R186). -/
def execAckEvents (p : Port) (payload : List Byte) (s : State) : Host.Outcome State Fault Refusal :=
  s.request p (lengthIs 4 payload) id (fun t =>
    match kindSetOf payload with
    | none => answer t .badArgument
    | some k => reading (t.ackKinds p k) (be 4 ((t.ackKinds p k).links.pend.get p).toNat))

/-- SET EVENT MASK (R184). -/
def execSetEventMask (p : Port) (payload : List Byte) (s : State) : Host.Outcome State Fault Refusal :=
  s.request p (lengthIs 4 payload) id (fun t =>
    match kindSetOf payload with
    | none => answer t .badArgument
    | some k => answer (t.withLinks (fun l => { l with mask := l.mask.set p k })) .ok)

/-- CLEAR OCCURRENCES (R187). -/
def execClearOccurrences (p : Port) (payload : List Byte) (s : State) : Host.Outcome State Fault Refusal :=
  s.request p (lengthIs 4 payload) id (fun t =>
    match kindSetOf payload with
    | none => answer t .badArgument
    | some k => answer (t.withLinks (fun l => { l with occ := l.occ &&& ~~~k })) .ok)

/-- RELOAD TABLE is taken while the lens is Stowed and no load runs (R195). -/
def State.mayReload (s : State) : Bool := s.lens.state = .stowed && s.loader.loading.isNone

/-- RELOAD TABLE (R195). -/
def execReloadTable (p : Port) (payload : List Byte) (s : State) : Host.Outcome State Fault Refusal :=
  s.request p (lengthIs 0 payload) id (fun t =>
    if t.mayReload then answer t.loadStart .later else answer t .wrongState)

end Sys2Proof.Machine
end

