-- ==== Sys2Proof/Machine/MeteringRequests.lean ====
section
/-! DEFINITION. The requests of the Statistics Unit and the Exposure Planner. -/

namespace Sys2Proof.Machine

/-- SET PATTERN writes all 35 weights, each at most 15 (R39). -/
def State.setPattern (s : State) (n : Nat) (weights : List Nat) : State :=
  { s with st := { s.st with patterns := s.st.patterns.set n (weights.map (fun w => min w 15)) } }

/-- SET PATTERN (R39). -/
def execSetPattern (p : Port) (payload : List Byte) (s : State) : Host.Outcome State Fault Refusal :=
  s.request p (lengthIs 36 payload) id (fun t =>
    if 2 < patternNumber payload then answer t .badArgument
    else
      answer (t.setPattern (patternNumber payload) (patternWeights payload))
        (if (patternWeights payload).any (fun w => decide (15 < w)) then .adjusted else .ok))

/-- READ STATISTICS (R40). -/
def execReadStatistics (p : Port) (payload : List Byte) (s : State) : Host.Outcome State Fault Refusal :=
  s.request p (lengthIs 2 payload) id (fun t =>
    if statisticsPart payload = 0 then reading t t.summaryReply
    else if statisticsPart payload = 1 ∧ statisticsFirst payload ≤ 34 then
      reading t (t.zonesReply (statisticsFirst payload))
    else answer t .badArgument)

/-- AE LOCK (R49). -/
def execAeLock (p : Port) (payload : List Byte) (s : State) : Host.Outcome State Fault Refusal :=
  s.request p (lengthIs 0 payload) id (fun t => answer (t.setLock .command) .ok)

/-- AE UNLOCK (R49). -/
def execAeUnlock (p : Port) (payload : List Byte) (s : State) : Host.Outcome State Fault Refusal :=
  s.request p (lengthIs 0 payload) id (fun t => answer (t.setLock .none) .ok)

/-- GET PLAN (R64). -/
def execGetPlan (p : Port) (payload : List Byte) (s : State) : Host.Outcome State Fault Refusal :=
  s.request p (lengthIs 0 payload) id (fun t => reading t t.planReply)

end Sys2Proof.Machine
end

