-- ==== Sys2Proof/Machine/SettingsRequests.lean ====
section
/-! DEFINITION. SET SETTINGS and GET SETTINGS: the judging of pairs, the nearest legal values, what each block does with a
change. -/

namespace Sys2Proof.Machine

/-! ### Pairs (R178) -/

/-- The range of a setting. -/
def rangeOf (i : Nat) : SettingRange := (settingRows.getD (i - 1) (numeric 0 0 0)).1

/-- A value that a setting may hold. -/
def SettingRange.holds : SettingRange → Int → Bool
  | .range lo hi, v => lo ≤ v && v ≤ hi
  | .codes l, v => l.contains v

/-- The value a range takes for one given: clamped, or as it stands (R178). -/
def SettingRange.take : SettingRange → Int → Int
  | .range lo hi, v => clamp lo hi v
  | .codes _, v => v

/-- A pair names a setting, and an enumerated setting's value is of its enumeration (R178, 1). -/
def pairOk (x : Nat × Int) : Bool :=
  1 ≤ x.1 && x.1 ≤ 57 &&
    match rangeOf x.1 with
    | .range _ _ => true
    | .codes l => l.contains x.2

/-- The list of settings with one written. -/
def writeSetting (l : List Int) (i : Nat) (v : Int) : List Int := l.set (i - 1) v

/-- The frame width: the nearest multiple of 64, midway the lower (R28). -/
def nearestWidth (v : Int) : Int := (clamp 64 8192 v + 31) / 64 * 64

/-- The frame height: even, by dropping one if odd (R28). -/
def nearestHeight (v : Int) : Int := clamp 64 8192 v - clamp 64 8192 v % 2

/-- The value a pair is taken as, against the settings as they stand (R28, R32, R178). -/
def takenValue (l : List Int) (i : Nat) (v : Int) : Int :=
  if i = ixFrameWidth then nearestWidth v
  else if i = ixFrameHeight then nearestHeight v
  else if i = ixAfLeft then clamp 0 (96 - settingOf l ixAfWidth) v
  else if i = ixAfTop then clamp 0 (96 - settingOf l ixAfHeight) v
  else (rangeOf i).take v

/-- A width or height of the AF window lowers the left or top that no longer fits (R32). -/
def lowerWindow (l : List Int) (i : Nat) : List Int :=
  if i = ixAfWidth then writeSetting l ixAfLeft (min (settingOf l ixAfLeft) (96 - settingOf l ixAfWidth))
  else if i = ixAfHeight then writeSetting l ixAfTop (min (settingOf l ixAfTop) (96 - settingOf l ixAfHeight))
  else l

/-- One pair worked through: the settings after it, and whether a value was clamped or taken as a nearer one (R178, 2). -/
def applyPair (x : List Int × Bool) (pair : Nat × Int) : List Int × Bool :=
  let v := takenValue x.1 pair.1 pair.2
  let l := writeSetting x.1 pair.1 v
  (lowerWindow l pair.1, x.2 || decide (v ≠ pair.2) || decide (lowerWindow l pair.1 ≠ l))

/-- All the pairs in the order given (R178). -/
def applyPairs (l : List Int) (pairs : List (Nat × Int)) : List Int × Bool := pairs.foldl applyPair (l, false)

/-! ### What the owning blocks do (R178, 3) -/

/-- Tlive, when the setting of the period in force is changed (R4). -/
def State.periodChanged (s : State) (old : State) : State :=
  if s.fc.cadence ≠ .still ∧ s.period ≠ old.period then s.renewTlive else s

/-- Whether a setting of Table 3-1 is among the pairs (R43). -/
def exposureNamed (pairs : List (Nat × Int)) : Bool :=
  pairs.any (fun x => decide (ixProgram ≤ x.1) && decide (x.1 ≤ ixSupportMode))

/-- The settings take effect together (R178, R4, R43, R103, R110, R170). The blocks act in the order Tlive, planner, Focus Search,
Stabilizer, Record Queue; R178 gives no order (DESIGN CHOICE, log 46). -/
def State.applySettings (s : State) (pairs : List (Nat × Int)) : State :=
  let t := { s with settings := (applyPairs s.settings pairs).1 }
  let t := t.periodChanged s
  let t := if exposureNamed pairs then t.plannerRun else t
  let t := t.trackCheck.derive
  if t.setting ixReadyThreshold = s.setting ixReadyThreshold then t else t.staleThreshold (s.settingNat ixReadyThreshold)

/-- SET SETTINGS (R178). -/
def execSetSettings (p : Port) (payload : List Byte) (s : State) : Host.Outcome State Fault Refusal :=
  s.request p (settingsLengthOk payload) id (fun t =>
    if (settingPairs payload).all pairOk then
      answer (t.applySettings (settingPairs payload))
        (if (applyPairs t.settings (settingPairs payload)).2 then .adjusted else .ok)
    else answer t .badArgument)

/-- GET SETTINGS (R179). -/
def execGetSettings (p : Port) (payload : List Byte) (s : State) : Host.Outcome State Fault Refusal :=
  s.request p (lengthIs 2 payload) id (fun t =>
    if 1 ≤ firstByte payload ∧ firstByte payload ≤ 57 ∧ 1 ≤ settingsCount payload ∧ settingsCount payload ≤ 50 then
      reading t (t.settingsReply (firstByte payload) (settingsCount payload))
    else answer t .badArgument)

end Sys2Proof.Machine
end

