-- ==== Sys2Proof/Machine/StabilizerRequests.lean ====
section
/-! DEFINITION. The requests of the Stabilizer. -/

namespace Sys2Proof.Machine

/-- The states in which CALIBRATE BIAS is taken (R126). -/
def State.mayCalibrate (s : State) : Bool :=
  s.lensReady && !s.inFlight && s.fc.cadence ≠ .still && s.stab.state ≠ .faulted && s.stab.state ≠ .calibrating

/-- CALIBRATE BIAS (R126). -/
def execCalibrateBias (p : Port) (payload : List Byte) (s : State) : Host.Outcome State Fault Refusal :=
  s.request p (lengthIs 0 payload) id (fun t =>
    if t.mayCalibrate then answer t.calStart .later else answer t .wrongState)

/-- CAL CANCEL (R129). -/
def execCalCancel (p : Port) (payload : List Byte) (s : State) : Host.Outcome State Fault Refusal :=
  s.request p (lengthIs 0 payload) id (fun t => answer t.calAbort .ok)

/-- STAB RESTART (R131). -/
def execStabRestart (p : Port) (payload : List Byte) (s : State) : Host.Outcome State Fault Refusal :=
  s.request p (lengthIs 0 payload) id (fun t => answer t.stabRestart .ok)

/-- GET STAB STATE (R132). -/
def execGetStabState (p : Port) (payload : List Byte) (s : State) : Host.Outcome State Fault Refusal :=
  s.request p (lengthIs 0 payload) id (fun t => reading t t.stabReply)

end Sys2Proof.Machine
end

