-- ==== Sys2Proof/Machine/StoreRequests.lean ====
section
/-! DEFINITION. The requests of the Burst Store and the Record Queue. -/

namespace Sys2Proof.Machine

/-- The checks of an open that concern the port and the store, in order (R150, R151: 2 to 4). -/
def State.openRefusal (s : State) (p : Port) : Option Status :=
  if s.store.cut.get p then some .portCut
  else if (s.store.streams.get p).isSome then some .wrongState
  else if s.store.state = .initialising then some .wrongState
  else none

/-- The checks of OPEN DRAIN in order (R150). -/
def State.drainRefusal (s : State) (p : Port) (slot : Nat) : Option Status :=
  if 31 < slot then some .badArgument
  else
    match s.openRefusal p with
    | some st => some st
    | none => if (s.store.slotAt slot).state = .full then none else some .wrongState

/-- A drain opens: the slot becomes Draining on the port (R150). -/
def State.drainOpen (s : State) (p : Port) (slot : Nat) : State :=
  let n := (s.store.slotAt slot).bytes
  (s.withStore (fun b => b.onSlot slot (fun x => { x with state := .draining, drainPort := some p }))).streamOpen p .drain
    slot 0 n

/-- OPEN DRAIN (R150). -/
def execOpenDrain (p : Port) (payload : List Byte) (s : State) : Host.Outcome State Fault Refusal :=
  s.request p (lengthIs 1 payload) id (fun t =>
    match t.drainRefusal p (firstByte payload) with
    | some st => answer t st
    | none => answer (t.drainOpen p (firstByte payload)) .later)

/-- Slot states that take a review (Table 7-4). -/
def SlotState.reviewable : SlotState → Bool
  | .full | .draining | .spent => true
  | .free | .filling | .releasing => false

/-- The checks of OPEN REVIEW in order (R151). -/
def State.reviewRefusal (s : State) (p : Port) (slot first length : Nat) : Option Status :=
  if 31 < slot ∨ length = 0 then some .badArgument
  else
    match s.openRefusal p with
    | some st => some st
    | none =>
      if !(s.store.slotAt slot).state.reviewable then some .wrongState
      else if (s.store.slotAt slot).bytes ≤ first then some .badArgument
      else none

/-- The length of a review, clamped to what the slot holds from the first offset (R151). -/
def State.reviewSpan (s : State) (slot first length : Nat) : Nat := min length ((s.store.slotAt slot).bytes - first)

/-- A review opens: the slot is pinned (R151). -/
def State.reviewOpen (s : State) (p : Port) (slot first length : Nat) : State :=
  (s.withStore (fun b => b.onSlot slot (fun x => { x with pins := x.pins + 1 }))).streamOpen p .review slot first
    (first + s.reviewSpan slot first length)

/-- OPEN REVIEW (R151). -/
def execOpenReview (p : Port) (payload : List Byte) (s : State) : Host.Outcome State Fault Refusal :=
  s.request p (lengthIs 9 payload) id (fun t =>
    match t.reviewRefusal p (firstByte payload) (reviewOffset payload) (reviewLength payload) with
    | some st => answer t st
    | none =>
      answer (t.reviewOpen p (firstByte payload) (reviewOffset payload) (reviewLength payload))
        (if t.reviewSpan (firstByte payload) (reviewOffset payload) (reviewLength payload) = reviewLength payload then .later
         else .adjusted))

/-- CLOSE STREAM's effect: none without an open stream (R152). -/
def State.closeStream (s : State) (p : Port) : State :=
  if (s.store.streams.get p).isSome then (s.streamClose p .closed .full).storeSettle else s

/-- CLOSE STREAM (R152). -/
def execCloseStream (p : Port) (payload : List Byte) (s : State) : Host.Outcome State Fault Refusal :=
  s.request p (lengthIs 0 payload) id (fun t => answer (t.closeStream p) .ok)

/-- REJOIN (R153). -/
def execRejoin (p : Port) (payload : List Byte) (s : State) : Host.Outcome State Fault Refusal :=
  s.request p (lengthIs 0 payload) id (fun t =>
    answer (t.withStore (fun b => { b with cut := b.cut.set p false })) .ok)

/-- Slot states in which RELEASE SLOT is taken (Table 7-5). -/
def SlotState.releasable : SlotState → Bool
  | .full | .draining | .spent => true
  | .free | .filling | .releasing => false

/-- RELEASE SLOT (R154). -/
def execReleaseSlot (p : Port) (payload : List Byte) (s : State) : Host.Outcome State Fault Refusal :=
  s.request p (lengthIs 1 payload) id (fun t =>
    if 31 < firstByte payload then answer t .badArgument
    else if (t.store.slotAt (firstByte payload)).state.releasable then answer (t.slotRelease (firstByte payload)) .ok
    else answer t .wrongState)

/-- CLEAR STORE (R156). -/
def execClearStore (p : Port) (payload : List Byte) (s : State) : Host.Outcome State Fault Refusal :=
  s.request p (lengthIs 0 payload) id (fun t => answer t.storeClear .ok)

/-- GET STORE STATE (R157). -/
def execGetStoreState (p : Port) (payload : List Byte) (s : State) : Host.Outcome State Fault Refusal :=
  s.request p (lengthIs 0 payload) id (fun t => reading t t.storeReply)

/-- READ SLOTS (R157). -/
def execReadSlots (p : Port) (payload : List Byte) (s : State) : Host.Outcome State Fault Refusal :=
  s.request p (lengthIs 1 payload) id (fun t =>
    if 31 < firstByte payload then answer t .badArgument else reading t (t.slotsReply (firstByte payload)))

/-- TAKE RECORD (R166): the reply carries the oldest record; its end removes it (R167). -/
def execTakeRecord (p : Port) (payload : List Byte) (s : State) : Host.Outcome State Fault Refusal :=
  s.request p (lengthIs 0 payload) id (fun t =>
    { reading t t.recordReply with takes := t.rq.queue.head?.map CaptureRecord.capNo })

/-- QUEUE STATUS (R171). -/
def execQueueStatus (p : Port) (payload : List Byte) (s : State) : Host.Outcome State Fault Refusal :=
  s.request p (lengthIs 0 payload) id (fun t => reading t t.queueReply)

end Sys2Proof.Machine
end

