-- ==== Sys2Proof/Machine/LinkTransactions.lean ====
section
/-! DEFINITION. Power-on, the transactions of the links, and the byte times that carry a request and its reply. -/

namespace Sys2Proof.Machine

/-- POWER_ON_RESET (R196): every block at its power-on values, the DRAM contents undefined anew (log 28). -/
def execPowerOnReset (s : State) : Host.Outcome State Fault Refusal :=
  .next { State.reset with pending := s.pending, epoch := s.epoch + 1, free := s.free }

/-- A port's transaction state changes. -/
def State.setTxn (s : State) (p : Port) (x : Txn) : State :=
  { s with links := { s.links with txn := s.links.txn.set p x } }

/-- TRANSACTION_START: select falls (R174); only a Deselected port takes it. -/
def execTransactionStart (p : Port) (s : State) : Host.Outcome State Fault Refusal :=
  .next (if s.links.txn.get p = .deselected then s.begin.setTxn p .command else s.begin)

/-- TRANSACTION_END: select rises (R174). -/
def execTransactionEnd (p : Port) (s : State) : Host.Outcome State Fault Refusal :=
  .next (s.begin.setTxn p .deselected)

/-- The reply of a port is ready (R175). -/
def State.replyReady (s : State) (p : Port) : State :=
  match s.links.txn.get p with
  | .preparing r _ => s.setTxn p (.reply r 0)
  | .deselected | .command | .length _ | .payload _ _ _ | .reply _ _ | .finished => s

/-- REPLY_READY (R175). -/
def execReplyReady (p : Port) (s : State) : Host.Outcome State Fault Refusal := .next (s.begin.replyReady p)

/-- The end of a reply: a TAKE RECORD reply removes its record; the port is in Finished (R167, R175). -/
def State.finishReply (s : State) (p : Port) (r : Reply) : State :=
  (match r.takes with
    | none => s
    | some n => s.take n).setTxn p .finished

/-- The last byte of a reply is clocked out, if the port is in Reply (log 5). -/
def State.replyEnd (s : State) (p : Port) : State :=
  match s.links.txn.get p with
  | .reply r _ => (s.put (.dataOut p (r.bytes.getLastD 0))).finishReply p r
  | .deselected | .command | .length _ | .payload _ _ _ | .preparing _ _ | .finished => s

/-- REPLY_END (R167). -/
def execReplyEnd (p : Port) (s : State) : Host.Outcome State Fault Refusal := .next (s.begin.replyEnd p)

/-- A request handed to its owner by its command number, Table 9-3 (R174, R176). -/
def takeRequest (p : Port) (number : Byte) (payload : List Byte) (s : State) : Host.Outcome State Fault Refusal :=
  match number.toNat with
  | 1 => execPrepare p payload s
  | 2 => execUnprepare p payload s
  | 3 => execShoot p payload s
  | 4 => execStopBurst p payload s
  | 5 => execSetPattern p payload s
  | 6 => execReadStatistics p payload s
  | 7 => execAeLock p payload s
  | 8 => execAeUnlock p payload s
  | 9 => execGetPlan p payload s
  | 10 => execExtend p payload s
  | 11 => execRetract p payload s
  | 12 => execZoomTo p payload s
  | 13 => execZoomRun p payload s
  | 14 => execZoomHalt p payload s
  | 15 => execFocusTo p payload s
  | 16 => execGetLensState p payload s
  | 17 => execAfStart p payload s
  | 18 => execAfCancel p payload s
  | 19 => execReadSweepLog p payload s
  | 20 => execCalibrateBias p payload s
  | 21 => execCalCancel p payload s
  | 22 => execStabRestart p payload s
  | 23 => execGetStabState p payload s
  | 24 => execOpenDrain p payload s
  | 25 => execOpenReview p payload s
  | 26 => execCloseStream p payload s
  | 27 => execRejoin p payload s
  | 28 => execReleaseSlot p payload s
  | 29 => execClearStore p payload s
  | 30 => execGetStoreState p payload s
  | 31 => execReadSlots p payload s
  | 32 => execTakeRecord p payload s
  | 33 => execQueueStatus p payload s
  | 34 => execSetSettings p payload s
  | 35 => execGetSettings p payload s
  | 36 => execGetState p payload s
  | 37 => execNudge p payload s
  | 38 => execSoftReset p payload s
  | 39 => execReadEvents p payload s
  | 40 => execAckEvents p payload s
  | 41 => execSetEventMask p payload s
  | 42 => execClearOccurrences p payload s
  | 43 => execReloadTable p payload s
  | _ => execBadCommandRequest p number s

/-- The filler byte (Table 11-1). -/
def filler : Byte := 0x00#8

/-- What a byte time put on data out beside its other effects. -/
def withDataOut (p : Port) (v : Byte) : Host.Outcome State Fault Refusal → Host.Outcome State Fault Refusal
  | .next t => .next (t.put (.dataOut p v))
  | .fault f => .fault f
  | .refused r => .refused r

/-- The length byte ends: the request is taken with length 0 or above 250, else its payload follows (R174). A length above
250 is handed on as a payload of that length, which no command accepts (log 35). -/
def lengthByte (p : Port) (number din : Byte) (s : State) : Host.Outcome State Fault Refusal :=
  if din.toNat = 0 ∨ 250 < din.toNat then
    withDataOut p filler (takeRequest p number (List.replicate din.toNat 0) s)
  else .next ((s.begin.setTxn p (.payload number [] din.toNat)).put (.dataOut p filler))

/-- A payload byte ends: with the last one the request is taken (R174). -/
def payloadByte (p : Port) (number : Byte) (got : List Byte) (want : Nat) (din : Byte) (s : State) :
    Host.Outcome State Fault Refusal :=
  if want ≤ 1 then withDataOut p filler (takeRequest p number (got ++ [din]) s)
  else .next ((s.begin.setTxn p (.payload number (got ++ [din]) (want - 1))).put (.dataOut p filler))

/-- A byte of the reply is clocked out; with the last one the reply ends (R175). -/
def State.replyByte (s : State) (p : Port) (r : Reply) (sent : Nat) : State :=
  let t := s.put (.dataOut p (r.bytes.getD sent filler))
  if r.bytes.length ≤ sent + 1 then t.finishReply p r else t.setTxn p (.reply r (sent + 1))

/-- LINK_BYTE_END, by the port's transaction state (Table 9-1). -/
def execLinkByteEnd (p : Port) (din : Byte) (s : State) : Host.Outcome State Fault Refusal :=
  match s.links.txn.get p with
  | .deselected => .next s.begin
  | .command => .next ((s.begin.setTxn p (.length din)).put (.dataOut p filler))
  | .length number => lengthByte p number din s
  | .payload number got want => payloadByte p number got want din s
  | .preparing _ _ | .finished => .next (s.begin.put (.dataOut p filler))
  | .reply r sent => .next (s.begin.replyByte p r sent)

end Sys2Proof.Machine
end

