-- ==== Sys2Proof/Machine/Dispatch.lean ====
section
/-! DEFINITION. The dispatch: one arm for each command. -/

namespace Sys2Proof.Machine

def exec (i : Instr) (s : State) : Host.Outcome State Fault Refusal :=
  match i with
  | .powerOnReset => Sys2Proof.Machine.execPowerOnReset s
  | .transactionStart p => Sys2Proof.Machine.execTransactionStart p s
  | .transactionEnd p => Sys2Proof.Machine.execTransactionEnd p s
  | .badCommandRequest p n => Sys2Proof.Machine.execBadCommandRequest p n s
  | .replyReady p => Sys2Proof.Machine.execReplyReady p s
  | .replyEnd p => Sys2Proof.Machine.execReplyEnd p s
  | .prepare p l => Sys2Proof.Machine.execPrepare p l s
  | .unprepare p l => Sys2Proof.Machine.execUnprepare p l s
  | .shoot p l => Sys2Proof.Machine.execShoot p l s
  | .stopBurst p l => Sys2Proof.Machine.execStopBurst p l s
  | .setPattern p l => Sys2Proof.Machine.execSetPattern p l s
  | .readStatistics p l => Sys2Proof.Machine.execReadStatistics p l s
  | .aeLock p l => Sys2Proof.Machine.execAeLock p l s
  | .aeUnlock p l => Sys2Proof.Machine.execAeUnlock p l s
  | .getPlan p l => Sys2Proof.Machine.execGetPlan p l s
  | .extend p l => Sys2Proof.Machine.execExtend p l s
  | .retract p l => Sys2Proof.Machine.execRetract p l s
  | .zoomTo p l => Sys2Proof.Machine.execZoomTo p l s
  | .zoomRun p l => Sys2Proof.Machine.execZoomRun p l s
  | .zoomHalt p l => Sys2Proof.Machine.execZoomHalt p l s
  | .focusTo p l => Sys2Proof.Machine.execFocusTo p l s
  | .getLensState p l => Sys2Proof.Machine.execGetLensState p l s
  | .afStart p l => Sys2Proof.Machine.execAfStart p l s
  | .afCancel p l => Sys2Proof.Machine.execAfCancel p l s
  | .readSweepLog p l => Sys2Proof.Machine.execReadSweepLog p l s
  | .calibrateBias p l => Sys2Proof.Machine.execCalibrateBias p l s
  | .calCancel p l => Sys2Proof.Machine.execCalCancel p l s
  | .stabRestart p l => Sys2Proof.Machine.execStabRestart p l s
  | .getStabState p l => Sys2Proof.Machine.execGetStabState p l s
  | .openDrain p l => Sys2Proof.Machine.execOpenDrain p l s
  | .openReview p l => Sys2Proof.Machine.execOpenReview p l s
  | .closeStream p l => Sys2Proof.Machine.execCloseStream p l s
  | .rejoin p l => Sys2Proof.Machine.execRejoin p l s
  | .releaseSlot p l => Sys2Proof.Machine.execReleaseSlot p l s
  | .clearStore p l => Sys2Proof.Machine.execClearStore p l s
  | .getStoreState p l => Sys2Proof.Machine.execGetStoreState p l s
  | .readSlots p l => Sys2Proof.Machine.execReadSlots p l s
  | .takeRecord p l => Sys2Proof.Machine.execTakeRecord p l s
  | .queueStatus p l => Sys2Proof.Machine.execQueueStatus p l s
  | .setSettings p l => Sys2Proof.Machine.execSetSettings p l s
  | .getSettings p l => Sys2Proof.Machine.execGetSettings p l s
  | .getState p l => Sys2Proof.Machine.execGetState p l s
  | .nudge p l => Sys2Proof.Machine.execNudge p l s
  | .softReset p l => Sys2Proof.Machine.execSoftReset p l s
  | .readEvents p l => Sys2Proof.Machine.execReadEvents p l s
  | .ackEvents p l => Sys2Proof.Machine.execAckEvents p l s
  | .setEventMask p l => Sys2Proof.Machine.execSetEventMask p l s
  | .clearOccurrences p l => Sys2Proof.Machine.execClearOccurrences p l s
  | .reloadTable p l => Sys2Proof.Machine.execReloadTable p l s
  | .quietTimer1Expiry => Sys2Proof.Machine.execQuietTimer1Expiry s
  | .quietTimer2Expiry => Sys2Proof.Machine.execQuietTimer2Expiry s
  | .liveSettingsTransfer => Sys2Proof.Machine.execLiveSettingsTransfer s
  | .settingsAcknowledgement w => Sys2Proof.Machine.execSettingsAcknowledgement w s
  | .liveExposureStart => Sys2Proof.Machine.execLiveExposureStart s
  | .liveExposureEnd => Sys2Proof.Machine.execLiveExposureEnd s
  | .pixelData v bs => Sys2Proof.Machine.execPixelData v bs s
  | .frameEndMarker => Sys2Proof.Machine.execFrameEndMarker s
  | .readoutTimeout => Sys2Proof.Machine.execReadoutTimeout s
  | .captureRelease => Sys2Proof.Machine.execCaptureRelease s
  | .secondTransferTimeout => Sys2Proof.Machine.execSecondTransferTimeout s
  | .captureTrigger => Sys2Proof.Machine.execCaptureTrigger s
  | .closeCommand => Sys2Proof.Machine.execCloseCommand s
  | .captureExposureEnd => Sys2Proof.Machine.execCaptureExposureEnd s
  | .reopenSettleExpiry => Sys2Proof.Machine.execReopenSettleExpiry s
  | .abortReopen => Sys2Proof.Machine.execAbortReopen s
  | .actuatorStep w lv => Sys2Proof.Machine.execActuatorStep w lv s
  | .gyroSampleReceived u v => Sys2Proof.Machine.execGyroSampleReceived u v s
  | .gyroSampleMissed => Sys2Proof.Machine.execGyroSampleMissed s
  | .recenterTick => Sys2Proof.Machine.execRecenterTick s
  | .calibrationTimeout => Sys2Proof.Machine.execCalibrationTimeout s
  | .storeStartupEnd => Sys2Proof.Machine.execStoreStartupEnd s
  | .trickleExpiry => Sys2Proof.Machine.execTrickleExpiry s
  | .grantEnd => Sys2Proof.Machine.execGrantEnd s
  | .dramWake => Sys2Proof.Machine.execDramWake s
  | .streamByte p => Sys2Proof.Machine.execStreamByte p s
  | .stallLimitExpiry p => Sys2Proof.Machine.execStallLimitExpiry p s
  | .staleTimerExpiry => Sys2Proof.Machine.execStaleTimerExpiry s
  | .tableLoadEnd img => Sys2Proof.Machine.execTableLoadEnd img s
  | .linkByteEnd p din => Sys2Proof.Machine.execLinkByteEnd p din s

end Sys2Proof.Machine
end

