-- ==== Sys2Proof/Machine/Step.lean ====
section
/-! DEFINITION. One step: the command at the front of the queue, or the idle part's own next event or 10 ns of time. -/

namespace Sys2Proof.Machine

/-- The idle part: one of its own timed events that are due goes into the queue, whichever comes first being left open; with
none due a gyro request that is due goes out, and else 10 ns pass (log 1, log 3, log 11). -/
def State.idle (s : State) : State :=
  match s.dueCommands with
  | [] => if s.requestDue then s.askGyro else { s with clock := s.clock + 1 }
  | [c] => { s with pending := [c] }
  | c :: more => { s.chosen with pending := [(c :: more).getD (s.choice (more.length + 1)) c] }

/-- One step: the command at the front of the queue acts on the state with the queue's rest. -/
def step (s : State) : Host.Outcome State Fault Refusal :=
  match s.pending with
  | [] => .next s.begin.idle
  | c :: rest => exec c { s with pending := rest }

/-- The command a word spells, put at the front of the queue; the table gives no row bits, so no word spells one (log 30). -/
def State.withFetchWord (s : State) (nbits w : Nat) : State :=
  match decodeTableWord nbits w with
  | none => s
  | some c => { s with pending := c :: s.pending }

end Sys2Proof.Machine
end

