-- ==== Sys2Proof/Safety.lean ====
section
/-! DEFINITION. What a safe state is: the statements of the spec about every state, and the words the obligations use. -/

namespace Sys2Proof.Machine

/-- Each attention line is active exactly while pending set and mask have a kind in common (R184). -/
def State.linesFollow (s : State) : Prop :=
  ∀ p : Port, s.links.line.get p = true ↔ s.links.pend.get p &&& s.links.mask.get p ≠ 0

/-- The store is sound: 32 slots (R142), the backlog in 0..3 (R138), SelfRefresh only while no slot is Filling and no stream is
open (R140), and the DRAM contents in canonical form below 2^30 (R135, log 7). -/
def State.storeSound (s : State) : Prop :=
  s.store.slots.length = 32 ∧ s.store.backlog ≤ 3 ∧
    (s.store.state = .selfRefresh → (∀ x ∈ s.store.slots, x.state ≠ .filling) ∧ s.store.streams = PerPort.all none) ∧
    dramWf s.store.dram = true

/-- A statistics bank has 35 metering zones and nine feature counts (R31, R33). -/
def Bank.shaped (b : Bank) : Prop := b.zones.length = 35 ∧ b.feats.length = 9

/-- Counts lie within their limits (R3, R14, R71, R106, R118, R123), the banks have their shape (R31, R33), and the three pattern
tables hold 35 weights of at most 15 (R39). -/
def State.countsOk (s : State) : Prop :=
  s.fc.owed ≤ 255 ∧ s.fc.burstCount ≤ 255 ∧ s.lens.slips ≤ 255 ∧ s.stab.backlog ≤ 3 ∧ s.stab.rx ≤ 65535 ∧
    s.stab.ry ≤ 65535 ∧ s.af.log.length ≤ 64 ∧ s.st.active.shaped ∧ s.st.completed.shaped ∧
    (∀ r, s.st.last = some r → r.bank.shaped) ∧ s.st.patterns.length = 3 ∧
    ∀ l ∈ s.st.patterns, l.length = 35 ∧ ∀ w ∈ l, w ≤ 15

/-- Every setting lies in its range or enumeration, the width is a multiple of 64, the height even, and the AF window within
the frame (Table 11-3, R28, R32, R178). -/
def settingsLegal (l : List Int) : Prop :=
  l.length = 57 ∧ (∀ i, 1 ≤ i → i ≤ 57 → (rangeOf i).holds (settingOf l i) = true) ∧
    settingOf l ixFrameWidth % 64 = 0 ∧ settingOf l ixFrameHeight % 2 = 0 ∧
    settingOf l ixAfLeft + settingOf l ixAfWidth ≤ 96 ∧ settingOf l ixAfTop + settingOf l ixAfHeight ≤ 96

/-- A safe state: what holds at power-on and is kept by every step. -/
def State.safe (s : State) : Prop := s.linesFollow ∧ settingsLegal s.settings ∧ s.storeSound ∧ s.countsOk

/-- A port holds a fixed reply, not yet ready: start marker, status, length, payload, ready 40 µs from now at the latest
(R174, R175, Table 11-1); `takes` is the record that its end removes (R167). -/
def State.replies (t : State) (p : Port) (st : Status) (body : List Byte) (takes : Option Word32 := none) : Prop :=
  t.links.txn.get p =
    .preparing { bytes := [0x5A#8, BitVec.ofNat 8 st.code, BitVec.ofNat 8 body.length] ++ body, takes := takes }
      (t.clock + us 40)

/-- An outcome is a next state with a property. -/
def completes (o : Host.Outcome State Fault Refusal) (f : State → Prop) : Prop := ∃ t, o = .next t ∧ f t

/-! ### Frames -/

/-- The parts of the state that a frame names: the blocks, the DRAM's bytes, the event sets with their lines, each port's
transaction, the clock, and the model's counter of choices. -/
inductive Part where
  | clock | settings | frames | statistics | planner | lens | focus | stabilizer | store | memory | records | events
  | transaction (p : Port) | loader | choices
  deriving DecidableEq, Repr

/-- A part is the same in two states; the DRAM is the same when every byte reads the same. -/
def Part.same (x : Part) (s t : State) : Prop :=
  match x with
  | .clock => t.clock = s.clock
  | .settings => t.settings = s.settings
  | .frames => t.fc = s.fc
  | .statistics => t.st = s.st
  | .planner => t.ep = s.ep
  | .lens => t.lens = s.lens
  | .focus => t.af = s.af
  | .stabilizer => t.stab = s.stab
  | .store => t.store = s.store
  | .memory => ∀ a, t.dramByte a = s.dramByte a
  | .records => t.rq = s.rq
  | .events =>
    t.links.pend = s.links.pend ∧ t.links.mask = s.links.mask ∧ t.links.line = s.links.line ∧ t.links.occ = s.links.occ
  | .transaction p => t.links.txn.get p = s.links.txn.get p
  | .loader => t.loader = s.loader
  | .choices => t.free = s.free

/-- Only the parts named may differ; the queue of waiting commands and the count of power-ons do not. -/
def onlyChanged (l : List Part) (s t : State) : Prop :=
  t.pending = s.pending ∧ t.epoch = s.epoch ∧ ∀ x : Part, x ∉ l → x.same s t

/-- A request on a port is answered: the next state holds the reply, only the port's transaction and the parts named may have
changed, and the rest is as said. -/
def answers (i : Instr) (s : State) (p : Port) (st : Status) (body : List Byte) (l : List Part) (f : State → Prop) :
    Prop :=
  completes (exec i s) (fun t => t.replies p st body ∧ onlyChanged (.transaction p :: l) s t ∧ f t)

/-- A kind is in a port's pending set. -/
def State.pends (t : State) (p : Port) (k : Kind) : Prop := (t.links.pend.get p).getLsbD k.pos = true

/-- A kind is in the occurrence set. -/
def State.occurred (t : State) (k : Kind) : Prop := t.links.occ.getLsbD k.pos = true

/-! ### Requests (Table 9-3, Table 11-2) -/

/-- A request command: how its command term is built, the payload lengths Formats gives, and whether it is activity (R6). -/
structure RequestRow where
  build : Port → List Byte → Instr
  lengthOk : Nat → Bool
  active : Bool

/-- A command with one payload length. -/
def fixedRow (build : Port → List Byte → Instr) (n : Nat) (active : Bool := false) : RequestRow :=
  { build := build, lengthOk := fun k => k = n, active := active }

/-- Commands 1 to 22 in the order of Table 9-3. -/
def requestRowsLow : List RequestRow :=
  [fixedRow .prepare 0 true, fixedRow .unprepare 0, fixedRow .shoot 1 true, fixedRow .stopBurst 0, fixedRow .setPattern 36,
    fixedRow .readStatistics 2, fixedRow .aeLock 0, fixedRow .aeUnlock 0, fixedRow .getPlan 0, fixedRow .extend 0 true,
    fixedRow .retract 0, fixedRow .zoomTo 3 true, fixedRow .zoomRun 2 true, fixedRow .zoomHalt 0, fixedRow .focusTo 2 true,
    fixedRow .getLensState 0, fixedRow .afStart 0 true, fixedRow .afCancel 0, fixedRow .readSweepLog 1,
    fixedRow .calibrateBias 0, fixedRow .calCancel 0, fixedRow .stabRestart 0]

/-- Commands 23 to 43 in the order of Table 9-3; SET SETTINGS takes 1 to 50 pairs of five bytes. -/
def requestRowsHigh : List RequestRow :=
  [fixedRow .getStabState 0, fixedRow .openDrain 1, fixedRow .openReview 9, fixedRow .closeStream 0, fixedRow .rejoin 0,
    fixedRow .releaseSlot 1, fixedRow .clearStore 0, fixedRow .getStoreState 0, fixedRow .readSlots 1,
    fixedRow .takeRecord 0, fixedRow .queueStatus 0,
    { build := .setSettings, lengthOk := fun k => 5 ≤ k && k ≤ 250 && k % 5 = 0, active := false },
    fixedRow .getSettings 2, fixedRow .getState 0, fixedRow .nudge 0 true, fixedRow .softReset 0, fixedRow .readEvents 0,
    fixedRow .ackEvents 4, fixedRow .setEventMask 4, fixedRow .clearOccurrences 4, fixedRow .reloadTable 0]

/-- Table 9-3: command number n stands at place n − 1. -/
def requestRows : List RequestRow := requestRowsLow ++ requestRowsHigh

/-- The command that a number and a payload spell; an unknown number spells BAD_COMMAND_REQUEST (R174, R176). -/
def requestOf (p : Port) (number : Byte) (payload : List Byte) : Instr :=
  if number.toNat = 0 then .badCommandRequest p number
  else
    match requestRows[number.toNat - 1]? with
    | some r => r.build p payload
    | none => .badCommandRequest p number

/-- A reply payload carries fields: offset, size and value of each, most significant byte first (R197, Tables 11-6, 11-7). -/
def carries (body : List Byte) (fields : List (Nat × Nat × Nat)) : Prop :=
  ∀ x ∈ fields, field body x.1 x.2.1 = x.2.2 % 256 ^ x.2.1

/-- The value that a signed field of n bytes sends (R197). -/
def signedValue (n : Nat) (v : Int) : Nat := (v % 256 ^ n).toNat

/-- The value that a flag bit adds to its byte. -/
def flagValue (bit : Nat) (b : Bool) : Nat := if b then 2 ^ bit else 0

/-- What a value of a setting is taken as, for the settings whose nearest legal value depends on no other one: the width's
nearest multiple of 64, midway the lower, the height even, else the range's nearest value (R28, R178). -/
def legalValue (i : Nat) (v : Int) : Int :=
  if i = ixFrameWidth then (max 64 (min 8192 v) + 31) / 64 * 64
  else if i = ixFrameHeight then max 64 (min 8192 v) - max 64 (min 8192 v) % 2
  else (rangeOf i).take v

/-- The last pair that names a setting, if one does (R178). -/
def lastPair (pairs : List (Nat × Int)) (i : Nat) : Option Int := (pairs.reverse.find? (fun x => x.1 = i)).map Prod.snd

/-- After an activity request (R5, R6): LIVE-FAST, quiet timer 2 stopped, and, once the timers have started, quiet timer 1
restarted with its full span, or stopped while a busy condition holds. -/
def State.tookActivity (s t : State) : Prop :=
  t.fc.cadence = .liveFast ∧ t.fc.quiet2 = none ∧
    (t.fc.started = true →
      t.fc.quiet1 = if t.busy then none else some (s.clock + sec (s.settingNat ixQuietTime1)))

/-- The step that a record used gives (R46, R47, R48): from E, the deadband, K and the highlight guard. -/
def State.meteredStep (s : State) (r : StatRecord) : Int :=
  let e := logLight (s.settingNat ixTarget) + s.setting ixCompensation - logLight r.m
  let k := if s.prepareHeld ∨ s.ep.fastStart then 4 else s.setting ixConvergence
  let d := if |e| ≤ s.setting ixDeadband then 0 else max (-48) (min 48 ((e * k).tdiv 4))
  if s.settingOn ixHighlightGuard ∧ s.settingNat ixHighlightThreshold * r.n < 256 * r.h then min d (-4) else d

/-- A capture's exposure has started in t (R2, R12, R22, R118): the number counted, the notice given with what was applied, the
frame on the pixel input with its end t µs later, the frame in progress opened, the residuals cleared. -/
def State.captureStarted (s t : State) (tcode g : Int) (late : Bool) : Prop :=
  t.fc.state = .exposing ∧ t.fc.fseq = s.fc.fseq + 1 ∧
    t.fc.frame = some { kind := .capture, phase := .exposing, limit := t.clock + us (microsOf tcode) } ∧
    (∃ n, t.fc.notice = some n ∧ n.seq = s.fc.fseq + 1 ∧ n.stamp = t.timeBase ∧ n.kind = .capture ∧ n.t = tcode ∧ n.g = g ∧
      n.late = late) ∧
    Output.trigger .capture ∈ t.outs ∧ t.stab.rx = 0 ∧ t.stab.ry = 0 ∧
    t.stab.resFlag = decide (s.stab.state = .active) ∧
    (∀ r, s.rq.opened = some r → ∃ q, t.rq.opened = some q ∧ q.capNo = r.capNo ∧ q.slot = r.slot ∧ q.phase = .exposing ∧
      ∃ x, q.startPart = some x ∧ x.seq = s.fc.fseq + 1 ∧ x.stamp = t.timeBase ∧ x.t = tcode ∧ x.g = g ∧
        x.settingsLate = late ∧ x.q = tcode + g - x.a) ∧
    ∃ f, t.st.fip = some f ∧ f.seq = s.fc.fseq + 1 ∧ f.stamp = t.timeBase ∧ f.kind = .capture ∧ f.t = tcode ∧ f.g = g ∧
      f.flags.settingsLate = late ∧ f.flags.capture = true ∧ f.spanOpen = true ∧ f.samples = 0

/-- The gate has passed in t (R3, R20, R21): the numbers counted, the lowest-numbered Free slot Filling, the open record begun,
and the capture's settings transfer, of kind Capture, under way. -/
def State.gatePassed (s t : State) : Prop :=
  t.fc.state = .arming ∧ t.fc.capNo = s.fc.capNo + 1 ∧ t.fc.burstCount = min 255 (s.fc.burstCount + 1) ∧ t.fc.next = .none ∧
    (∃ c, t.fc.cap = some c ∧ c.mode = s.burstMode ∧ c.releaseAt = some (t.clock + us (s.settingNat ixSettingsLead)) ∧
      c.acked = false ∧ t.fc.xfers = s.fc.xfers ++ [c.transfer] ∧ c.transfer.values.kind = .capture ∧
      c.transfer.values.t = c.plan.t ∧ c.transfer.values.g = c.plan.g) ∧
    ∃ i, s.store.firstSlot .free = some i ∧ (t.store.slotAt i).state = .filling ∧
      (t.store.slotAt i).capNo = some (s.fc.capNo + 1) ∧ (t.store.slotAt i).bytes = 0 ∧
      (∀ j, j ≠ i → t.store.slotAt j = s.store.slotAt j) ∧
      ∃ o, t.rq.opened = some o ∧ o.capNo = s.fc.capNo + 1 ∧ o.slot = i ∧ o.burstIndex = min 255 (s.fc.burstCount + 1) ∧
        o.mode = s.burstMode ∧ o.phase = .gated

/-- The live loop goes on in t (R8, R9, R19): in LIVE, the next frame's transfer under way or planned as before. With no next frame,
where the loop resumes while a live frame is still on the input, the transfer begins now and its exposure start is one settings lead
away: an inference (log 15). -/
def State.liveGoesOn (s t : State) : Prop :=
  t.fc.state = .live ∧ (s.fc.next ≠ .none → t.fc.next = s.fc.next) ∧
    (s.fc.next = .none → ∃ x, t.fc.next = .sent (t.clock + us (s.settingNat ixSettingsLead)) x false ∧
      t.fc.xfers = s.fc.xfers ++ [x])

/-! ### Statistics Unit -/

/-- A green sample v at the next place of a frame has met the green before it (R33): the pair is counted in the AF zone that holds both,
or no feature count changes. -/
def FrameInProgress.featureCounted (g : FrameInProgress) (s t : State) (v : Nat) : Prop :=
  let row := g.samples / g.geo.w
  let col := g.samples % g.geo.w
  (∀ u j x, g.prev = some (row, col - 2, u) → 2 ≤ col → afZoneOf g.geo row (col - 2) = some j →
    afZoneOf g.geo row col = some j → s.st.active.feats[j]? = some x →
    ((g.geo.contrast : Int) < |(v : Int) - u| → t.st.active.feats[j]? = some (min 65535 (x + 1)) ∧
      ∀ k, k ≠ j → t.st.active.feats[k]? = s.st.active.feats[k]?) ∧
    (|(v : Int) - u| ≤ g.geo.contrast → t.st.active.feats = s.st.active.feats)) ∧
  (g.prev = none ∨ afZoneOf g.geo row col = none → t.st.active.feats = s.st.active.feats) ∧
  (∀ r c u, g.prev = some (r, c, u) → r ≠ row ∨ c + 2 ≠ col ∨ afZoneOf g.geo r c ≠ afZoneOf g.geo row col →
    t.st.active.feats = s.st.active.feats)

/-- The weighted mean of a bank's zones by a pattern table (R38): each zone's mean, 0 without a green, weighted; every weight is 1 where
the table's sum to 0. -/
def meanBy (table : List Nat) (zones : List Zone) : Nat :=
  let w := if table.sum = 0 then List.replicate 35 1 else table
  (List.zipWith (fun x (z : Zone) => x * if z.count = 0 then 0 else z.sum / z.count) w zones).sum / w.sum

/-- A record formed from the bank just filled and the frame in progress g (R37, R38): its identity and applied values, its flags with
Partial as given, the two marks, M with the pattern in force, h and n. -/
def State.recordFormed (s : State) (g : FrameInProgress) (timedOut : Bool) (r : StatRecord) : Prop :=
  r.seq = g.seq ∧ r.stamp = g.stamp ∧ r.kind = g.kind ∧ r.t = g.t ∧ r.a = g.a ∧ r.g = g.g ∧ r.q = g.q ∧
    r.flags = { g.flags with incomplete := timedOut } ∧
    (r.aeEligible = true ↔ timedOut = false ∧ g.flags.irisMoved = false) ∧
    (r.afEligible = true ↔ timedOut = false ∧ g.flags.focusMoved = false ∧ g.flags.zoomMoved = false ∧
      ∀ y, s.st.focusStamp = some y → 1 ≤ (g.stamp - y).toNat ∧ (g.stamp - y).toNat ≤ 2 ^ 31 - 1) ∧
    r.pattern = s.settingNat ixPattern ∧
    (∀ w, s.st.patterns[s.settingNat ixPattern]? = some w → r.m = meanBy w s.st.active.zones) ∧
    r.h = (s.st.active.zones.map Zone.high).sum ∧ r.n = (s.st.active.zones.map Zone.count).sum ∧ r.bank = s.st.active

/-! ### Exposure Planner -/

/-- T and G of a plan at a fixed aperture (R54, R56): T is Qreq + A within 80..cap, and G makes up what the cap leaves, up to Gmax. -/
def Plan.atAperture (x : Plan) (qreq cap gmax : Int) : Prop :=
  (qreq + x.a < 80 → x.t = 80 ∧ x.g = 0) ∧
  (80 ≤ qreq + x.a → qreq + x.a ≤ cap → x.t = qreq + x.a ∧ x.g = 0) ∧
  (80 ≤ qreq + x.a → cap < qreq + x.a → x.t = cap ∧ x.g = min gmax (qreq + x.a - cap))

/-- T and G of a plan at a fixed time (R55): the user T within 80..cap, and the gain that T and A leave to be made up, up to Gmax. -/
def Plan.atTime (x : Plan) (qreq cap gmax user : Int) : Prop :=
  x.t = max 80 (min cap user) ∧
  (x.t - x.a < qreq → x.g = min gmax (qreq - (x.t - x.a))) ∧ (qreq ≤ x.t - x.a → x.g = 0)

/-- The iris step that takes up a surplus (R54, R55): the surplus over 8, rounded up, at most pmax; 0 without a surplus. -/
def Plan.closesBy (x : Plan) (surplus pmax : Int) : Prop :=
  (surplus ≤ 0 → x.p = 0) ∧ (0 < surplus → ∀ n, surplus ≤ 8 * n → 8 * n < surplus + 8 → x.p = min pmax n)

/-- What every plan of a run holds, whatever the program (Table 3-2, R54 to R58): A and Q from its T, p and G, the sum it was made
from, and Over and Under against it, clear in Manual. -/
def State.planHolds (s : State) (x : Plan) (amin : Int) : Prop :=
  x.formed = true ∧ x.amin = amin ∧ x.a = amin + 8 * x.p ∧ x.q = x.t + x.g - x.a ∧ x.qraw = s.ep.qraw ∧ x.program = s.program ∧
    x.gmax = s.setting ixGmax ∧
    x.isOver = (decide (s.program ≠ .manual) && decide (s.ep.qraw < x.q)) ∧
    x.isUnder = (decide (s.program ≠ .manual) && decide (x.q < s.ep.qraw))

/-- A run of the planner on Amin(z) and Tlimit(z) has made both plans in t (R50 to R58): Qreq and pmax, then the capture plan under its
cap and credit, and the live plan under Tlive at the capture plan's aperture, as the program gives. -/
def State.plansMade (s t : State) (amin tlimit : Int) : Prop :=
  let x := t.ep.capPlan
  let y := t.ep.livePlan
  let q := t.ep.qreq
  let gmax := s.setting ixGmax
  q = max (80 - s.setting ixAmax) (min (320 + gmax - amin) s.ep.qraw) ∧
    (0 ≤ t.ep.pmax ∧ t.ep.pmax ≤ 6 ∧ (s.setting ixAmax < amin → t.ep.pmax = 0) ∧
      (amin ≤ s.setting ixAmax → amin + 8 * t.ep.pmax ≤ s.setting ixAmax ∧
        (t.ep.pmax = 6 ∨ s.setting ixAmax < amin + 8 * (t.ep.pmax + 1)))) ∧
    t.lens.pmax = t.ep.pmax ∧ s.planHolds x amin ∧ s.planHolds y amin ∧ y.p = x.p ∧ y.tcap = s.fc.tlive ∧ y.credit = 0 ∧
    (s.program ≠ .manual → ∀ c : Int, c = (if s.creditCondition then (if s.ep.penalty then 32 else 48) else 0) →
      x.credit = (if s.settingOn ixSupportMode then 0 else c) ∧
      x.tcap = if s.settingOn ixSupportMode then 320 else min 320 (tlimit + c)) ∧
    (s.program = .auto → x.closesBy (80 - (q + amin)) t.ep.pmax ∧ y.atAperture q s.fc.tlive gmax ∧
      (80 ≤ q + amin → x.atAperture q x.tcap gmax) ∧ (q + amin < 80 → x.t = max 80 (q + x.a) ∧ x.g = 0)) ∧
    (s.program = .timePriority → x.closesBy (x.t - amin - q) t.ep.pmax ∧
      x.atTime q x.tcap gmax (s.setting ixUserT) ∧ y.atTime q s.fc.tlive gmax (s.setting ixUserT)) ∧
    (s.program = .aperturePriority → x.p = min (s.setting ixUserIris) t.ep.pmax ∧ x.atAperture q x.tcap gmax ∧
      y.atAperture q s.fc.tlive gmax) ∧
    (s.program = .manual → x.p = min (s.setting ixUserIris) t.ep.pmax ∧ x.t = s.setting ixUserT ∧
      y.t = min (s.setting ixUserT) s.fc.tlive ∧ x.g = min (s.setting ixUserG) gmax ∧ y.g = x.g ∧ x.tcap = 320 ∧ x.credit = 0)

/-- The iris request at the end of a run (R59, R74): in Ready, where the capture plan's p differs from the iris target, the move to p is
asked for by the planner, pending under the capture hold; else there is none. -/
def State.irisAsked (s t : State) : Prop :=
  (s.lens.state ≠ .ready ∨ s.lens.iris.target = some t.ep.capPlan.p → t.lens.iris = s.lens.iris ∧ Part.statistics.same s t) ∧
  (s.lens.state = .ready → s.lens.iris.target ≠ some t.ep.capPlan.p → 0 ≤ t.ep.capPlan.p →
    (s.hold = true → t.lens.iris =
      { s.lens.iris with pending := some { target := t.ep.capPlan.p, origin := .planner, speed := 0 } }) ∧
    (s.hold = false → t.lens.iris.target = some t.ep.capPlan.p ∧ t.lens.iris.origin = .planner ∧
      t.lens.iris.pos = s.lens.iris.pos ∧ t.lens.iris.inFlight = decide (s.lens.iris.pos ≠ some t.ep.capPlan.p)))

/-! ### Focus Search -/

/-- Focus Search has asked for a move to x and waits for it, unless the move is held pending or completed at once (R74, R76,
R93). -/
def State.focusAsked (t : State) (x : Int) (w : AfWait) : Prop :=
  t.hold = false → t.lens.focus.pos ≠ some (max 0 (min 1023 x)) →
    t.af.wait = w ∧ t.lens.focus.target = some (max 0 (min 1023 x)) ∧ t.lens.focus.origin = .search ∧
      t.lens.focus.inFlight = true

/-- A move to x that Focus Search asks for completes at once in t (R73). -/
def State.focusThere (t : State) (x : Int) : Prop := t.hold = false ∧ t.lens.focus.pos = some (max 0 (min 1023 x))

/-- The state after a lock or a probe (R98, R103, R105). -/
def State.afterLock (s : State) : AfState := if s.watching then .tracking else .locked

/-- The search has locked in t (R98). -/
def State.searchLocked (s t : State) (f : Nat) : Prop :=
  t.af.state = s.afterLock ∧ t.af.result = .locked ∧ t.af.flock = f ∧ t.af.low = 0 ∧ t.occurred .afLocked

/-- The search has failed in t (R99). -/
def State.searchFailed (t : State) : Prop :=
  t.af.state = .failed ∧ t.af.result = .lowContrast ∧ t.af.flock = 0 ∧ t.occurred .afFailed

/-- The move to the fine best position b has completed: the search is decided as a lock or a failure (R97, R98, R99). -/
def State.searchDecided (s t : State) (b : Int) (f : Nat) : Prop :=
  (s.af.fmin ≤ f → t.lens.d = some (distanceOf t.lens.iv b) ∧
    t.focusAsked (trackAt t.lens.iv (distanceOf t.lens.iv b)) .snap ∧
    (t.focusThere (trackAt t.lens.iv (distanceOf t.lens.iv b)) → s.searchLocked t f)) ∧
  (f < s.af.fmin → t.lens.d = some 32 ∧ t.focusAsked (trackAt t.lens.iv 32) .failMove ∧
    (t.focusThere (trackAt t.lens.iv 32) → t.searchFailed))

/-- The probe has ended in t with a best F (R105). -/
def State.probeEnded (s t : State) (f : Nat) : Prop :=
  t.af.state = s.afterLock ∧ t.af.flock = f ∧ t.af.low = 0 ∧ t.af.probe = none ∧ t.af.result = s.af.result ∧
    t.lens.d = some (distanceOf t.lens.iv (t.lens.focus.pos.getD 0))

/-- A sample of F v at a position is in the log, with its frame's number and phase (R93, R106). -/
def State.logged (s t : State) (v : Nat) (pos : Int) (seq : Word32) (phase : SweepPhase) : Prop :=
  t.af.log = (if s.af.log.length < 64 then s.af.log else s.af.log.drop 1) ++
    [{ pos := pos, f := v, seq := seq, phase := phase }]

/-- The record of a greatest F after a sample; a tie keeps the earlier (R95, R96, R104). -/
def bestAfter (old : Option Peak) (v : Nat) (pos : Int) : Peak :=
  match old with
  | none => { f := v, pos := pos }
  | some x => if x.f < v then { f := v, pos := pos } else x

/-- The fine pass has begun in t around a peak position p (R95, R96): its bounds and its number of samples fixed, no fine best, and the
first move to its lower bound asked for. -/
def State.fineBegun (s t : State) (p : Int) : Prop :=
  t.af.state = .fine ∧ t.af.fineFrom = max s.af.lo (p - s.af.coarse) ∧ t.af.fineTo = min s.af.hi (p + s.af.coarse) ∧
    t.af.fineTotal = min (2 * s.af.coarse.toNat / s.af.fine.toNat + 1) 33 ∧ t.af.fineIx = 0 ∧ t.af.best = none ∧
    t.focusAsked (max s.af.lo (p - s.af.coarse)) .sampleMove

/-- The coarse pass goes on in t with a move to x within the range (R94). -/
def State.coarseMoved (s t : State) (x : Int) : Prop :=
  t.af.state = .coarse ∧ t.focusAsked (max s.af.lo (min s.af.hi x)) .sampleMove

/-- A coarse sample of F v has been taken at a position (R94, R95), its tests in their order: the reversal, where the two
samples after the start fell; then two low samples in a row, the range end (in a range of one position, any sample), or the budget, which
end the pass; else the next coarse move. Where the start is the range end in the new direction, coarse ends instead of reversing. -/
def State.coarseSampled (s t : State) (v : Nat) (pos : Int) : Prop :=
  let a := s.af
  let low := if 8 * v < 7 * (bestAfter a.peak v pos).f then a.low + 1 else 0
  let falls := a.count = 2 ∧ a.reversed = false ∧ a.f1 < a.f0 ∧ v < a.f1
  let atEnd := a.lo = a.hi ∨ if a.near then pos = a.hi else pos = a.lo
  (falls → ∀ x : Int, x = (if a.near then a.lo else a.hi) →
    (a.start = x → s.fineBegun t (bestAfter a.peak v pos).pos) ∧
    (a.start ≠ x → t.af.reversed = true ∧ t.af.low = 0 ∧ t.af.near = !a.near ∧
      s.coarseMoved t (if a.near then a.start - a.coarse else a.start + a.coarse))) ∧
  (¬ falls → t.af.reversed = a.reversed ∧ t.af.near = a.near ∧ t.af.low = low ∧
    (2 ≤ low ∨ atEnd ∨ a.budget ≤ a.count + 1 → s.fineBegun t (bestAfter a.peak v pos).pos) ∧
    (low < 2 → ¬ atEnd → a.count + 1 < a.budget →
      (a.count = 0 → t.af.f0 = v) ∧ (a.count = 1 → t.af.f0 = a.f0 ∧ t.af.f1 = v) ∧
      s.coarseMoved t (if a.near then pos + a.coarse else pos - a.coarse)))

/-- A fine sample has been taken (R96, R97): the best record, then the next step up, or, after n samples or the one at b, the
approach to the best position B: from below if the last sample lies above B, else at once. -/
def State.fineSampled (s t : State) (v : Nat) (pos : Int) : Prop :=
  ∀ b : Peak, b = bestAfter s.af.best v pos → t.af.best = some b ∧
    (s.af.fineIx + 1 < s.af.fineTotal → min s.af.fineTo (s.af.fineFrom + s.af.fine * s.af.fineIx) ≠ s.af.fineTo →
      t.af.state = .fine ∧ t.af.fineIx = s.af.fineIx + 1 ∧
      t.focusAsked (min s.af.fineTo (s.af.fineFrom + s.af.fine * (s.af.fineIx + 1 : Nat))) .sampleMove) ∧
    (s.af.fineTotal ≤ s.af.fineIx + 1 ∨ min s.af.fineTo (s.af.fineFrom + s.af.fine * s.af.fineIx) = s.af.fineTo →
      (b.pos < pos → t.focusAsked (b.pos - 2 * s.af.fine) .settleBelow ∧
        (t.hold = false → t.lens.focus.pos ≠ some (max 0 (min 1023 (b.pos - 2 * s.af.fine))) → t.af.state = .settle)) ∧
      (pos ≤ b.pos → t.focusAsked b.pos .settleBest ∧ (t.focusThere b.pos → s.searchDecided t b.pos b.f)))

/-- A probe sample has been taken (R104, R105): the probe best, then the walk's next step, or the final move to the best position
when the walk stops: after the reversed step, at a fall, or at the eighth sample. -/
def State.probeSampled (s t : State) (p : Probe) (v : Nat) (pos : Int) : Prop :=
  ∀ b : Peak, b = bestAfter (some p.best) v pos →
    (p.leg = .first → p.fref < v →
      t.af.probe = some { p with moves := p.moves + 1, best := b, prevF := v, leg := .toNear } ∧ t.af.state = .probe ∧
      t.focusAsked (pos + p.step) .sampleMove) ∧
    (p.leg = .first → v ≤ p.fref →
      t.af.probe = some { p with moves := p.moves + 1, best := b, prevF := v, leg := .reversed } ∧ t.af.state = .probe ∧
      t.focusAsked (p.p0 - p.step) .sampleMove) ∧
    (p.leg = .toNear → p.prevF ≤ v → p.moves + 1 < 8 →
      t.af.probe = some { p with moves := p.moves + 1, best := b, prevF := v } ∧ t.af.state = .probe ∧
      t.focusAsked (pos + p.step) .sampleMove) ∧
    (p.leg = .reversed ∨ p.leg = .toNear ∧ (v < p.prevF ∨ 8 ≤ p.moves + 1) →
      t.focusAsked b.pos .probeFinal ∧ (t.focusThere b.pos → s.probeEnded t b.f))

/-- A record has been compared in Tracking (R103, R104): a weak one is counted, the second one starts a probe with a fine step
toward near, any other sets the count to 0. -/
def State.trackCompared (s t : State) (v : Nat) (pos : Int) : Prop :=
  (3 * s.af.flock ≤ 4 * v → t.af = { s.af with low := 0 }) ∧
  (4 * v < 3 * s.af.flock → s.af.low = 0 → t.af = { s.af with low := 1 }) ∧
  (4 * v < 3 * s.af.flock → 1 ≤ s.af.low → t.af.state = .probe ∧ t.af.log = s.af.log ∧
    t.af.probe = some { p0 := pos, fref := v, best := { f := v, pos := pos }, step := s.setting ixFineStep, prevF := v,
                        moves := 0, leg := .first } ∧
    t.focusAsked (pos + s.setting ixFineStep) .sampleMove)

/-- A move of Focus Search's own has completed (R93, R97, R98, R99, R105): the sample that follows it, the next move of the final
approach, the decision, the lock, the failure, or the probe's end. -/
def State.ownMoveDone (s t : State) : Prop :=
  (s.af.wait = .sampleMove → t.af = { s.af with wait := .sample }) ∧
  (∀ b, s.af.best = some b →
    (s.af.wait = .settleBelow → t.focusAsked b.pos .settleBest) ∧
    (s.af.wait = .settleBest → s.searchDecided t b.pos b.f) ∧
    (s.af.wait = .snap → s.searchLocked t b.f)) ∧
  (s.af.wait = .failMove → t.searchFailed) ∧
  (∀ p, s.af.probe = some p → s.af.wait = .probeFinal → s.probeEnded t p.best.f)

/-- A pending move has started toward x (R73, R74): its target and origin, in flight unless the actuator stands at x already, when it
completes at once. -/
def ActRecord.movesTo (r : ActRecord) (m : PendingMove) (x : Int) : Prop :=
  r.target = some x ∧ r.origin = m.origin ∧ r.inFlight = decide (r.pos ≠ some x)

/-- A step of an actuator is due, from position p toward a target q (R73). -/
def State.stepDue (s : State) (which : Actuator) (p q : Int) (d : Nat) : Prop :=
  (s.act which).pos = some p ∧ (s.act which).target = some q ∧ (s.act which).stepAt = some d ∧
    (s.act which).inFlight = true ∧ p ≠ q

/-! ### The Stabilizer's samples -/

/-- An axis at a sample: a new orientation sets θ to 0 and clears pan flag and counts before the sample is used (R114). -/
def State.oriented (s : State) (a : ShiftAxis) : ShiftAxis :=
  if s.stab.orient = s.setting ixOrientation then a else { a with theta := 0, pan := false, entry := 0, exit := 0 }

/-- Pan detection of a sample of raw rate r has taken an axis from a to b (R120), the count below the pan count before it: the
entry count of rates above the threshold, the exit count of rates below half of it; at the pan count the flag turns. -/
def State.panDetected (s : State) (a b : ShiftAxis) (r : Int) : Prop :=
  (a.pan = false → a.entry < s.settingNat ixPanCount → ∀ n, n = (if s.setting ixPanThreshold < |r| then a.entry + 1 else 0) →
    (n < s.settingNat ixPanCount → b.pan = false ∧ b.entry = n) ∧
    (s.settingNat ixPanCount ≤ n → b.pan = true ∧ b.entry = 0 ∧ b.exit = 0)) ∧
  (a.pan = true → a.exit < s.settingNat ixPanCount → ∀ n, n = (if |r| < s.setting ixPanThreshold / 2 then a.exit + 1 else 0) →
    (n < s.settingNat ixPanCount → b.pan = true ∧ b.exit = n) ∧
    (s.settingNat ixPanCount ≤ n → b.pan = false ∧ b.entry = 0 ∧ b.exit = 0))

/-- A sample of raw rate r has taken an axis from a to b in Active (R115, R116, R121, R124): pan detection; the integration with its
leak, or the decay of a panning axis; a recenter step that is due; the demand, the target and the excess. -/
def State.axisTaken (s : State) (a b : ShiftAxis) (r bias : Int) : Prop :=
  s.panDetected a b r ∧
  (∀ x : Int, x = (if b.pan then a.theta - a.theta.tdiv 64
      else max (-2147483647) (min 2147483647 (a.theta + (r * 16 - bias) - a.theta / 2 ^ s.settingNat ixLeakShift))) →
    b.theta = if 0 < s.stab.backlog ∧ s.window = false then x - x.tdiv 4 else x) ∧
  b.demand = (b.theta * s.stab.gain).tdiv 16777216 ∧
  b.target = max (-(s.setting ixShiftLimit)) (min (s.setting ixShiftLimit) b.demand) ∧
  b.excess = |b.demand - b.target|

/-- A calibration has ended with Done in t: the mean of n samples' sums, rounded, is the bias (R128). -/
def State.calibrated (s t : State) (n sumX sumY : Int) : Prop :=
  t.stab.state = s.derivedState ∧ t.stab.cal.status = .done ∧ t.stab.cal.limit = none ∧ t.occurred .biasCalEnded ∧
    t.stab.cal.result = some (t.stab.biasX, t.stab.biasY) ∧
    (0 < n → 2 * |t.stab.biasX * n - sumX * 16| ≤ n ∧ 2 * |t.stab.biasY * n - sumY * 16| ≤ n)

/-- A sample of raw rates x, y has been taken in a calibration, z the sample before it (R127, R128): a still one is added, and may
bring MinMet or, as the 16,000th, Done; one that is not still ends MinMet with Done, and clears the run in Sampling. -/
def State.calTaken (s t : State) (z : GyroSample) (x y : Int) : Prop :=
  let c := s.stab.cal
  (|x - z.x| ≤ s.setting ixStillThreshold ∧ |y - z.y| ≤ s.setting ixStillThreshold →
    (c.count + 1 < 16000 → t.stab.state = .calibrating ∧ t.stab.cal = { c with
      count := c.count + 1, sumX := c.sumX + x, sumY := c.sumY + y,
      status := if c.status = .sampling ∧ s.setting ixCalMinimum ≤ (c.count + 1 : Nat) then .minMet else c.status }) ∧
    (16000 ≤ c.count + 1 → s.calibrated t (c.count + 1 : Nat) (c.sumX + x) (c.sumY + y))) ∧
  (s.setting ixStillThreshold < |x - z.x| ∨ s.setting ixStillThreshold < |y - z.y| →
    (c.status = .minMet → s.calibrated t c.count c.sumX c.sumY) ∧
    (c.status ≠ .minMet → t.stab.state = .calibrating ∧ t.stab.cal = { c with count := 0, sumX := 0, sumY := 0 }))

/-- A gyro fault has been detected in t: flag and cause, GYRO_FAULT, Faulted, a calibration aborted (R129, R130). -/
def State.gyroFaulted (s t : State) (cause : GyroCause) : Prop :=
  t.stab.cause = cause ∧ t.stab.state = .faulted ∧ t.stab.missed = 0 ∧ t.stab.rep1 = 0 ∧ t.stab.rep2 = 0 ∧
    t.occurred .gyroFault ∧ (∀ q, t.pends q .gyroFault) ∧
    (s.stab.state = .calibrating → t.stab.cal.status = .aborted ∧ t.occurred .biasCalEnded)

/-- A link zoom request to x at a speed has been taken in Ready (R74, R78, R79, R81, R100): pending under the capture hold, else the
target of the move, complete at once at the position; a search or probe is aborted. -/
def State.zoomRequested (s t : State) (x : Int) (speed : Nat) : Prop :=
  t.lens.zoom.pos = s.lens.zoom.pos ∧
    (s.hold = true → t.lens.zoom.pending = some { target := x, origin := .link, speed := speed } ∧
      t.lens.zoom.target = s.lens.zoom.target) ∧
    (s.hold = false → t.lens.zoom.target = some x ∧ t.lens.zoom.origin = .link ∧ t.lens.zoom.speed = speed ∧
      t.lens.zoom.inFlight = decide (s.lens.zoom.pos ≠ some x) ∧
      (s.lens.zoom.pos = some x → t.occurred .zoomReached)) ∧
    (s.af.state.searching = true → t.af.state = .idle ∧ t.af.result = .aborted)

/-- The positions of the level-one ring in their cyclic order (R147). -/
def RingPos.place : RingPos → Nat
  | .ingest => 0
  | .portA => 1
  | .portB => 2
  | .portC => 3
  | .group => 4

/-- The positions of the group ring in their cyclic order (R147). -/
def portPlace : Port → Nat
  | .a => 0
  | .b => 1
  | .c => 2

/-- A stream requests a grant (R145): bytes remain, 2 KiB of its FIFO are free, and no byte bound for its slot is in the buffer. -/
def State.streamWants (t : State) (p : Port) : Prop :=
  ∃ x, t.store.streams.get p = some x ∧ x.next < x.endOff ∧ (t.store.fifos.get p).length + 2048 ≤ 16384 ∧
    ∀ b ∈ t.store.buf, b.1 / 2 ^ 25 ≠ x.slot

/-- A position of the level-one ring is present and requests (R145, R147). -/
def State.ringWants (t : State) : RingPos → Prop
  | .ingest => 2048 ≤ t.store.buf.length ∨ 0 < t.store.remnant
  | .portA => t.promoted .a = true ∧ t.streamWants .a
  | .portB => t.promoted .b = true ∧ t.streamWants .b
  | .portC => t.promoted .c = true ∧ t.streamWants .c
  | .group => ∃ p, t.promoted p = false ∧ t.streamWants p

/-- The first requesting position of the level-one ring, going round from a pointer (R147). -/
def State.nextInRing (t : State) (pointer r : RingPos) : Prop :=
  t.ringWants r ∧ ∀ x, t.ringWants x → (r.place + 5 - pointer.place) % 5 ≤ (x.place + 5 - pointer.place) % 5

/-- The first requesting port of the group ring, going round from a pointer (R147). -/
def State.nextInGroup (t : State) (pointer p : Port) : Prop :=
  (t.promoted p = false ∧ t.streamWants p) ∧ ∀ q, t.promoted q = false → t.streamWants q →
    (portPlace p + 3 - portPlace pointer) % 3 ≤ (portPlace q + 3 - portPlace pointer) % 3

/-- A port's stream has been granted (R145): up to 2 KiB of what remains, for 160 ns. -/
def State.streamGranted (t : State) (p : Port) : Prop :=
  ∀ x, t.store.streams.get p = some x → t.store.grant =
    some { who := .stream p, bytes := min 2048 (x.endOff - x.next), endAt := t.clock + 16, discard := false }

/-- A choice of the arbiter below the first two tiers (R146, R147): the level-one ring from its pointer, for Group the group ring from
its own, each pointer moving past the position granted; with no request in the rings, an idle refresh where one is owed, and the
pointers stay. -/
def State.ringGranted (s t : State) : Prop :=
  (∀ r, t.nextInRing s.store.ring1 r → t.store.ring1.place = (r.place + 1) % 5 ∧
    (r = .ingest → t.store.ring2 = s.store.ring2 ∧ t.store.grant =
      some { who := .ingest, bytes := min 2048 t.store.buf.length, endAt := t.clock + 16, discard := false }) ∧
    (∀ x ∈ [(RingPos.portA, Port.a), (.portB, .b), (.portC, .c)], r = x.1 →
      t.store.ring2 = s.store.ring2 ∧ t.streamGranted x.2) ∧
    (r = .group → ∀ p, t.nextInGroup s.store.ring2 p → portPlace t.store.ring2 = (portPlace p + 1) % 3 ∧ t.streamGranted p)) ∧
  ((∀ r, ¬ t.ringWants r) → t.store.ring1 = s.store.ring1 ∧ t.store.ring2 = s.store.ring2 ∧
    (0 < t.store.backlog → t.store.grant =
      some { who := .refresh, bytes := 0, endAt := t.clock + 35, discard := false }) ∧
    (t.store.backlog = 0 → t.store.grant = none))

/-- A stream has opened on a port (R149 to R151): its record, an empty FIFO, its slot's entry; the other slots and streams stay, and
the store is Ready, its refresh owed anew if it was in SelfRefresh (R141). -/
def State.streamOpened (s t : State) (p : Port) (x : Stream) (entry : Slot) : Prop :=
  t.store.state = .ready ∧ t.store.streams.get p = some x ∧ t.store.fifos.get p = [] ∧ t.store.slotAt x.slot = entry ∧
    (∀ i, i ≠ x.slot → t.store.slotAt i = s.store.slotAt i) ∧
    (∀ q, q ≠ p → t.store.streams.get q = s.store.streams.get q ∧ t.store.fifos.get q = s.store.fifos.get q) ∧
    t.store.ends = s.store.ends ∧ t.store.cut = s.store.cut ∧ Part.events.same s t ∧
    (s.store.state = .selfRefresh → t.store.backlog = 3 ∧ t.store.urgent = true ∧ t.store.wake = some (t.clock + us 1) ∧
      t.store.trickle = some (t.clock + 10 * s.settingNat ixRefreshPeriod))

/-- A port's stream has been closed with a reason (R149, R152, R153, R155): its record, its FIFO, its last end; a drain's slot takes
a state and has no drain port, a review's pin is dropped; the other slots and ports stay. -/
def State.streamClosed (s t : State) (p : Port) (x : Stream) (reason : EndReason) (drained : SlotState) : Prop :=
  t.store.streams.get p = none ∧ t.store.fifos.get p = [] ∧
    t.store.ends.get p = some { slot := x.slot, kind := x.kind, reason := reason } ∧
    (∀ q, q ≠ p → t.store.streams.get q = s.store.streams.get q ∧ t.store.fifos.get q = s.store.fifos.get q ∧
      t.store.ends.get q = s.store.ends.get q) ∧
    (∀ i, i ≠ x.slot → t.store.slotAt i = s.store.slotAt i) ∧
    ∀ y, s.store.slots[x.slot]? = some y →
      (x.kind = .drain → t.store.slotAt x.slot = { y with state := drained, drainPort := none }) ∧
      (x.kind = .review →
        (y.state = .releasing → y.pins ≤ 1 → t.store.slotAt x.slot = Slot.freed) ∧
        (y.state ≠ .releasing ∨ 1 < y.pins → t.store.slotAt x.slot = { y with pins := y.pins - 1 }))

/-- The checks of a table image (R191, R192), by the fields of Table 11-8: the CRC, the knot count, Zwide, the park position, and
each knot's Amin, Tlimit, inf and near. -/
def imagePasses (image : List Byte) : Prop :=
  (crcOf (image.take 406)).toNat = field image 406 2 ∧ field image 2 2 = 33 ∧
    (64 ≤ field image 6 2 ∧ field image 6 2 ≤ 1024) ∧ field image 8 2 ≤ 1023 ∧
    ∀ k, k < 33 →
      (32 ≤ field image (10 + 12 * k) 2 ∧ field image (10 + 12 * k) 2 ≤ 128) ∧
      (80 ≤ field image (12 + 12 * k) 2 ∧ field image (12 + 12 * k) 2 ≤ 320) ∧
      field image (16 + 12 * k) 2 ≤ 1023 ∧ field image (14 + 12 * k) 2 ≤ field image (16 + 12 * k) 2

/-- Commands taken one after the other. -/
def runAll : List Instr → State → Host.Outcome State Fault Refusal
  | [], s => .next s
  | c :: rest, s =>
    match exec c s with
    | .next t => runAll rest t
    | .fault f => .fault f
    | .refused r => .refused r

end Sys2Proof.Machine
end

