-- ==== Sys2Proof/Certificates/Slice0/Obligations.lean ====
section
/-! DEFINITION. The statements for the provers: what the rules of spec/ say that each command does, and what every step keeps. -/

open Sys2Proof Sys2Proof.Machine

/-! ### Power-on and steps -/

/-- R27, R42, R66, R88, R109, R134, R159, R173, R188, R189: the values the power-on rules give. The clock starts at 0 (R1).
Log 28: the waiting commands stay and the power-on is counted, the model's choice. -/
def Obligations.PowerOnResetSetsPowerOnValues : Prop :=
  ∀ s : State, completes (exec .powerOnReset s) (fun t =>
    t.pending = s.pending ∧ t.epoch = s.epoch + 1 ∧ t.timeBase = 0 ∧
    t.settings = [16667, 33333, 30, 120, 1500, 80, 0, 0, 2200, 12000, 5184, 3888, 0, 4000, 48, 32, 32, 32, 32, 0,
      0, 176, 0, 0, 0, 640, 2, 2, 1, 8, 80, 96, 0, 0, 0, 4, 24, 4, 48, 40,
      1, 0, 11, 1200, 2560, 200, 25, 64, 4000, 10, 78, 20, 1, 1, 1, 1, 20] ∧
    (t.fc.state = .idle ∧ t.fc.cadence = .liveFast ∧ t.fc.fseq = 0 ∧ t.fc.capNo = 0 ∧ t.fc.burstCount = 0 ∧
      t.fc.owed = 0 ∧ t.fc.continuous = false ∧ t.prepareHeld = false ∧ t.fc.quiet1 = none ∧ t.fc.quiet2 = none ∧
      t.fc.tlive = 220 ∧ t.fc.inEffect = { t := 160, g := 0, kind := .live, gmax := 80 }) ∧
    (t.st.last = none ∧ t.st.fip = none ∧ t.st.focusStamp = none ∧ t.st.active = Bank.cleared ∧
      t.st.completed = Bank.cleared ∧ t.st.patterns = defaultPatterns) ∧
    (t.ep.qraw = 120 ∧ t.ep.qreq = 120 ∧ t.ep.offset = 0 ∧ t.ep.lastMetered = none ∧ t.ep.fastStart = true ∧
      t.ep.lock = .none ∧ t.ep.penalty = false ∧ t.ep.capPlan.formed = false ∧ t.ep.livePlan.formed = false) ∧
    (t.lens.state = .homing ∧ t.lens.cause = .none ∧ t.lens.zoom.pos = none ∧ t.lens.focus.pos = none ∧
      t.lens.iris.pos = none ∧ t.lens.zoom.target = none ∧ t.lens.focus.target = none ∧ t.lens.iris.target = none ∧
      t.moving = false ∧ t.lens.d = none ∧ t.lens.pmax = 0 ∧ t.lens.slip = none ∧
      t.lens.slips = 0 ∧ t.lens.iv = knotAt defaultTable 0) ∧
    (t.af.state = .idle ∧ t.af.result = .none ∧ t.af.log = [] ∧ t.af.wrapped = false ∧ t.af.peak = none ∧
      t.af.best = none ∧ t.af.origin = .command ∧ t.af.low = 0 ∧ t.af.flock = 0) ∧
    (t.stab.state = .off ∧ t.stab.cause = .none ∧ t.stab.biasX = 0 ∧ t.stab.biasY = 0 ∧ t.stab.cal.status = .none ∧
      t.stab.x = ShiftAxis.zero ∧ t.stab.y = ShiftAxis.zero ∧ t.stab.backlog = 0 ∧ t.stab.urgent = false ∧
      t.stab.grade = none ∧ t.stab.resFlag = false ∧ t.stab.missed = 0 ∧ t.stab.rep1 = 0 ∧ t.stab.rep2 = 0 ∧
      t.stab.rx = 0 ∧ t.stab.ry = 0 ∧ t.stab.last = none ∧ t.stab.gain = 300 ∧ t.stab.gyro = some (us 500)) ∧
    (t.store.state = .initialising ∧ t.store.backlog = 0 ∧ t.store.urgent = false ∧ t.store.trickle = none ∧
      t.store.buf = [] ∧ t.store.slots = List.replicate 32 Slot.freed ∧ t.store.fifos = PerPort.all [] ∧
      t.store.ring1 = .ingest ∧ t.store.ring2 = .a ∧ t.store.streams = PerPort.all none ∧ t.store.cut = PerPort.all false ∧ t.store.ends = PerPort.all none) ∧
    (t.rq.queue = [] ∧ t.rq.opened = none ∧ t.rq.stale = none) ∧
    (t.links.txn = PerPort.all .deselected ∧ t.links.pend = PerPort.all 0 ∧ t.links.mask = PerPort.all 0 ∧
      t.links.occ = 0 ∧ t.links.line = PerPort.all false) ∧
    t.loader.table = defaultTable ∧ t.loader.source = .none ∧ t.loader.loading = some 26368 ∧ t.loader.result = .none)

/-- R177: a command is taken whole, one after the other; the model's queue gives the order (INVENTORY.md, Agents). -/
def Obligations.StepTakesTheFrontCommand : Prop :=
  ∀ (c : Instr) (s : State), step { s with pending := c :: s.pending } = exec c s

/-- Log 1: on an empty queue, with no timed event due, 10 ns pass and nothing else changes; with one due, it is put into the
queue. Log 11, R113: with none due, a gyro request whose moment has come and that has not gone out goes out first. -/
def Obligations.IdleStepCountsTimeOrQueuesDueEvent : Prop :=
  ∀ s : State, s.pending = [] → completes (step s) (fun t =>
    (s.dueCommands = [] → s.requestDue = false → t = { s with clock := s.clock + 1, outs := [] }) ∧
    (s.dueCommands = [] → s.requestDue = true →
      t = { s with stab := { s.stab with asked := true }, outs := [.gyroRequest] }) ∧
    (s.dueCommands ≠ [] → t.clock = s.clock ∧ t.stab = s.stab ∧ ∃ c ∈ s.dueCommands, t.pending = [c]) ∧
    ∀ x : Part, x ≠ .clock → x ≠ .choices → x ≠ .stabilizer → x.same s t)

/-- R176 and Chapter 5 of 00_scope: the part answers every request and acts on or ignores every event; a command leaves the
commands behind it waiting, and only power-on counts a power-on. Log 28: that power-on leaves the waiting commands and is counted is
the model's choice. -/
def Obligations.EveryCommandCompletes : Prop :=
  (∀ (c : Instr) (s : State), completes (exec c s) (fun t =>
    t.pending = s.pending ∧ (c ≠ .powerOnReset → t.epoch = s.epoch ∧ s.clock ≤ t.clock))) ∧
  ∀ s : State, completes (step s) (fun _ => True)

/-! ### Link Ports -/

/-- R174, R175: select falling opens a transaction, and select rising ends it in any state, the effects of a request taken
before it standing. While the reply is prepared the part sends filler; once ready, a byte time sends the next reply byte, and
after the last one the port is in Finished and sends filler. Log 21: outputs are those of the step. Log 5: when a reply is
ready and ends. -/
def Obligations.TransactionsFollowSelectAndByteTimes : Prop :=
  (∀ (s : State) (p : Port),
     (s.links.txn.get p = .deselected →
       completes (exec (.transactionStart p) s) (fun t =>
         t.links.txn.get p = .command ∧ onlyChanged [.transaction p] s t)) ∧
     completes (exec (.transactionEnd p) s) (fun t =>
       t.links.txn.get p = .deselected ∧ onlyChanged [.transaction p] s t)) ∧
  (∀ (s : State) (p : Port) (r : Reply) (din : Byte),
     (∀ due, s.links.txn.get p = .preparing r due →
       completes (exec (.linkByteEnd p din) s) (fun t => t.outs = [.dataOut p 0x00#8] ∧ onlyChanged [] s t) ∧
       completes (exec (.replyReady p) s) (fun t =>
         t.links.txn.get p = .reply r 0 ∧ onlyChanged [.transaction p] s t)) ∧
     (∀ sent, s.links.txn.get p = .reply r sent → sent + 1 < r.bytes.length →
       completes (exec (.linkByteEnd p din) s) (fun t =>
         t.outs = [.dataOut p (r.bytes.getD sent 0)] ∧ t.links.txn.get p = .reply r (sent + 1) ∧
         onlyChanged [.transaction p] s t)) ∧
     (∀ sent, s.links.txn.get p = .reply r sent → sent + 1 = r.bytes.length →
       completes (exec (.linkByteEnd p din) s) (fun t =>
         t.outs = [.dataOut p (r.bytes.getD sent 0)] ∧ t.links.txn.get p = .finished ∧
         onlyChanged [.transaction p, .records] s t ∧ (r.takes = none → t.rq = s.rq))) ∧
     (s.links.txn.get p = .finished →
       completes (exec (.linkByteEnd p din) s) (fun t => t.outs = [.dataOut p 0x00#8] ∧ onlyChanged [] s t)))

/-- R174: a request is taken when its last payload byte has arrived, or its length byte when the length is 0 or above 250; the
bytes before it change the port's transaction alone, and the part sends filler. Log 35: above 250 the command is handed that many
zero bytes, by inference. -/
def Obligations.RequestIsTakenAtItsLastByte : Prop :=
  ∀ (s : State) (p : Port) (number : Byte) (payload : List Byte), s.links.txn.get p = .command →
    (1 ≤ payload.length → payload.length ≤ 250 →
      ∃ u, onlyChanged [.transaction p] s u ∧
        runAll ((number :: BitVec.ofNat 8 payload.length :: payload).map (.linkByteEnd p)) s =
          withDataOut p 0x00#8 (exec (requestOf p number payload) u)) ∧
    (payload.length = 0 ∨ 250 < payload.length ∧ payload.length ≤ 255 →
      ∃ u, onlyChanged [.transaction p] s u ∧
        runAll [.linkByteEnd p number, .linkByteEnd p (BitVec.ofNat 8 payload.length)] s =
          withDataOut p 0x00#8 (exec (requestOf p number (List.replicate payload.length 0)) u))

/-- R167, R170: the end of a TAKE RECORD reply removes the record the reply carried, if it is still queued, and the stale
timer starts afresh or is stopped; any other reply's end removes nothing. The stale timer's expiry raises QUEUE_STALE and
leaves it stopped. Log 2: the clock moves to the event's moment. Log 5: when a reply ends. -/
def Obligations.TakesAndStaleTimerMoveTheQueue : Prop :=
  (∀ (s : State) (p : Port) (r : Reply) (sent : Nat), s.links.txn.get p = .reply r sent →
     completes (exec (.replyEnd p) s) (fun t =>
       t.links.txn.get p = .finished ∧ onlyChanged [.transaction p, .records] s t ∧ t.rq.opened = s.rq.opened ∧
       (r.takes = none → t.rq = s.rq) ∧
       ∀ n, r.takes = some n →
         ((∀ x ∈ s.rq.queue, x.capNo ≠ n) → t.rq = s.rq) ∧
         t.rq.queue = s.rq.queue.filter (fun x => x.capNo ≠ n) ∧
         ((∃ x ∈ s.rq.queue, x.capNo = n) →
           t.rq.stale = if 0 < t.rq.queue.length ∧ t.rq.queue.length < s.settingNat 56
             then some (s.clock + ms (10 * s.settingNat 57)) else none))) ∧
  (∀ (s : State) (d : Nat), s.rq.stale = some d →
     completes (exec .staleTimerExpiry s) (fun t =>
       t.clock = max s.clock d ∧ t.rq = { s.rq with stale := none } ∧ t.occurred .queueStale ∧ (∀ q, t.pends q .queueStale) ∧
       onlyChanged [.clock, .records, .events] s t))

/-- R176, R6: an unknown command number is refused with BAD_COMMAND, and a payload length that Formats does not give with BAD_LENGTH;
nothing changes, but a refused request of an activity command is still activity, which takes the cadence to LIVE-FAST; in LIVE-FAST that
moves the quiet timers alone, and no request so refused moves zoom or focus or changes the lens state, the shots or the prepare flags. Log
32: that BAD_LENGTH counts as activity, by inference. Log 21: outputs are those of the step. Log 49: a span of Frame Control ends exactly
its length after its start, the model's choice. -/
def Obligations.UnknownCommandsAndWrongLengthsAreRefused : Prop :=
  (∀ (s : State) (p : Port) (number : Byte),
     answers (.badCommandRequest p number) s p .badCommand [] [] (fun t => t.outs = [])) ∧
  (∀ r ∈ requestRows, ∀ (s : State) (p : Port) (payload : List Byte), r.lengthOk payload.length = false →
     completes (exec (r.build p payload) s) (fun t =>
       t.replies p .badLength [] ∧ (r.active = false → onlyChanged [.transaction p] s t) ∧
       (r.active = true →
         onlyChanged [.transaction p, .frames, .statistics, .planner, .lens, .stabilizer, .store, .records, .choices] s t ∧
         s.tookActivity t ∧ t.fc.owed = s.fc.owed ∧ t.fc.continuous = s.fc.continuous ∧ t.fc.prepare = s.fc.prepare ∧
         t.rq.queue = s.rq.queue ∧ t.lens.state = s.lens.state ∧ t.lens.zoom = s.lens.zoom ∧
         t.lens.focus = s.lens.focus ∧ t.lens.d = s.lens.d ∧
         (s.fc.cadence = .liveFast →
           t.fc = { s.fc with quiet1 := t.fc.quiet1, quiet2 := none } ∧ onlyChanged [.transaction p, .frames] s t))))

/-! ### Reading commands -/

/-- R180: GET STATE replies OK in every state with the fields of Table 11-7, and changes nothing else; it is not activity.
Log 21: outputs are those of the step. -/
def Obligations.GetStateReportsTheState : Prop :=
  ∀ (s : State) (p : Port), ∃ body, body.length = 34 ∧
    answers (.getState p []) s p .ok body [] (fun t => t.outs = []) ∧
    carries body [(0, 4, s.timeBase.toNat), (4, 4, s.fc.fseq.toNat), (8, 4, s.fc.capNo.toNat), (12, 1, s.fc.burstCount),
      (13, 1, s.fc.cadence.code), (14, 1, s.fc.state.code),
      (15, 1, flagValue 0 (!s.burstRunning) + flagValue 1 (s.lens.state ≠ .ready) + flagValue 2 s.moving +
        flagValue 3 (s.freeSlots = 0) + flagValue 4 (s.store.state ≠ .ready) + flagValue 5 s.stab.urgent +
        flagValue 6 (s.stab.state = .calibrating) +
        flagValue 7 (s.shotPriority = .focus && (s.af.state = .coarse || s.af.state = .fine || s.af.state = .probe))),
      (16, 1, flagValue 0 s.fc.prepare.a + flagValue 1 s.fc.prepare.b + flagValue 2 s.fc.prepare.c),
      (17, 1, s.fc.owed), (18, 1, flagValue 0 s.fc.continuous), (19, 1, s.lens.state.code), (20, 1, s.af.state.code),
      (21, 1, s.af.result.code), (22, 1, s.stab.state.code), (23, 1, flagValue 0 (s.stab.cause ≠ .none)),
      (24, 1, s.store.state.code), (25, 1, s.freeSlots), (26, 1, s.loader.source.code),
      (27, 1, flagValue 0 s.loader.loading.isSome), (28, 1, s.loader.result.code.1), (29, 1, s.loader.result.code.2),
      (30, 2, s.loader.table.ident), (32, 2, s.loader.table.revision)]

/-- R185: READ EVENTS returns the calling port's pending set and mask, the occurrence set and the two class flags, and
changes no set. Log 21: outputs are those of the step. -/
def Obligations.ReadEventsReportsTheSets : Prop :=
  ∀ (s : State) (p : Port), ∃ body, body.length = 13 ∧
    answers (.readEvents p []) s p .ok body [] (fun t => t.outs = []) ∧
    carries body [(0, 4, (s.links.pend.get p).toNat), (4, 4, (s.links.mask.get p).toNat), (8, 4, s.links.occ.toNat),
      (12, 1, flagValue 0 (decide (2 ^ 14 ≤ (s.links.pend.get p).toNat)) +
        flagValue 1 (decide ((s.links.pend.get p).toNat % 2 ^ 14 ≠ 0)))]

/-- R64, R132, Table 11-7: GET PLAN and GET STAB STATE reply OK in every state with the planner's and the Stabilizer's state,
and change nothing. Log 21: outputs are those of the step. -/
def Obligations.PlanAndStabilizerAreReported : Prop :=
  ∀ (s : State) (p : Port),
    (∃ body, body.length = 59 ∧ answers (.getPlan p []) s p .ok body [] (fun t => t.outs = []) ∧
      carries body [(0, 1, flagValue 0 s.ep.capPlan.formed), (1, 2, signedValue 2 s.ep.capPlan.t),
        (3, 1, signedValue 1 s.ep.capPlan.p), (4, 2, signedValue 2 s.ep.capPlan.a), (8, 2, signedValue 2 s.ep.capPlan.g),
        (10, 2, signedValue 2 s.ep.capPlan.q), (20, 1, flagValue 0 s.ep.livePlan.formed),
        (21, 2, signedValue 2 s.ep.livePlan.t), (28, 2, signedValue 2 s.ep.livePlan.g), (40, 2, signedValue 2 s.ep.qraw),
        (42, 2, signedValue 2 s.ep.qreq), (44, 2, signedValue 2 s.ep.offset),
        (46, 4, (s.ep.lastMetered.map BitVec.toNat).getD 0), (50, 1, s.ep.lock.code),
        (51, 1, flagValue 0 s.ep.fastStart + flagValue 1 s.ep.penalty + flagValue 2 s.creditCondition),
        (56, 2, signedValue 2 s.fc.tlive), (58, 1, signedValue 1 s.ep.pmax)]) ∧
    (∃ body, body.length = 81 ∧ answers (.getStabState p []) s p .ok body [] (fun t => t.outs = []) ∧
      carries body [(0, 1, s.stab.state.code), (1, 1, s.stabMode.code), (2, 1, s.stab.cause.code),
        (3, 4, signedValue 4 s.stab.biasX), (7, 4, signedValue 4 s.stab.biasY), (11, 1, s.stab.cal.status.code),
        (16, 2, s.stab.cal.count), (18, 4, signedValue 4 s.stab.cal.sumX), (34, 4, signedValue 4 s.stab.x.theta),
        (42, 2, signedValue 2 s.stab.x.target), (48, 1, flagValue 0 s.stab.x.pan), (53, 4, signedValue 4 s.stab.y.theta),
        (61, 2, signedValue 2 s.stab.y.target), (72, 1, s.stab.backlog), (74, 2, s.stab.rx), (76, 2, s.stab.ry),
        (78, 1, s.stab.grade.getD 0), (79, 2, signedValue 2 s.stab.gain)])

/-- R86, R107, R198: GET LENS STATE and READ SWEEP LOG report Lens Drive and Focus Search and change nothing; an Unknown position is sent
as 65,535; the sweep log's reply carries each of up to 24 entries from the first index on, nine bytes each; a first index above 63 is
refused. Log 21: outputs are those of the step. -/
def Obligations.LensAndSweepLogAreReported : Prop :=
  ∀ (s : State) (p : Port),
    (∃ body, body.length = 53 ∧ answers (.getLensState p []) s p .ok body [] (fun t => t.outs = []) ∧
      carries body [(0, 1, s.lens.state.code), (1, 1, s.lens.cause.code),
        (2, 1, flagValue 0 s.lens.d.isSome + flagValue 1 s.lens.slip.isSome),
        (7, 1, flagValue 0 s.lens.zoom.inFlight + flagValue 1 s.lens.zoom.pending.isSome), (8, 1, s.lens.zoom.origin.code),
        (12, 1, s.lens.zoom.speed), (18, 1, flagValue 0 s.lens.focus.inFlight + flagValue 1 s.lens.focus.pending.isSome),
        (27, 1, flagValue 0 s.lens.iris.inFlight + flagValue 1 s.lens.iris.pending.isSome),
        (32, 1, signedValue 1 (s.lens.d.getD 0)), (33, 2, signedValue 2 s.lens.iv.amin),
        (35, 2, signedValue 2 s.lens.iv.tlimit), (41, 2, signedValue 2 s.lens.iv.gain), (45, 1, signedValue 1 s.lens.pmax),
        (46, 2, signedValue 2 s.loader.table.zwide), (50, 2, signedValue 2 (s.lens.slip.getD 0)), (52, 1, s.lens.slips)] ∧
      (s.lens.zoom.pos = none → field body 3 2 = 65535) ∧
      ∀ v : Nat, s.lens.focus.pos = some (v : Int) → v < 65536 → field body 14 2 = v) ∧
    (∀ first : Byte, first.toNat ≤ 63 →
      ∃ body, body.length = 18 + 9 * min 24 (s.af.log.length - first.toNat) ∧
        answers (.readSweepLog p [first]) s p .ok body [] (fun t => t.outs = []) ∧
        carries body [(0, 1, s.af.state.code), (1, 1, s.af.result.code), (2, 1, s.af.origin.code), (4, 1, s.af.log.length),
          (5, 1, flagValue 0 s.af.wrapped + flagValue 1 s.af.peak.isSome + flagValue 2 s.af.best.isSome),
          (6, 2, s.af.flock), (8, 2, (s.af.peak.map Peak.f).getD 0), (10, 2, signedValue 2 ((s.af.peak.map Peak.pos).getD 0)),
          (12, 2, (s.af.best.map Peak.f).getD 0), (14, 2, signedValue 2 ((s.af.best.map Peak.pos).getD 0)),
          (16, 1, first.toNat), (17, 1, min 24 (s.af.log.length - first.toNat))] ∧
        ∀ k, k < 24 → ∀ e, s.af.log[first.toNat + k]? = some e →
          carries body [(18 + 9 * k, 2, signedValue 2 e.pos), (20 + 9 * k, 2, e.f), (22 + 9 * k, 4, e.seq.toNat),
            (26 + 9 * k, 1, e.phase.code)]) ∧
    ∀ first : Byte, 63 < first.toNat →
      answers (.readSweepLog p [first]) s p .badArgument [] [] (fun t => t.outs = [])

/-- R40: READ STATISTICS returns the Last Statistics record in part Summary, and up to 12 of its zones in part Zones, each in its 16
bytes, stopping at zone 34, with the zones zero where there is no record; another part, or a first zone above 34, is refused. The premise,
that a record holds nine feature counts and 35 zones, is kept by every step (EveryStepKeepsCountsAndBanks). Log 21: outputs are those of
the step. -/
def Obligations.StatisticsAreReported : Prop :=
  ∀ (s : State) (p : Port) (part first : Byte), (∀ r, s.st.last = some r → r.bank.shaped) →
    (part.toNat = 0 → ∃ body, body.length = 50 ∧
      answers (.readStatistics p [part, first]) s p .ok body [] (fun t => t.outs = []) ∧
      (s.st.last = none → body = List.replicate 50 0) ∧
      ∀ r, s.st.last = some r → carries body [(0, 1, 0), (1, 1, 1), (2, 4, r.seq.toNat), (6, 1, r.kind.code),
        (7, 2, signedValue 2 r.t), (9, 2, signedValue 2 r.a), (11, 2, signedValue 2 r.g), (13, 2, signedValue 2 r.q),
        (15, 1, flagValue 0 r.flags.incomplete + flagValue 1 r.flags.settingsLate + flagValue 2 r.flags.irisMoved +
          flagValue 3 r.flags.focusMoved + flagValue 4 r.flags.zoomMoved + flagValue 5 r.flags.recentered +
          flagValue 6 r.flags.capture),
        (16, 1, flagValue 0 r.aeEligible + flagValue 1 r.afEligible), (17, 4, r.stamp.toNat), (21, 2, r.m),
        (23, 1, r.pattern), (24, 4, r.h), (28, 4, r.n)] ∧ ∀ j, j < 9 → carries body [(32 + 2 * j, 2, r.bank.feats.getD j 0)]) ∧
    (part.toNat = 1 → first.toNat ≤ 34 → ∃ body, body.length = 8 + 16 * min 12 (35 - first.toNat) ∧
      answers (.readStatistics p [part, first]) s p .ok body [] (fun t => t.outs = []) ∧
      carries body [(0, 1, 1), (1, 1, flagValue 0 s.st.last.isSome), (6, 1, first.toNat),
        (7, 1, min 12 (35 - first.toNat))] ∧
      (s.st.last = none → field body 2 4 = 0 ∧ ∀ k, k < min 12 (35 - first.toNat) → field body (8 + 16 * k) 16 = 0) ∧
      ∀ r, s.st.last = some r → carries body [(2, 4, r.seq.toNat)] ∧
        ∀ k, k < 12 → ∀ z, r.bank.zones[first.toNat + k]? = some z → carries body [(8 + 16 * k, 4, z.sum),
          (12 + 16 * k, 4, z.count), (16 + 16 * k, 2, z.min), (18 + 16 * k, 2, z.max), (20 + 16 * k, 4, z.high)]) ∧
    (1 < part.toNat ∨ part.toNat = 1 ∧ 34 < first.toNat →
      answers (.readStatistics p [part, first]) s p .badArgument [] [] (fun t => t.outs = []))

/-- R157: GET STORE STATE and READ SLOTS report the store's state, with the stream and the last end of each port in its 18 bytes, and each
of up to 16 slot entries from a slot on, 13 bytes each; a first slot above 31 is refused; nothing changes. Log 21: outputs are those of
the step. -/
def Obligations.StoreAndSlotsAreReported : Prop :=
  ∀ (s : State) (p : Port),
    (∃ body, body.length = 66 ∧ answers (.getStoreState p []) s p .ok body [] (fun t => t.outs = []) ∧
      carries body [(0, 1, s.store.state.code), (1, 1, s.store.backlog), (2, 1, flagValue 0 s.store.urgent),
        (3, 1, s.freeSlots), (4, 1, (s.store.firstSlot .filling).getD 255), (5, 4, s.store.buf.length),
        (9, 1, flagValue 0 (0 < s.store.remnant)), (10, 1, s.store.ring1.code), (11, 1, portCode s.store.ring2)] ∧
      ∀ y ∈ [(Port.a, 12), (.b, 30), (.c, 48)],
        carries body [(y.2, 1, flagValue 0 (!s.promoted y.1)), (y.2 + 1, 1, flagValue 0 (s.store.cut.get y.1)),
          (y.2 + 12, 2, (s.store.fifos.get y.1).length)] ∧
        (s.store.streams.get y.1 = none → field body (y.2 + 2) 10 = 0) ∧
        (∀ x, s.store.streams.get y.1 = some x → carries body [(y.2 + 2, 1, x.kind.code), (y.2 + 3, 1, x.slot),
          (y.2 + 4, 4, x.next), (y.2 + 8, 4, x.endOff)]) ∧
        (s.store.ends.get y.1 = none → field body (y.2 + 15) 3 = 0) ∧
        ∀ x, s.store.ends.get y.1 = some x →
          carries body [(y.2 + 15, 1, x.kind.code), (y.2 + 16, 1, x.slot), (y.2 + 17, 1, x.reason.code)]) ∧
    (∀ first : Byte, first.toNat ≤ 31 → ∃ body, body.length = 2 + 13 * min 16 (32 - first.toNat) ∧
      answers (.readSlots p [first]) s p .ok body [] (fun t => t.outs = []) ∧
      carries body [(0, 1, first.toNat), (1, 1, min 16 (32 - first.toNat))] ∧
      ∀ k, k < min 16 (32 - first.toNat) → ∀ x, s.store.slots[first.toNat + k]? = some x →
        carries body [(2 + 13 * k, 1, first.toNat + k), (3 + 13 * k, 1, x.state.code),
          (4 + 13 * k, 1, flagValue 0 x.capNo.isSome + flagValue 1 x.incomplete + flagValue 2 x.drainPort.isSome),
          (5 + 13 * k, 4, (x.capNo.map BitVec.toNat).getD 0), (9 + 13 * k, 4, x.bytes), (13 + 13 * k, 1, x.pins),
          (14 + 13 * k, 1, (x.drainPort.map portCode).getD 0)]) ∧
    ∀ first : Byte, 31 < first.toNat →
      answers (.readSlots p [first]) s p .badArgument [] [] (fun t => t.outs = [])

/-- R166, R171: TAKE RECORD's reply carries the queue count and the oldest record, or presence None with every field zero,
and QUEUE STATUS's the oldest, newest and open records; neither takes a record at its taking. Log 21: outputs are those of
the step. -/
def Obligations.QueueAndOldestRecordAreReported : Prop :=
  ∀ (s : State) (p : Port),
    (∃ body, body.length = 59 ∧
      completes (exec (.takeRecord p []) s) (fun t =>
        t.replies p .ok body (s.rq.queue.head?.map CaptureRecord.capNo) ∧ onlyChanged [.transaction p] s t ∧ t.outs = []) ∧
      carries body [(0, 1, s.rq.queue.length)] ∧ (s.rq.queue = [] → body = List.replicate 59 0) ∧
      ∀ r rest, s.rq.queue = r :: rest → carries body [(1, 1, 1), (3, 4, r.capNo.toNat), (7, 1, r.slot),
        (8, 1, r.burstIndex), (9, 1, r.mode.code), (10, 4, r.startPart.seq.toNat), (14, 4, r.startPart.stamp.toNat),
        (18, 2, signedValue 2 r.startPart.t), (20, 2, signedValue 2 r.startPart.a), (22, 2, signedValue 2 r.startPart.g),
        (24, 2, signedValue 2 r.startPart.q), (29, 2, signedValue 2 r.startPart.focal), (34, 1, r.startPart.afState.code),
        (36, 1, r.startPart.stabState.code), (37, 4, r.endPart.stamp.toNat), (46, 2, r.readPart.m), (48, 4, r.readPart.h),
        (52, 2, r.readPart.f), (54, 1, flagValue 0 r.readPart.timedOut + flagValue 1 r.readPart.incomplete),
        (55, 4, r.readPart.bytes)]) ∧
    ∃ body, body.length = 22 ∧ answers (.queueStatus p []) s p .ok body [] (fun t => t.outs = []) ∧
      carries body [(0, 1, s.rq.queue.length), (1, 1, s.settingNat 56), (2, 1, s.settingNat 57),
        (3, 1, flagValue 0 (s.rq.queue ≠ []) + flagValue 1 (s.rq.queue ≠ []) + flagValue 2 s.rq.stale.isSome +
          flagValue 3 s.rq.opened.isSome),
        (4, 4, (s.rq.queue.head?.map (fun r => r.capNo.toNat)).getD 0), (8, 1, (s.rq.queue.head?.map CaptureRecord.slot).getD 0),
        (9, 4, (s.rq.queue.getLast?.map (fun r => r.capNo.toNat)).getD 0),
        (13, 1, (s.rq.queue.getLast?.map CaptureRecord.slot).getD 0),
        (16, 4, (s.rq.opened.map (fun o => o.capNo.toNat)).getD 0), (20, 1, (s.rq.opened.map OpenRecord.slot).getD 0),
        (21, 1, (s.rq.opened.map (fun o => o.phase.code)).getD 0)]

/-! ### Events -/

/-- R186: ACK EVENTS removes the kinds of its set from the calling port's pending set and replies with what is left; a set that
names a position with no kind is refused; the other ports' sets and the occurrence set are not changed; the attention line is
brought up to date. -/
def Obligations.AckEventsRemovesKindsFromTheCallingPort : Prop :=
  ∀ (s : State) (p : Port) (payload : List Byte), payload.length = 4 →
    (2 ^ 20 ≤ field payload 0 4 → answers (.ackEvents p payload) s p .badArgument [] [] (fun _ => True)) ∧
    ∀ k : KindSet, field payload 0 4 = k.toNat → ∃ body, body.length = 4 ∧
      field body 0 4 = (s.links.pend.get p &&& ~~~k).toNat ∧
      answers (.ackEvents p payload) s p .ok body [.events] (fun t =>
        t.links.pend.get p = s.links.pend.get p &&& ~~~k ∧ (∀ q, q ≠ p → t.links.pend.get q = s.links.pend.get q) ∧
        t.links.mask = s.links.mask ∧ t.links.occ = s.links.occ ∧ t.linesFollow)

/-- R184: SET EVENT MASK replaces the calling port's mask, and each line is then active exactly while its port's pending set
and mask have a kind in common. -/
def Obligations.SetEventMaskReplacesTheCallingPortsMask : Prop :=
  ∀ (s : State) (p : Port) (payload : List Byte), payload.length = 4 →
    (2 ^ 20 ≤ field payload 0 4 → answers (.setEventMask p payload) s p .badArgument [] [] (fun _ => True)) ∧
    ∀ k : KindSet, field payload 0 4 = k.toNat →
      answers (.setEventMask p payload) s p .ok [] [.events] (fun t =>
        t.links.mask.get p = k ∧ (∀ q, q ≠ p → t.links.mask.get q = s.links.mask.get q) ∧ t.links.pend = s.links.pend ∧
        t.links.occ = s.links.occ ∧ (t.links.line.get p = true ↔ s.links.pend.get p &&& k ≠ 0) ∧ t.linesFollow)

/-- R187: CLEAR OCCURRENCES removes the kinds of its set from the occurrence set; pending sets, masks and lines stay. -/
def Obligations.ClearOccurrencesRemovesKindsFromTheSharedSet : Prop :=
  ∀ (s : State) (p : Port) (payload : List Byte), payload.length = 4 →
    (2 ^ 20 ≤ field payload 0 4 → answers (.clearOccurrences p payload) s p .badArgument [] [] (fun _ => True)) ∧
    ∀ k : KindSet, field payload 0 4 = k.toNat →
      answers (.clearOccurrences p payload) s p .ok [] [.events] (fun t =>
        t.links.occ = s.links.occ &&& ~~~k ∧ t.links.pend = s.links.pend ∧ t.links.mask = s.links.mask ∧
        (s.linesFollow → t.links.line = s.links.line))

/-! ### Settings -/

/-- R179: GET SETTINGS replies with the pairs from the first index on, as many as the count asks, stopping at 57; a first index
outside 1..57 or a count outside 1..50 is refused. -/
def Obligations.GetSettingsReturnsPairsUpTo57 : Prop :=
  ∀ (s : State) (p : Port) (first count : Byte),
    (first.toNat = 0 ∨ 57 < first.toNat ∨ count.toNat = 0 ∨ 50 < count.toNat →
      answers (.getSettings p [first, count]) s p .badArgument [] [] (fun _ => True)) ∧
    (1 ≤ first.toNat → first.toNat ≤ 57 → 1 ≤ count.toNat → count.toNat ≤ 50 →
      ∃ body, body.length = 5 * min count.toNat (58 - first.toNat) ∧
        answers (.getSettings p [first, count]) s p .ok body [] (fun _ => True) ∧
        ∀ j, j < min count.toNat (58 - first.toNat) →
          carries body [(5 * j, 1, first.toNat + j), (5 * j + 1, 4, signedValue 4 (s.setting (first.toNat + j)))])

/-- R178, R28: an index outside 1..57 or a value that is no code of an enumerated setting refuses the request whole.
Otherwise the last pair that names a setting stands, clamped or taken as the nearest legal value, and every setting not named
keeps its value (the left and top of the AF window apart: AfWindowStaysWithinTheFrame); the reply is ADJUSTED when a value
was changed so. The store, the event sets and the queue of records are not touched. Log 21: outputs are those of the step. -/
def Obligations.SetSettingsTakesTheLastPairs : Prop :=
  (∀ (s : State) (p : Port) (payload : List Byte), 5 ≤ payload.length → payload.length ≤ 250 → payload.length % 5 = 0 →
     (∃ x ∈ settingPairs payload, x.1 = 0 ∨ 57 < x.1 ∨ ∃ codes, rangeOf x.1 = .codes codes ∧ x.2 ∉ codes) →
     answers (.setSettings p payload) s p .badArgument [] [] (fun t => t.outs = [])) ∧
  (∀ (s : State) (p : Port) (payload : List Byte), 5 ≤ payload.length → payload.length ≤ 250 → payload.length % 5 = 0 →
      s.settings.length = 57 →
      (∀ x ∈ settingPairs payload, 1 ≤ x.1 ∧ x.1 ≤ 57 ∧ ∀ codes, rangeOf x.1 = .codes codes → x.2 ∈ codes) →
      ∃ st, answers (.setSettings p payload) s p st []
          [.settings, .frames, .statistics, .planner, .lens, .focus, .stabilizer, .records] (fun t =>
            t.settings.length = 57 ∧
            (∀ i, 1 ≤ i → i ≤ 57 → i ≠ ixAfLeft → i ≠ ixAfTop →
              t.setting i = ((lastPair (settingPairs payload) i).map (legalValue i)).getD (s.setting i)) ∧
            t.rq.queue = s.rq.queue ∧ t.rq.opened = s.rq.opened ∧ t.fc.cadence = s.fc.cadence ∧ t.fc.owed = s.fc.owed) ∧
        ((∀ x ∈ settingPairs payload, x.1 < ixAfLeft ∨ ixAfHeight < x.1) →
          st = if (settingPairs payload).all (fun x => decide (legalValue x.1 x.2 = x.2)) then .ok else .adjusted) ∧
        ((∃ x ∈ settingPairs payload, x.1 ≠ ixAfLeft ∧ x.1 ≠ ixAfTop ∧ legalValue x.1 x.2 ≠ x.2) → st = .adjusted))

/-- R32: a left or top is judged against the width or height as it stands, and a width or height lowers a left or top that no
longer fits, so that the AF window stays within the frame. -/
def Obligations.AfWindowStaysWithinTheFrame : Prop :=
  ∀ w ∈ [(ixAfLeft, ixAfWidth), (ixAfTop, ixAfHeight)], ∀ (s : State) (p : Port) (i a b c d : Byte) (v : Int),
    s.settings.length = 57 → signedField [a, b, c, d] 0 4 = v →
    (i.toNat = w.1 → s.setting w.2 ≤ 96 →
      answers (.setSettings p [i, a, b, c, d]) s p (if 0 ≤ v ∧ v + s.setting w.2 ≤ 96 then .ok else .adjusted) []
        [.settings, .frames, .statistics, .planner, .lens, .focus, .stabilizer, .records] (fun t =>
          t.setting w.1 = max 0 (min (96 - s.setting w.2) v) ∧ t.setting w.2 = s.setting w.2)) ∧
    (i.toNat = w.2 →
      answers (.setSettings p [i, a, b, c, d]) s p (if 3 ≤ v ∧ v ≤ 96 ∧ s.setting w.1 + v ≤ 96 then .ok else .adjusted) []
        [.settings, .frames, .statistics, .planner, .lens, .focus, .stabilizer, .records] (fun t =>
          t.setting w.2 = max 3 (min 96 v) ∧ t.setting w.1 = min (s.setting w.1) (96 - max 3 (min 96 v))))

/-- R178, R179: what GET SETTINGS returns, sent back in a SET SETTINGS, is answered OK and changes no setting. -/
def Obligations.SettingsReadBackAreSettingsWritten : Prop :=
  ∀ (s : State) (p q : Port) (first count : Byte), settingsLegal s.settings → 1 ≤ first.toNat → first.toNat ≤ 57 →
    1 ≤ count.toNat → count.toNat ≤ 50 →
    ∃ body, answers (.getSettings p [first, count]) s p .ok body [] (fun _ => True) ∧
      ∀ u : State, u.settings = s.settings →
        answers (.setSettings q body) u q .ok []
          [.settings, .frames, .statistics, .planner, .lens, .focus, .stabilizer, .records] (fun t => t.settings = s.settings)

/-! ### Frame Control -/

/-- R13, R49, R91, R100: PREPARE sets and UNPREPARE clears the calling port's flag, in every state; PREPARE is activity. When prepare held
begins, AE lock on prepare locks, and from Idle with the lens Ready a search of origin Prepare starts; when it ends, a lock from Prepare
is released and, in Single mode, a search of origin Prepare is aborted; else no other block acts. Log 33: the abort takes in a probe after
such a search, by inference. Log 49: a span of Frame Control ends exactly its length after its start, the model's choice. -/
def Obligations.PrepareFlagsFollowTheirRequests : Prop :=
  (∀ (s : State) (p : Port),
     answers (.prepare p []) s p .ok []
       [.frames, .statistics, .planner, .lens, .focus, .stabilizer, .store, .records, .choices] (fun t =>
         t.fc.prepare = s.fc.prepare.set p true ∧ t.fc.owed = s.fc.owed ∧ t.fc.continuous = s.fc.continuous ∧
         s.tookActivity t ∧ t.rq.queue = s.rq.queue ∧
         (s.fc.cadence = .liveFast →
           onlyChanged [.transaction p, .frames, .statistics, .planner, .lens, .focus, .stabilizer] s t ∧
           (s.prepareHeld = true → onlyChanged [.transaction p, .frames] s t)) ∧
         (s.prepareHeld = false →
           (s.settingOn ixAeLockOnPrepare = true → s.ep.lock = .none → t.ep.lock = .prepare) ∧
           (s.lens.state = .ready → s.af.state = .idle → t.af.state = .coarse ∧ t.af.origin = .prepare)))) ∧
  (∀ (s : State) (p : Port),
     answers (.unprepare p []) s p .ok [] [.frames, .statistics, .planner, .lens, .focus, .stabilizer] (fun t =>
       t.fc.prepare = s.fc.prepare.set p false ∧ t.fc.owed = s.fc.owed ∧ t.fc.continuous = s.fc.continuous ∧
       t.fc.cadence = s.fc.cadence ∧
       (s.prepareHeld = false ∨ t.prepareHeld = true → onlyChanged [.transaction p, .frames] s t) ∧
       (s.prepareHeld = true → t.prepareHeld = false →
         (s.ep.lock = .prepare → t.ep.lock = .none) ∧
         (s.af.state.searching = true → s.afContinuous = false → s.af.origin = .prepare →
           t.af.state = .idle ∧ t.af.result = .aborted))))

/-- R14, R15, R16, R129: with the lens Ready, SHOOT adds min(n, 32) shots to the counter, saturating at 255, or sets the continuous flag
for n = 0, and aborts a calibration; else it is refused with WRONG_STATE and counter and flag stay; it is activity either way. STOP BURST
sets the counter to 0 and clears the continuous flag in every state; a burst that ran ends: BURST_ENDED is raised, the burst count is 0
and the residual penalty is cleared. A capture in flight runs on. Log 49: a span of Frame Control ends exactly its length after its start,
the model's choice. -/
def Obligations.ShotsAreOwedAndCleared : Prop :=
  (∀ (s : State) (p : Port) (n : Byte),
     (s.lens.state ≠ .ready →
       answers (.shoot p [n]) s p .wrongState []
         [.frames, .statistics, .planner, .lens, .stabilizer, .store, .records, .choices] (fun t =>
           t.fc.owed = s.fc.owed ∧ t.fc.continuous = s.fc.continuous ∧ s.tookActivity t ∧
           (s.fc.cadence = .liveFast → onlyChanged [.transaction p, .frames] s t))) ∧
     (s.lens.state = .ready →
       answers (.shoot p [n]) s p
         (if 32 < n.toNat ∨ (n.toNat ≠ 0 ∧ 255 < s.fc.owed + min n.toNat 32) then .adjusted else .ok) []
         [.frames, .statistics, .planner, .lens, .focus, .stabilizer, .store, .records, .events, .choices] (fun t =>
           (n.toNat = 0 → t.fc.continuous = true ∧ t.fc.owed = s.fc.owed) ∧
           (n.toNat ≠ 0 → t.fc.owed = min 255 (s.fc.owed + min n.toNat 32) ∧ t.fc.continuous = s.fc.continuous) ∧
           s.tookActivity t ∧ t.fc.prepare = s.fc.prepare ∧ t.stab.state ≠ .calibrating ∧
           (s.stab.state = .calibrating → t.stab.cal.status = .aborted ∧ t.occurred .biasCalEnded) ∧
           (s.fc.cadence = .liveFast → t.fc.cap = s.fc.cap ∧ t.fc.state = s.fc.state ∧ t.store = s.store ∧ t.rq = s.rq)))) ∧
  (∀ (s : State) (p : Port),
     answers (.stopBurst p []) s p .ok [] [.frames, .statistics, .planner, .lens, .focus, .events] (fun t =>
       t.fc = { s.fc with
         owed := 0, continuous := false, burstCount := if s.burstRunning then 0 else s.fc.burstCount,
         quiet1 := t.fc.quiet1, quiet2 := t.fc.quiet2 } ∧
       (s.burstRunning = true → t.ep.penalty = false ∧ t.occurred .burstEnded ∧ ∀ q, t.pends q .burstEnded) ∧
       (s.burstRunning = false → onlyChanged [.transaction p, .frames] s t)))

/-- R181, R6: NUDGE replies OK in every state, and its only effect is that it is activity; in LIVE-FAST that moves the quiet timers alone.
Log 49: a span of Frame Control ends exactly its length after its start, the model's choice. -/
def Obligations.NudgeIsActivityAlone : Prop :=
  ∀ (s : State) (p : Port),
    answers (.nudge p []) s p .ok [] [.frames, .statistics, .planner, .lens, .stabilizer, .store, .records, .choices] (fun t =>
      s.tookActivity t ∧ t.fc.owed = s.fc.owed ∧ t.fc.continuous = s.fc.continuous ∧ t.fc.prepare = s.fc.prepare ∧
      (s.fc.cadence = .liveFast →
        t.fc = { s.fc with quiet1 := t.fc.quiet1, quiet2 := none } ∧ onlyChanged [.transaction p, .frames] s t))

/-- R5, R7: quiet timer 1 takes the cadence from LIVE-FAST to LIVE-SLOW and starts quiet timer 2; quiet timer 2 takes it from LIVE-SLOW to
STILL, where no live frame is left to come, Focus Search is Idle and the gyro is not sampled. Log 2: the clock moves to the event's
moment. Log 49: a span of Frame Control ends exactly its length after its start, the model's choice. -/
def Obligations.QuietTimersStepTheCadenceDown : Prop :=
  ∀ (s : State) (d : Nat),
    (s.fc.quiet1 = some d → s.fc.cadence = .liveFast →
      completes (exec .quietTimer1Expiry s) (fun t =>
        t.fc.cadence = .liveSlow ∧ t.fc.quiet1 = none ∧ t.clock = max s.clock d ∧
        t.fc.quiet2 = some (t.clock + sec (s.settingNat ixQuietTime2)) ∧ t.fc.state = s.fc.state ∧
        onlyChanged [.clock, .frames, .planner, .statistics, .lens] s t)) ∧
    (s.fc.quiet2 = some d → s.fc.cadence = .liveSlow →
      completes (exec .quietTimer2Expiry s) (fun t =>
        t.fc.cadence = .still ∧ t.fc.quiet2 = none ∧ t.clock = max s.clock d ∧ t.fc.tlive = s.fc.tlive ∧
        (s.fc.state = .live → t.fc.next = .none ∧ (s.fc.frame = none → t.fc.state = .idle)) ∧
        t.fc.frame = s.fc.frame ∧ t.af.state = .idle ∧ t.stab.gyro = none ∧ t.stab.state ≠ .active ∧
        t.stab.state ≠ .calibrating ∧ onlyChanged
          [.clock, .frames, .statistics, .planner, .lens, .focus, .stabilizer, .store, .events] s t))

/-- R9, R61: at its moment, one frame period less the lead after its predecessor's start, a live frame's settings transfer begins, with
the live plan latched: T corrected by the iris, within 80 and Tlive. Log 14: the period is the one in force at the transfer, by inference.
Log 2: the clock moves to the event's moment. Log 21: outputs are those of the step. Log 49: a span of Frame Control ends exactly its
length after its start, the model's choice. -/
def Obligations.LiveTransferLatchesTheLivePlan : Prop :=
  ∀ (s : State) (base lead : Nat), s.fc.next = .planned base lead →
    completes (exec .liveSettingsTransfer s) (fun t =>
      t.clock = max s.clock (base + us s.period - lead) ∧ onlyChanged [.clock, .frames] s t ∧
      ∃ x : Transfer, t.fc = { s.fc with
          next := .sent (base + us s.period) x false, xfers := s.fc.xfers ++ [x], xferId := s.fc.xferId + 1 } ∧
        x.id = s.fc.xferId ∧ x.values.kind = .live ∧ x.values.g = s.ep.livePlan.g ∧
        x.values.t = max 80 (min s.fc.tlive (s.ep.livePlan.t + (s.appliedA - s.ep.livePlan.a))) ∧
        x.values.gmax = s.setting ixGmax ∧ t.outs = [.settings (microsOf x.values.t) x.values.g .live])

/-- R2, R9, R10, R12, R35: a live frame's exposure start counts the frame sequence number, gives the notice with T, G and Gmax as applied,
and opens the frame in progress, whose span for the movement flags opens with those of the moves then in flight set (R36); with its
transfer not acknowledged the settings in effect are applied, the frame is marked SettingsLate and SETTINGS_LATE is raised. Log 43: an
acknowledged frame takes its own transfer's values whatever was acknowledged since, the model's choice. Log 2: the clock moves to the
event's moment. Log 21: outputs are those of the step. Log 49: a span of Frame Control ends exactly its length after its start, the
model's choice. -/
def Obligations.LiveExposureStartsWithAcknowledgedSettings : Prop :=
  ∀ (s : State) (start : Nat) (x : Transfer) (acked : Bool), s.fc.next = .sent start x acked → s.fc.state = .live →
    s.fc.frame = none → s.fc.reopenAt = none →
    completes (exec .liveExposureStart s) (fun t =>
      t.clock = max s.clock (max start (s.fc.settle.getD 0)) ∧ t.fc.fseq = s.fc.fseq + 1 ∧ t.fc.state = .live ∧
      (∃ v : InEffect, v = (if acked then x.values else s.fc.inEffect) ∧
        t.fc.frame = some { kind := .live, phase := .exposing, limit := t.clock + us (microsOf v.t) } ∧
        t.fc.notice = some { seq := s.fc.fseq + 1, stamp := t.timeBase, kind := .live, t := v.t, g := v.g, gmax := v.gmax,
                             late := !acked } ∧
        ∃ f, t.st.fip = some f ∧ f.seq = s.fc.fseq + 1 ∧ f.stamp = t.timeBase ∧ f.kind = .live ∧ f.t = v.t ∧ f.g = v.g ∧
          f.a = s.appliedA ∧ f.q = v.t + v.g - s.appliedA ∧ f.samples = 0 ∧ f.geo = s.geometry ∧ f.spanOpen = true ∧
          f.flags = { incomplete := false, settingsLate := !acked, irisMoved := s.lens.iris.inFlight,
                      focusMoved := s.lens.focus.inFlight, zoomMoved := s.lens.zoom.inFlight, recentered := false,
                      capture := false }) ∧
      t.st.active = Bank.cleared ∧ Output.trigger .live ∈ t.outs ∧
      (acked = false → t.occurred .settingsLate ∧ ∀ q, t.pends q .settingsLate) ∧
      (us (s.settingNat ixSettingsLead) < us s.period → t.fc.next = .planned t.clock (us (s.settingNat ixSettingsLead))) ∧
      onlyChanged [.clock, .frames, .statistics, .events] s t ∧ (acked = true → Part.events.same s t))

/-- R11, R22, R23, R75, R162: a frame enters its readout at its exposure end, its readout limit running from there. A capture's end also
closes the curtain in the mechanical modes and ends the trigger pulse in BurstHigh, and releases the capture hold: each pending move of
zoom, focus and iris starts, clamped anew (R76), and none is left pending; the span for the movement flags has ended before (R36). A
pending focus move is followed where Focus Search does not act on its completion at once. Where the grade or the credit condition makes
the planner run, its p is the iris's later request (R59). Log 2: the clock moves to the event's moment. Log 21: outputs are those of the
step. Log 22: the order of effects within the step. Log 49: a span of Frame Control ends exactly its length after its start, the model's
choice. -/
def Obligations.ExposureEndBeginsTheReadout : Prop :=
  ∀ (s : State) (f : InputFrame), s.fc.frame = some f → f.phase = .exposing →
    (f.kind = .live → completes (exec .liveExposureEnd s) (fun t =>
      t.clock = max s.clock f.limit ∧ onlyChanged [.clock, .frames, .statistics] s t ∧
      t.fc = { s.fc with
        frame := some { f with phase := .reading, limit := t.clock + ms (s.settingNat ixReadoutLimit) } } ∧
      ∀ x, s.st.fip = some x → t.st.fip = some { x with spanOpen := false })) ∧
    (f.kind = .capture → completes (exec .captureExposureEnd s) (fun t =>
      t.clock = max s.clock f.limit ∧ t.fc.state = .reading ∧ t.hold = false ∧
      t.fc.frame = some { f with phase := .reading, limit := t.clock + ms (s.settingNat ixReadoutLimit) } ∧
      (∀ c, s.fc.cap = some c → t.fc.shutter = if c.mode = .burstHigh then s.fc.shutter else .closed) ∧
      t.lens.zoom.pending = none ∧ t.lens.focus.pending = none ∧ t.lens.iris.pending = none ∧
      (∀ c, s.fc.cap = some c → c.mode = .burstHigh → Output.triggerEnd ∈ t.outs) ∧
      (∀ x, s.st.fip = some x → t.st.fip = some { x with spanOpen := false }) ∧
      t.lens.zoom.pos = s.lens.zoom.pos ∧ t.lens.focus.pos = s.lens.focus.pos ∧ t.lens.iris.pos = s.lens.iris.pos ∧
      (∀ m, s.lens.zoom.pending = some m → t.lens.zoom.movesTo m (max s.loader.table.zwide (min 2048 m.target)) ∧
        t.lens.zoom.speed = m.speed) ∧
      (∀ m, s.lens.focus.pending = some m →
        (s.af.state.searching = true →
          s.lens.zoom.pending = none ∧ s.lens.focus.pos ≠ some (max 0 (min 1023 m.target))) →
        t.lens.focus.movesTo m (max 0 (min 1023 m.target))) ∧
      (∀ m, s.lens.iris.pending = some m →
        (t.ep.penalty = s.ep.penalty → t.creditCondition = s.creditCondition →
          t.lens.iris.movesTo m (max 0 (min s.lens.pmax m.target))) ∧
        (t.ep.penalty ≠ s.ep.penalty ∨ t.creditCondition ≠ s.creditCondition → s.lens.state = .ready → s.ep.given.isSome →
          0 ≤ t.ep.capPlan.p → t.ep.capPlan.p ≤ t.lens.pmax → t.lens.iris.target = some t.ep.capPlan.p ∧
            t.lens.iris.inFlight = decide (s.lens.iris.pos ≠ some t.ep.capPlan.p))) ∧
      (∀ o, s.rq.opened = some o → ∃ q, t.rq.opened = some q ∧ q.phase = .reading ∧ q.startPart = o.startPart ∧
        ∃ e, q.endPart = some e ∧ e.stamp = t.timeBase ∧ (s.stab.resFlag = false → e.residual = none) ∧
          (s.stab.resFlag = true → ∃ y, e.residual = some y ∧ y.rx = s.stab.rx ∧ y.ry = s.stab.ry ∧
            t.stab.grade = some y.grade)) ∧
      onlyChanged [.clock, .frames, .statistics, .planner, .lens, .focus, .stabilizer, .records, .events] s t))

/-- R10, R21, R22: an acknowledgement makes its transfer's values the settings in effect, whenever it arrives, and the capture waiting
with its first transfer outstanding is acknowledged by it. A capture waiting with its second transfer is released by an acknowledgement of
either: by the trigger in BurstHigh and where t is at or above the close travel, by the close command below it. Log 27: T is confirmed at
that release, by inference. Log 8: the operand names the transfer. Log 21: outputs are those of the step. Log 49: a span of Frame Control
ends exactly its length after its start, the model's choice. -/
def Obligations.AcknowledgementSetsTheSettingsInEffect : Prop :=
  ∀ (s : State) (which : Nat) (x : Transfer), s.fc.xfers[which]? = some x →
    completes (exec (.settingsAcknowledgement which) s) (fun t =>
      t.fc.inEffect = x.values ∧ t.fc.xfers = s.fc.xfers.filter (fun y => y.id ≠ x.id) ∧ t.clock = s.clock ∧
      (∀ start y acked, s.fc.next = .sent start y acked → t.fc.next = .sent start y (acked || decide (y.id = x.id))) ∧
      (∀ c, s.fc.cap = some c → c.secondAt = none →
        t.fc.cap = some { c with acked := c.acked || decide (c.transfer.id = x.id ∨ c.second = some x.id) } ∧
        onlyChanged [.frames] s t) ∧
      (s.fc.cap = none → onlyChanged [.frames] s t) ∧
      (∀ c, s.fc.cap = some c → c.secondAt.isSome → c.transfer.id ≠ x.id → c.second ≠ some x.id → onlyChanged [.frames] s t) ∧
      (∀ c, s.fc.cap = some c → c.secondAt.isSome → (c.transfer.id = x.id ∨ c.second = some x.id) → c.mode = .burstHigh →
        s.captureStarted t (s.confirmedT c) (if c.late then x.values.g else c.plan.g) c.late) ∧
      (∀ c, s.fc.cap = some c → c.secondAt.isSome → (c.transfer.id = x.id ∨ c.second = some x.id) → c.mode ≠ .burstHigh →
        (c.travel ≤ us (microsOf (s.confirmedT c)) →
          s.captureStarted t (s.confirmedT c) (if c.late then x.values.g else c.plan.g) c.late ∧
          (us (microsOf (s.confirmedT c)) = c.travel → t.fc.shutter = .closing ∧ Output.closeShutter ∈ t.outs) ∧
          (c.travel < us (microsOf (s.confirmedT c)) → ∃ y, t.fc.cap = some y ∧
            y.closeAt = some (t.clock + (us (microsOf (s.confirmedT c)) - c.travel)))) ∧
        (us (microsOf (s.confirmedT c)) < c.travel →
          t.fc.state = s.fc.state ∧ t.fc.fseq = s.fc.fseq ∧ t.outs = [.closeShutter] ∧ t.fc.shutter = .closing ∧
          onlyChanged [.frames] s t ∧ ∃ y, t.fc.cap = some y ∧ y.acked = true ∧ y.secondAt = none ∧
            y.plan.t = s.confirmedT c ∧
            y.triggerAt = some (t.clock + (c.travel - us (microsOf (s.confirmedT c)))))))

/-- R21, R22: a release that is due with its transfer acknowledged takes place, ordered by comparing t with the close travel; else a
second transfer of the same values begins and the release waits one lead for it. Not acknowledged within that lead, the capture is
released with the settings in effect: its T as planned, G and Gmax as in effect, SettingsLate set, and SETTINGS_LATE raised. Below the
close travel the close command is the release. Log 23: SETTINGS_LATE is raised at the timeout also where the close command comes first.
Log 27: T is confirmed at the moment of the release. Both are inferences. Log 47: a capture acknowledged in time takes its own G whatever
was acknowledged since, the model's choice. Log 2: the clock moves to the event's moment. Log 21: outputs are those of the step. Log 49: a
span of Frame Control ends exactly its length after its start, the model's choice. -/
def Obligations.ReleaseOrdersTriggerAndClose : Prop :=
  (∀ (s : State) (c : Capture) (d : Nat), s.fc.cap = some c → c.releaseAt = some d →
     (c.acked = false → completes (exec .captureRelease s) (fun t =>
       t.clock = max s.clock d ∧ onlyChanged [.clock, .frames] s t ∧ t.fc.state = s.fc.state ∧
       t.fc.xfers = s.fc.xfers ++ [{ id := s.fc.xferId, values := c.transfer.values }] ∧
       t.fc.cap = some { c with
         releaseAt := none, second := some s.fc.xferId, secondAt := some (t.clock + c.lead) })) ∧
     (c.acked = true →
       (c.mode = .burstHigh → completes (exec .captureRelease s) (fun t =>
         t.clock = max s.clock d ∧ s.captureStarted t (s.confirmedT c) (s.appliedG c) c.late ∧
         t.fc.shutter = s.fc.shutter)) ∧
       (c.mode ≠ .burstHigh → c.travel ≤ us (microsOf (s.confirmedT c)) →
         completes (exec .captureRelease s) (fun t =>
           t.clock = max s.clock d ∧ s.captureStarted t (s.confirmedT c) (s.appliedG c) c.late ∧
           (us (microsOf (s.confirmedT c)) = c.travel → t.fc.shutter = .closing ∧ Output.closeShutter ∈ t.outs) ∧
           (c.travel < us (microsOf (s.confirmedT c)) → ∃ x, t.fc.cap = some x ∧
             x.closeAt = some (t.clock + (us (microsOf (s.confirmedT c)) - c.travel)))))  ∧
       (c.mode ≠ .burstHigh → us (microsOf (s.confirmedT c)) < c.travel →
         completes (exec .captureRelease s) (fun t =>
           t.clock = max s.clock d ∧ t.fc.state = s.fc.state ∧ t.fc.fseq = s.fc.fseq ∧ t.outs = [.closeShutter] ∧
           t.fc.shutter = .closing ∧ onlyChanged [.clock, .frames] s t ∧ ∃ x, t.fc.cap = some x ∧
             x.plan.t = s.confirmedT c ∧
             x.triggerAt = some (t.clock + (c.travel - us (microsOf (s.confirmedT c)))))))) ∧
  (∀ (s : State) (c : Capture) (d : Nat), s.fc.cap = some c → c.secondAt = some d →
     completes (exec .secondTransferTimeout s) (fun t =>
       t.clock = max s.clock d ∧ t.occurred .settingsLate ∧ (∀ q, t.pends q .settingsLate) ∧
       (c.mode = .burstHigh ∨ c.travel ≤ us (microsOf (s.confirmedT c)) →
         s.captureStarted t (s.confirmedT c) s.fc.inEffect.g true ∧
         ∀ n, t.fc.notice = some n → n.gmax = s.fc.inEffect.gmax) ∧
       (c.mode ≠ .burstHigh → us (microsOf (s.confirmedT c)) < c.travel →
         t.fc.state = s.fc.state ∧ t.outs = [.closeShutter] ∧ onlyChanged [.clock, .frames, .events] s t ∧
         ∃ x, t.fc.cap = some x ∧ x.late = true ∧
           x.triggerAt = some (t.clock + (c.travel - us (microsOf (s.confirmedT c)))))))

/-- R22, R62: the trigger that follows a close command starts the capture's exposure, unless credit lost since shortens T, which moves the
trigger later; the close command at its moment closes the shutter. Log 23: a late capture's G is that in effect at the exposure start, and
log 47: any other's is its own plan's, the model's choices. Log 27: T is tested again at the trigger, by inference. Log 2: the clock moves
to the event's moment. Log 21: outputs are those of the step. Log 49: a span of Frame Control ends exactly its length after its start, the
model's choice. -/
def Obligations.TriggerAndCloseCommandTakePlace : Prop :=
  ∀ (s : State) (c : Capture) (d : Nat), s.fc.cap = some c →
    (c.triggerAt = some d →
      (s.creditLost c = false ∨ c.plan.t ≤ s.lens.iv.tlimit → completes (exec .captureTrigger s) (fun t =>
        t.clock = max s.clock d ∧ s.captureStarted t c.plan.t (s.appliedG c) c.late)) ∧
      (s.creditLost c = true → s.lens.iv.tlimit < c.plan.t → completes (exec .captureTrigger s) (fun t =>
        t.clock = max s.clock d ∧ onlyChanged [.clock, .frames] s t ∧ ∃ x, t.fc.cap = some x ∧
          x.plan.t = s.lens.iv.tlimit ∧
          x.triggerAt = some (c.released + (c.travel - us (microsOf s.lens.iv.tlimit)))))) ∧
    (c.closeAt = some d → completes (exec .closeCommand s) (fun t =>
      t.clock = max s.clock d ∧ onlyChanged [.clock, .frames] s t ∧ t.outs = [.closeShutter] ∧
      t.fc = { s.fc with shutter := .closing, cap := some { c with closed := some t.clock, closeAt := none } }))

/-- R11, R16, R24, R34, R143, R163: a frame-end marker while a frame is in readout, or its readout timeout, is that frame's readout end:
the banks swap and the record is formed, with M, h and n of the bank, the frame's values and flags and its eligibility marks (R37, R38); a
capture counts the owed shots down, fills its slot, appends its record and, in the mechanical modes, orders the reopening. A timeout marks
the frame Partial. A marker with no frame in readout is ignored. Log 2: the clock moves to the event's moment. Log 21: outputs are those
of the step. Log 22: the order of effects within the step. Log 49: a span of Frame Control ends exactly its length after its start, the
model's choice. -/
def Obligations.ReadoutEndCompletesTheFrame : Prop :=
  ∀ s : State,
    ((∀ f, s.fc.frame = some f → f.phase = .exposing) →
      completes (exec .frameEndMarker s) (fun t => onlyChanged [] s t ∧ t.outs = [])) ∧
    ∀ f : InputFrame, s.fc.frame = some f → f.phase = .reading →
      ∀ x ∈ [(Instr.frameEndMarker, s.clock, false), (.readoutTimeout, max s.clock f.limit, true)],
        completes (exec x.1 s) (fun t =>
          t.clock = x.2.1 ∧ t.fc.frame = none ∧ t.fc.fseq = s.fc.fseq ∧
          (x.2.2 = true → t.occurred .framePartial ∧ ∀ q, t.pends q .framePartial) ∧
          (∀ g, s.st.fip = some g → t.st.fip = none ∧ t.st.completed = s.st.active ∧ t.st.active = s.st.completed ∧
            ∃ r, t.st.last = some r ∧ s.recordFormed g x.2.2 r) ∧
          (f.kind = .live → t.fc.owed = s.fc.owed ∧ t.rq.queue = s.rq.queue) ∧
          (f.kind = .capture → t.fc.owed = s.fc.owed - 1 ∧
            (s.burstRunning = true → s.fc.owed ≤ 1 → s.fc.continuous = false → t.occurred .burstEnded) ∧
            (∀ i, s.store.firstSlot .filling = some i → (t.store.slotAt i).state = .full ∧
              (t.store.slotAt i).bytes = (s.store.slotAt i).bytes ∧
              (t.store.slotAt i).incomplete = ((s.store.slotAt i).incomplete || x.2.2)) ∧
            (∀ o sp ep, s.rq.opened = some o → o.startPart = some sp → o.endPart = some ep → o.withdrawn = false →
              ∃ r, t.rq.queue = s.rq.queue ++ [r] ∧ r.capNo = o.capNo ∧ r.slot = o.slot ∧ r.startPart = sp ∧
                r.endPart = ep ∧ r.readPart.timedOut = x.2.2 ∧ t.occurred .captureStored) ∧
            (∀ c, s.fc.cap = some c → c.mode ≠ .burstHigh → t.fc.state = .reopening ∧ t.fc.cap = none ∧
              t.fc.shutter = .reopening ∧ t.fc.settle = some (t.clock + us (s.settingNat ixReopenSettle)))))

/-- R44, R46, R47, R48, R49, R93, R106: at a live frame's readout end its record reaches the planner and Focus Search. A record not marked
IrisMoved gives the meter offset E and the last metered frame, and without AE lock the step, from E and the highlight guard, is added to
the frame's Q. A record exposed after the last focus completion, with no focus or zoom move, is a sample where Focus Search waits for one:
it is logged and, in Coarse, may become the peak and goes through the tests of the pass, which goes on, reverses or ends (R94 to R96); in
Fine and Probe it moves the pass or the walk on or ends it (R96 to R99, R104, R105), and in Tracking it is compared with Flock (R103). Log
22: the order of effects within the step. Log 44: where the fine range is empty, its lower bound above the upper one, the first fine move
goes to the lower bound all the same, the model's choice. -/
def Obligations.ReadoutRecordIsMeteredAndSampled : Prop :=
  ∀ (s : State) (f : InputFrame) (g : FrameInProgress), s.fc.frame = some f → f.phase = .reading → f.kind = .live →
    s.st.fip = some g →
    completes (exec .frameEndMarker s) (fun t => ∃ r, t.st.last = some r ∧ r.seq = g.seq ∧ r.bank = s.st.active ∧
      (g.flags.irisMoved = true → t.ep.qraw = s.ep.qraw ∧ t.ep.offset = s.ep.offset ∧
        t.ep.lastMetered = s.ep.lastMetered ∧ t.ep.fastStart = s.ep.fastStart) ∧
      (g.flags.irisMoved = false →
        t.ep.lastMetered = some g.seq ∧
        t.ep.offset = logLight (s.settingNat ixTarget) + s.setting ixCompensation - logLight r.m ∧
        (s.ep.lock ≠ .none → t.ep.qraw = s.ep.qraw ∧ t.ep.fastStart = s.ep.fastStart) ∧
        (s.ep.lock = .none → t.ep.qraw = g.q + s.meteredStep r ∧ t.ep.fastStart = false)) ∧
      (g.flags.focusMoved = true ∨ g.flags.zoomMoved = true → t.af.log = s.af.log) ∧
      (g.flags.focusMoved = false → g.flags.zoomMoved = false →
        (∀ y, s.st.focusStamp = some y → 1 ≤ (g.stamp - y).toNat ∧ (g.stamp - y).toNat ≤ 2 ^ 31 - 1) →
        s.af.state = .coarse → s.af.wait = .sample → ∀ v, v = selectF r.bank.feats s.af.zone →
        t.af.log = (if s.af.log.length < 64 then s.af.log else s.af.log.drop 1) ++
          [{ pos := s.lens.focus.pos.getD 0, f := v, seq := g.seq, phase := .coarse }] ∧
        (64 ≤ s.af.log.length → t.af.wrapped = true) ∧ t.af.count = s.af.count + 1 ∧
        (s.af.peak = none → t.af.peak = some { f := v, pos := s.lens.focus.pos.getD 0 }) ∧
        (∀ x, s.af.peak = some x →
          t.af.peak = some (if x.f < v then { f := v, pos := s.lens.focus.pos.getD 0 } else x)) ∧
        s.coarseSampled t v (s.lens.focus.pos.getD 0)) ∧
      (g.flags.focusMoved = false → g.flags.zoomMoved = false →
        (∀ y, s.st.focusStamp = some y → 1 ≤ (g.stamp - y).toNat ∧ (g.stamp - y).toNat ≤ 2 ^ 31 - 1) →
        ∀ v pos, v = selectF r.bank.feats s.af.zone → pos = s.lens.focus.pos.getD 0 →
          (s.af.state = .fine → s.af.wait = .sample → s.logged t v pos g.seq .fine ∧ s.fineSampled t v pos) ∧
          (∀ p, s.af.state = .probe → s.af.wait = .sample → s.af.probe = some p →
            s.logged t v pos g.seq .probe ∧ s.probeSampled t p v pos) ∧
          (s.af.state = .tracking → s.trackCompared t v pos)))

/-- R29, R31, R144: a sample is counted while a frame is in readout, a capture's bytes go to the ingest buffer with the place
each is bound for, and outside a readout a sample changes nothing. A green sample adds to the accumulators of its zone; R33,
with the green before it in its row two columns apart in the same AF zone, and the two differing by more than the contrast threshold,
it adds 1 to that zone's feature count, saturating at 65,535. Log
21: outputs are those of the step. Log 6: the operand gives the bytes. -/
def Obligations.PixelDataIsCountedInReadoutOnly : Prop :=
  ∀ (s : State) (v : Sample) (bytes : List Byte),
    ((∀ f, s.fc.frame = some f → f.phase = .exposing) →
      completes (exec (.pixelData v bytes) s) (fun t => onlyChanged [] s t ∧ t.outs = [])) ∧
    ∀ f : InputFrame, s.fc.frame = some f → f.phase = .reading →
      completes (exec (.pixelData v bytes) s) (fun t =>
        onlyChanged [.statistics, .store, .events] s t ∧ t.st.last = s.st.last ∧ t.st.completed = s.st.completed ∧
        (f.kind = .live → t.store = s.store ∧ Part.events.same s t) ∧
        (∀ g, s.st.fip = some g → g.samples < g.geo.w * g.geo.h →
          (∃ h, t.st.fip = some h ∧ h.samples = g.samples + 1) ∧
          (isGreen g.geo.phase (g.samples / g.geo.w) (g.samples % g.geo.w) = true →
            ∀ z, s.st.active.zones[meterZone g.geo (g.samples / g.geo.w) (g.samples % g.geo.w)]? = some z →
              t.st.active.zones[meterZone g.geo (g.samples / g.geo.w) (g.samples % g.geo.w)]? = some
                { sum := z.sum + v.toNat, count := z.count + 1, min := min z.min v.toNat, max := max z.max v.toNat,
                  high := z.high + if g.geo.clip ≤ v.toNat then 1 else 0 }) ∧
          (isGreen g.geo.phase (g.samples / g.geo.w) (g.samples % g.geo.w) = false →
            t.st.active = s.st.active ∧ ∀ h, t.st.fip = some h → h.prev = g.prev) ∧
          (isGreen g.geo.phase (g.samples / g.geo.w) (g.samples % g.geo.w) = true →
            (∀ h, t.st.fip = some h → h.prev = some (g.samples / g.geo.w, g.samples % g.geo.w, v.toNat)) ∧
            g.featureCounted s t v.toNat)) ∧
        (f.kind = .capture → ∀ i x b, s.store.firstSlot .filling = some i → s.store.slots[i]? = some x → bytes = [b] →
          (x.bytes < slotSize → s.store.buf.length < 65536 →
            t.store.buf = s.store.buf ++ [(i * slotSize + x.bytes, b)] ∧ (t.store.slotAt i).bytes = x.bytes + 1 ∧
            Part.events.same s t) ∧
          (slotSize ≤ x.bytes ∨ 65536 ≤ s.store.buf.length →
            t.store.buf = s.store.buf ∧ (t.store.slotAt i).bytes = x.bytes ∧ (t.store.slotAt i).incomplete = true ∧
            (x.incomplete = false → t.occurred .framePartial))))

/-- R8, R19, R20, R25, R26: at the expiry of the reopen settle the shutter is open, and in REOPENING the gate is evaluated: it passes, or
Frame Control goes to LIVE or IDLE. So it is at the readout end of a BurstHigh capture, after the decrement, and, while the live loop
runs, at that of a live frame, where a gate that fails leaves the live frames to go on; with the loop stopped Frame Control goes to IDLE.
Where the record could move the iris or the focus, the order of log 3 decides: the gate's outcome is stated for records that neither the
planner nor Focus Search acts on. A reopen command owed after an abort starts the settle at its moment. Log 15, by inference: a live loop
that resumes while a live frame is still on the input begins its transfer at that boundary. Log 2: the clock moves to the event's moment.
Log 21: outputs are those of the step. Log 49: a span of Frame Control ends exactly its length after its start, the model's choice. -/
def Obligations.ReopenSettleEvaluatesTheGate : Prop :=
  (∀ (s : State) (f : InputFrame) (g : FrameInProgress), s.fc.frame = some f → f.phase = .reading → s.st.fip = some g →
     ∀ x ∈ [(Instr.frameEndMarker, false), (.readoutTimeout, true)], completes (exec x.1 s) (fun t =>
       ∀ unused : Bool, unused = (x.2 || (g.flags.irisMoved && decide (s.af.state ∈ [AfState.idle, .locked, .failed]))) →
         (f.kind = .live → s.fc.state = .live →
           (s.loopRuns = false → t.fc.state = .idle ∧ t.fc.next = .none) ∧
           (s.loopRuns = true → s.burstRunning = false ∨ unused = true ∧ s.gateOpen = false → s.liveGoesOn t) ∧
           (s.loopRuns = true → unused = true → s.gateOpen = true → s.gatePassed t)) ∧
         (∀ c, f.kind = .capture → s.fc.cap = some c → c.mode = .burstHigh → s.fc.cadence ≠ .still →
           ∀ u : State, u = { s with fc := { s.fc with owed := s.fc.owed - 1 } } →
             (u.burstRunning = false ∨ unused = true ∧ u.gateOpen = false → t.fc.cap = none ∧
               t.fc.state = if s.lens.state = .ready then .live else .idle) ∧
             (unused = true → u.gateOpen = true → t.fc.state = .arming ∧ t.fc.capNo = s.fc.capNo + 1 ∧
               (∃ y, t.fc.cap = some y ∧ y.mode = s.burstMode ∧
                 y.releaseAt = some (t.clock + us (s.settingNat ixSettingsLead))) ∧
               ∃ i, s.store.firstSlot .free = some i ∧ (t.store.slotAt i).state = .filling ∧
                 ∃ o, t.rq.opened = some o ∧ o.slot = i ∧ o.capNo = s.fc.capNo + 1 ∧ o.phase = .gated)))) ∧
  ∀ (s : State) (d : Nat),
    (s.fc.settle = some d → completes (exec .reopenSettleExpiry s) (fun t =>
      t.clock = max s.clock d ∧ t.fc.settle = none ∧ t.fc.shutter = .opened ∧
      (s.fc.state ≠ .reopening → onlyChanged [.clock, .frames] s t ∧ t.fc.state = s.fc.state) ∧
      (s.fc.state = .reopening →
        (s.gateOpen = true → s.gatePassed t) ∧
        (s.gateOpen = false → onlyChanged [.clock, .frames] s t ∧
          t.fc.state = if s.lens.state = .ready ∧ s.fc.cadence ≠ .still then .live else .idle)))) ∧
    (s.fc.reopenAt = some d → completes (exec .abortReopen s) (fun t =>
      t.clock = max s.clock d ∧ onlyChanged [.clock, .frames] s t ∧ t.outs = [.reopenShutter] ∧
      t.fc = { s.fc with
        reopenAt := none, shutter := .reopening, settle := some (t.clock + us (s.settingNat ixReopenSettle)) }))

/-! ### Lens Drive -/

/-- R69, R6: EXTEND is taken with LATER in Stowed, unless a load runs, and in Intermediate: zoom and iris move to Zwide and 0, and with
both there d becomes 32 and focus goes to track(Zwide, 32), where the lens is Ready. In Ready it replies OK, else it is refused; then it
is activity alone. Log 49: a span of Frame Control ends exactly its length after its start, the model's choice. -/
def Obligations.ExtendTakesTheLensOut : Prop :=
  ∀ (s : State) (p : Port),
    (s.lens.state = .intermediate ∨ s.lens.state = .stowed ∧ s.loader.loading = none →
      answers (.extend p []) s p .later []
        [.frames, .statistics, .planner, .lens, .stabilizer, .store, .records, .events, .choices] (fun t =>
          s.tookActivity t ∧
          (s.lens.zoom.pos ≠ some s.loader.table.zwide ∨ s.lens.iris.pos ≠ some 0 →
            t.lens.state = .extending ∧ t.lens.iris.target = some 0 ∧ t.lens.zoom.target = some s.loader.table.zwide ∧
            t.lens.zoom.speed = 3 ∧ t.lens.zoom.origin = .lens ∧ t.lens.d = s.lens.d) ∧
          (s.lens.zoom.pos = some s.loader.table.zwide → s.lens.iris.pos = some 0 → t.lens.d = some 32 ∧
            t.lens.focus.target = some (trackAt s.lens.iv 32) ∧
            (s.lens.focus.pos ≠ some (trackAt s.lens.iv 32) → t.lens.state = .extending) ∧
            (s.lens.focus.pos = some (trackAt s.lens.iv 32) → t.lens.state = .ready ∧ t.occurred .lensReady)))) ∧
    (s.lens.state = .ready → answers (.extend p []) s p .ok []
      [.frames, .statistics, .planner, .lens, .stabilizer, .store, .records, .choices] (fun t =>
        s.tookActivity t ∧ t.lens.state = .ready ∧ t.fc.owed = s.fc.owed ∧ t.fc.continuous = s.fc.continuous ∧
        t.fc.prepare = s.fc.prepare ∧ (s.fc.cadence = .liveFast → onlyChanged [.transaction p, .frames] s t))) ∧
    ((s.lens.state = .stowed ∧ s.loader.loading.isSome) ∨ s.lens.state = .homing ∨ s.lens.state = .extending ∨
        s.lens.state = .retracting ∨ s.lens.state = .faulted →
      answers (.extend p []) s p .wrongState []
        [.frames, .statistics, .planner, .lens, .stabilizer, .store, .records, .choices] (fun t =>
          s.tookActivity t ∧ t.lens.state = s.lens.state ∧ t.fc.owed = s.fc.owed ∧ t.fc.continuous = s.fc.continuous ∧
          t.fc.prepare = s.fc.prepare ∧ (s.fc.cadence = .liveFast → onlyChanged [.transaction p, .frames] s t)))

/-- R70, R71, R67: RETRACT is taken with LATER in Extending and Intermediate, and in Ready with no capture in flight: focus,
iris and zoom are driven to the park position, 0 and 0, and leaving Ready ends the shots, the search and the Stabilizer's
work. In Stowed it replies OK, else it is refused, and nothing changes but, at most, the quiet timers. Log 31: what watching begins
with. -/
def Obligations.RetractTakesTheLensIn : Prop :=
  ∀ (s : State) (p : Port),
    (s.lens.state = .extending ∨ s.lens.state = .intermediate ∨ s.lens.state = .ready ∧ s.inFlight = false →
      answers (.retract p []) s p .later []
        [.frames, .statistics, .planner, .lens, .focus, .stabilizer, .events] (fun t =>
          t.lens.state = .retracting ∧ t.lens.focus.target = some s.loader.table.park ∧ t.lens.iris.target = some 0 ∧
          t.lens.zoom.target = some 0 ∧ t.lens.zoom.speed = 3 ∧ t.lens.zoom.origin = .lens ∧ t.lens.zoom.inFlight = true ∧
          t.lens.zoom.pos = s.lens.zoom.pos ∧ t.lens.focus.pos = s.lens.focus.pos ∧ t.lens.d = s.lens.d ∧
          (∀ z, s.lens.zoom.pos = some z → 8 < z → t.lens.drive = .retractFar) ∧
          (∀ z, s.lens.zoom.pos = some z → z ≤ 8 →
            t.lens.drive = if s.lens.sensor = .home then .retractOut 0 else .retractWatch) ∧
          (s.lens.state = .ready → t.fc.owed = 0 ∧ t.fc.continuous = false ∧ t.af.state = .idle ∧
            t.stab.state ≠ .active ∧ t.stab.state ≠ .calibrating ∧ (s.burstRunning = true → t.occurred .burstEnded) ∧
            (s.fc.state = .live → t.fc.next = .none ∧ (s.fc.frame = none → t.fc.state = .idle))))) ∧
    (s.lens.state = .stowed →
      answers (.retract p []) s p .ok [] [.frames] (fun t =>
        t.fc = { s.fc with quiet1 := t.fc.quiet1, quiet2 := t.fc.quiet2 })) ∧
    (s.lens.state = .homing ∨ s.lens.state = .retracting ∨ s.lens.state = .faulted ∨
        s.lens.state = .ready ∧ s.inFlight = true →
      answers (.retract p []) s p .wrongState [] [.frames] (fun t =>
        t.fc = { s.fc with quiet1 := t.fc.quiet1, quiet2 := t.fc.quiet2 }))

/-- R76, R78, R79, R80, R81: ZOOM TO and ZOOM RUN check speed level and direction, then the lens state; in Ready the target is clamped to
Zwide..2048, with ADJUSTED for a clamped ZOOM TO, and taken with origin Link; both are activity whatever the reply. In Ready ZOOM HALT
ends the zoom's move at its position, its origin unchanged, or drops the pending target, a link move so completed raising ZOOM_REACHED;
with neither nothing changes. Outside Ready all three are refused. Log 21: outputs are those of the step. Log 49: a span of Frame Control
ends exactly its length after its start, the model's choice. -/
def Obligations.ZoomRequestsAreTakenInReady : Prop :=
  (∀ (s : State) (p : Port) (a b speed dir : Byte),
     ∀ x ∈ [(Instr.zoomTo p [a, b, speed], true, ((a.toNat * 256 + b.toNat : Nat) : Int)),
         (.zoomRun p [dir, speed], decide (dir.toNat ≤ 1), if dir.toNat = 0 then 2048 else s.loader.table.zwide)],
       (x.2.1 = false ∨ speed.toNat = 0 ∨ 4 < speed.toNat →
         answers x.1 s p .badArgument [] [.frames, .statistics, .planner, .lens, .stabilizer, .store, .records, .choices]
           (fun t => s.tookActivity t ∧ t.lens.zoom = s.lens.zoom ∧
             (s.fc.cadence = .liveFast → onlyChanged [.transaction p, .frames] s t))) ∧
       (x.2.1 = true → 1 ≤ speed.toNat → speed.toNat ≤ 4 → s.lens.state ≠ .ready →
         answers x.1 s p .wrongState [] [.frames, .statistics, .planner, .lens, .stabilizer, .store, .records, .choices]
           (fun t => s.tookActivity t ∧ t.lens.zoom = s.lens.zoom ∧
             (s.fc.cadence = .liveFast → onlyChanged [.transaction p, .frames] s t))) ∧
       (x.2.1 = true → 1 ≤ speed.toNat → speed.toNat ≤ 4 → s.lens.state = .ready →
         answers x.1 s p
           (if x.1 = .zoomTo p [a, b, speed] ∧ max s.loader.table.zwide (min 2048 x.2.2) ≠ x.2.2 then .adjusted else .later) []
           [.frames, .statistics, .planner, .lens, .focus, .stabilizer, .store, .records, .events, .choices] (fun t =>
             s.tookActivity t ∧ s.zoomRequested t (max s.loader.table.zwide (min 2048 x.2.2)) speed.toNat))) ∧
  (∀ (s : State) (p : Port),
     (s.lens.state ≠ .ready → answers (.zoomHalt p []) s p .wrongState [] [] (fun t => t.outs = [])) ∧
     (s.lens.state = .ready → s.lens.zoom.inFlight = true →
       answers (.zoomHalt p []) s p .ok [] [.statistics, .lens, .focus, .events] (fun t =>
         t.lens.zoom = { s.lens.zoom with target := s.lens.zoom.pos, inFlight := false, stepAt := none } ∧
         (s.lens.zoom.origin = .link → t.occurred .zoomReached ∧ ∀ q, t.pends q .zoomReached))) ∧
     (∀ m, s.lens.state = .ready → s.lens.zoom.inFlight = false → s.lens.zoom.pending = some m →
       answers (.zoomHalt p []) s p .ok [] [.lens, .events] (fun t =>
         t.lens = { s.lens with zoom := { s.lens.zoom with pending := none } } ∧
         (m.origin = .link → t.occurred .zoomReached) ∧ (m.origin ≠ .link → Part.events.same s t))) ∧
     (s.lens.state = .ready → s.lens.zoom.inFlight = false → s.lens.zoom.pending = none →
       answers (.zoomHalt p []) s p .ok [] [] (fun t => t.outs = [])))

/-- R82, R84, R102: in Ready FOCUS TO clamps the position to 0..1023, ADJUSTED if clamped, sets d from it at once, takes it as target or,
under the hold, as pending target, and Focus Search goes to Idle. Outside Ready it is refused. It is activity. Log 49: a span of Frame
Control ends exactly its length after its start, the model's choice. -/
def Obligations.FocusToSetsTargetAndDistance : Prop :=
  ∀ (s : State) (p : Port) (a b : Byte) (x : Int), x = min 1023 ((a.toNat * 256 + b.toNat : Nat) : Int) →
    (s.lens.state ≠ .ready →
      answers (.focusTo p [a, b]) s p .wrongState []
        [.frames, .statistics, .planner, .lens, .stabilizer, .store, .records, .choices] (fun t =>
          s.tookActivity t ∧ t.lens.focus = s.lens.focus ∧ t.lens.d = s.lens.d ∧
          (s.fc.cadence = .liveFast → onlyChanged [.transaction p, .frames] s t))) ∧
    (s.lens.state = .ready →
      answers (.focusTo p [a, b]) s p (if a.toNat * 256 + b.toNat ≤ 1023 then .ok else .adjusted) []
        [.frames, .statistics, .planner, .lens, .focus, .stabilizer, .store, .records, .events, .choices] (fun t =>
          s.tookActivity t ∧ t.lens.d = some (distanceOf s.lens.iv x) ∧ t.lens.focus.pos = s.lens.focus.pos ∧
          t.af.state = .idle ∧ (s.af.state.searching = true → t.af.result = .aborted) ∧
          (s.hold = false → s.af.state.searching = false ∨ s.lens.focus.pending = none →
            t.lens.focus.target = some x ∧ t.lens.focus.origin = .link ∧
            t.lens.focus.inFlight = decide (s.lens.focus.pos ≠ some x)) ∧
          (s.hold = true → s.af.state.searching = false →
            t.lens.focus.pending = some { target := x, origin := .link, speed := 0 } ∧
            t.lens.focus.target = s.lens.focus.target)))

/-- R73, R77: an ordinary step brings an actuator one step nearer its target, and the next step comes one interval later; at
the target the move is complete. Ordinary are the steps in Ready, and those of focus and iris outside the stop phase of
homing. R85: a zoom step in Ready that reaches a multiple of 16 or the target is a tracking point. R68: the stop phase of homing counts
the steps of focus and iris down to position 0, then the zoom phase begins. R68, R69, R71: the last step of a drive brings the next
part of the extend, Ready or Stowed. R93, R97 to R99, R105: a focus move completed in Ready goes on with a search that asked for it,
and aborts a search that waits for its own. Log 2: the clock moves to the event's moment. Log 21: outputs are those of the step.
Log 9: the operand gives the sensor, and the zoom phase begins by it. Log 41: at the stop the target is 0 with the position, the
model's choice. Premise: a step is due only while the move is in flight. -/
def Obligations.StepMovesOneTowardTheTarget : Prop :=
  (∀ (s : State) (which : Actuator) (level : HomeLevel) (p q : Int) (d : Nat), s.stepDue which p q d →
    (s.lens.drive = .none ∨ which ≠ .zoom ∧ ∀ f i, s.lens.drive ≠ .homeStop f i) →
    completes (exec (.actuatorStep which level) s) (fun t =>
      t.clock = max s.clock d ∧ (t.act which).pos = some (if p < q then p + 1 else p - 1) ∧ t.lens.sensor = level ∧
      t.outs.head? = some (.step which (decide (p < q))) ∧
      (s.lens.drive = .none → (if p < q then p + 1 else p - 1) ≠ q →
        (t.act which).target = some q ∧ (t.act which).inFlight = (s.act which).inFlight ∧
        (t.act which).stepAt = some (t.clock + stepInterval which (s.act which).speed)) ∧
      (s.lens.drive = .none → s.lens.state = .ready → (if p < q then p + 1 else p - 1) = q →
        (which ≠ .focus → (t.act which).inFlight = false ∧ (t.act which).stepAt = none) ∧
        (which = .focus → t.st.focusStamp = some t.timeBase) ∧
        (which = .zoom → (s.act which).origin = .link → t.occurred .zoomReached)) ∧
      t.settings = s.settings ∧ (∀ a, t.dramByte a = s.dramByte a) ∧ t.rq.queue = s.rq.queue ∧
      t.store.slots.length = s.store.slots.length)) ∧
  (∀ (s : State) (level : HomeLevel) (p q x z : Int) (d : Nat), s.stepDue .zoom p q d → s.lens.drive = .none →
    s.lens.state = .ready → s.hold = false → s.af.state.searching = false → s.lens.d = some x →
    z = (if p < q then p + 1 else p - 1) → completes (exec (.actuatorStep .zoom level) s) (fun t =>
      t.lens.d = some x ∧ t.lens.iv = valuesAt s.loader.table (some z) ∧
      (z ≠ q → z % 16 ≠ 0 → t.lens.focus = s.lens.focus) ∧
      (z = q ∨ z % 16 = 0 →
        (s.lens.focus.target = some (trackAt t.lens.iv x) → t.lens.focus = s.lens.focus) ∧
        (s.lens.focus.target ≠ some (trackAt t.lens.iv x) →
          t.lens.focus.target = some (max 0 (min 1023 (trackAt t.lens.iv x))) ∧ t.lens.focus.origin = .tracking) ∧
        (0 ≤ t.lens.pmax → t.lens.iris.target.getD 0 ≤ t.lens.pmax)))) ∧
  (∀ (s : State) (level : HomeLevel) (d f i : Nat), s.lens.drive = .homeStop f i →
    ∀ x ∈ [(Actuator.focus, f - 1, i, f - 1), (.iris, f, i - 1, i - 1)], (s.act x.1).stepAt = some d →
      completes (exec (.actuatorStep x.1 level) s) (fun t =>
        t.clock = max s.clock d ∧ t.lens.state = s.lens.state ∧ t.lens.sensor = level ∧
        (x.2.1 ≠ 0 ∨ x.2.2.1 ≠ 0 → t.lens.drive = .homeStop x.2.1 x.2.2.1 ∧ t.lens.zoom = s.lens.zoom) ∧
        (x.2.1 = 0 → x.2.2.1 = 0 → t.lens.drive = (if level = .home then .homeOut 0 else .homeIn 0) ∧
          t.lens.zoom.inFlight = true ∧ t.lens.zoom.stepAt = some (t.clock + us 2000)) ∧
        (x.2.2.2 = 0 → (t.act x.1).pos = some 0 ∧ (t.act x.1).target = some 0 ∧ (t.act x.1).inFlight = false ∧
          (t.act x.1).stepAt = none) ∧
        (x.2.2.2 ≠ 0 → t.act x.1 = { s.act x.1 with
          stepAt := some (t.clock + stepInterval x.1 (s.act x.1).speed) }))) ∧
  (∀ (s : State) (level : HomeLevel) (p q : Int) (d : Nat), |q - p| = 1 →
    (∀ x ∈ [(Actuator.zoom, Actuator.iris), (.iris, .zoom)], s.stepDue x.1 p q d → s.lens.drive = .extendMoves →
      s.lens.state = .extending → completes (exec (.actuatorStep x.1 level) s) (fun t =>
        (t.act x.1).pos = some q ∧ (t.lens.state = .extending → (t.act x.1).inFlight = false) ∧
        ((s.act x.2).inFlight = true →
          t.lens.state = .extending ∧ t.lens.drive = .extendMoves ∧ t.lens.d = s.lens.d ∧ t.lens.focus = s.lens.focus) ∧
        ((s.act x.2).inFlight = false → t.lens.d = some 32 ∧ t.lens.focus.target = some (trackAt t.lens.iv 32) ∧
          (s.lens.focus.pos ≠ some (trackAt t.lens.iv 32) →
            t.lens.state = .extending ∧ t.lens.drive = .extendFocus ∧ t.lens.focus.inFlight = true) ∧
          (s.lens.focus.pos = some (trackAt t.lens.iv 32) → t.lens.state = .ready ∧ t.occurred .lensReady)))) ∧
    (s.stepDue .focus p q d → s.lens.drive = .extendFocus → s.lens.state = .extending →
      completes (exec (.actuatorStep .focus level) s) (fun t =>
        t.lens.state = .ready ∧ t.lens.drive = .none ∧ t.occurred .lensReady ∧ (∀ k, t.pends k .lensReady) ∧
        t.fc.started = true ∧ t.lens.focus.inFlight = false ∧
        (s.fc.state = .idle → s.fc.cadence ≠ .still → t.fc.state = .live ∨ t.fc.state = .arming))) ∧
    (s.stepDue .focus p q d → s.lens.drive = .homePark → s.lens.state = .homing →
      completes (exec (.actuatorStep .focus level) s) (fun t =>
        t.lens.state = .stowed ∧ t.lens.drive = .none ∧ t.occurred .lensStowed ∧ ∀ k, t.pends k .lensStowed)) ∧
    (∀ x ∈ [(Actuator.focus, Actuator.iris), (.iris, .focus)], s.stepDue x.1 p q d → s.lens.drive = .retractHomed →
      s.lens.state = .retracting → completes (exec (.actuatorStep x.1 level) s) (fun t =>
        (t.act x.1).pos = some q ∧ (t.act x.1).inFlight = false ∧
        ((s.act x.2).inFlight = true →
          t.lens.state = .retracting ∧ t.lens.drive = .retractHomed) ∧
        ((s.act x.2).inFlight = false → t.lens.state = .stowed ∧ t.occurred .lensStowed))) ∧
    (s.stepDue .focus p q d → s.lens.drive = .none → s.lens.state = .ready → s.af.state.searching = true →
      s.af.wait.isMove = true → completes (exec (.actuatorStep .focus level) s) (fun t =>
        t.lens.focus.pos = some q ∧ (s.lens.focus.origin = .search → s.ownMoveDone t) ∧
        (s.lens.focus.origin ≠ .search → t.af.state = .idle ∧ t.af.result = .aborted ∧ t.lens.d = s.lens.d))))

/-- R68, R71, R72: the steps of homing and retract follow the home sensor: outward until Away, at most 64 steps; inward until
Home, which is position 0; the count at the edge of a retract is the slip; no edge found in time is a fault. Log 9: the
operand gives the sensor. -/
def Obligations.HomeSensorEndsTheZoomDrives : Prop :=
  ∀ (s : State) (level : HomeLevel) (d : Nat), s.lens.zoom.stepAt = some d →
    (∀ n, s.lens.drive = .homeOut n → completes (exec (.actuatorStep .zoom level) s) (fun t =>
      (level = .away → t.lens.drive = .homeIn 0 ∧ t.lens.state = s.lens.state) ∧
      (level = .home → 64 ≤ n + 1 → t.lens.state = .faulted ∧ t.lens.cause = .homeStuck ∧ t.occurred .lensFault) ∧
      (level = .home → n + 1 < 64 → t.lens.drive = .homeOut (n + 1) ∧ t.lens.state = s.lens.state))) ∧
    (∀ n, s.lens.drive = .homeIn n → s.lens.state = .homing → completes (exec (.actuatorStep .zoom level) s) (fun t =>
      (level = .home → t.lens.zoom.pos = some 0 ∧ t.lens.zoom.inFlight = false ∧
        t.lens.focus.target = some s.loader.table.park ∧
        (s.lens.focus.pos = some s.loader.table.park → t.lens.state = .stowed ∧ t.occurred .lensStowed) ∧
        (s.lens.focus.pos ≠ some s.loader.table.park → t.lens.state = .homing ∧ t.lens.drive = .homePark)) ∧
      (level = .away → 2300 ≤ n + 1 →
        t.lens.state = .faulted ∧ t.lens.cause = .homeNotFound ∧ t.occurred .lensFault ∧ t.moving = false) ∧
      (level = .away → n + 1 < 2300 → t.lens.drive = .homeIn (n + 1) ∧ t.lens.state = .homing))) ∧
    (∀ n z, s.lens.drive = .retractOut n → s.lens.zoom.pos = some z → s.lens.state = .retracting →
      completes (exec (.actuatorStep .zoom level) s) (fun t => t.lens.zoom.pos = some (z + 1) ∧
        (level = .away → t.lens.drive = .retractWatch ∧ t.lens.state = .retracting) ∧
        (level = .home → 64 ≤ n + 1 → t.lens.state = .faulted ∧ t.lens.cause = .homeStuck ∧ t.occurred .lensFault) ∧
        (level = .home → n + 1 < 64 → t.lens.drive = .retractOut (n + 1) ∧ t.lens.state = .retracting))) ∧
    (∀ z, s.lens.drive = .retractFar → s.lens.zoom.pos = some z → s.lens.state = .retracting →
      completes (exec (.actuatorStep .zoom level) s) (fun t =>
        t.lens.zoom.pos = some (z - 1) ∧ t.lens.state = .retracting ∧
        t.lens.drive = if 8 < z - 1 then .retractFar else if level = .home then .retractOut 0 else .retractWatch)) ∧
    (∀ z, s.lens.drive = .retractWatch → s.lens.zoom.pos = some z → s.lens.state = .retracting →
      completes (exec (.actuatorStep .zoom level) s) (fun t =>
        (level = .home → t.lens.zoom.pos = some 0 ∧ t.lens.zoom.inFlight = false ∧
          t.lens.slip = (if z - 1 = 0 then s.lens.slip else some (z - 1)) ∧
          t.lens.slips = (if z - 1 = 0 then s.lens.slips else min 255 (s.lens.slips + 1)) ∧
          (s.lens.focus.inFlight = false ∧ s.lens.iris.inFlight = false →
            t.lens.state = .stowed ∧ t.occurred .lensStowed) ∧
          (s.lens.focus.inFlight = true ∨ s.lens.iris.inFlight = true → t.lens.state = .retracting)) ∧
        (level = .away → z - 1 ≤ -72 → t.lens.state = .faulted ∧ t.lens.cause = .edgeMissing ∧ t.occurred .lensFault ∧
          t.moving = false ∧ t.lens.zoom.pos = some (z - 1)) ∧
        (level = .away → -72 < z - 1 → t.lens.zoom.pos = some (z - 1) ∧ t.lens.state = .retracting)))

/-! ### Focus Search -/

/-- R90, R92, R74: in Ready AF START starts a search of origin Command whatever the AF state: parameters latched, records and log cleared,
the range fixed, and focus sent to the start position; the result of a search given up and d stay. Outside Ready it is refused. It is
activity. Log 49: a span of Frame Control ends exactly its length after its start, the model's choice. -/
def Obligations.AfStartBeginsASearch : Prop :=
  ∀ (s : State) (p : Port),
    (s.lens.state ≠ .ready →
      answers (.afStart p []) s p .wrongState []
        [.frames, .statistics, .planner, .lens, .stabilizer, .store, .records, .choices] (fun t =>
          s.tookActivity t ∧ (s.fc.cadence = .liveFast → onlyChanged [.transaction p, .frames] s t))) ∧
    (s.lens.state = .ready →
      answers (.afStart p []) s p .ok []
        [.frames, .statistics, .planner, .lens, .focus, .stabilizer, .store, .records, .choices] (fun t =>
          s.tookActivity t ∧ t.af.state = .coarse ∧ t.af.origin = .command ∧ t.af.result = s.af.result ∧
          t.lens.d = s.lens.d ∧ t.af.coarse = s.setting ixCoarseStep ∧ t.af.fine = s.setting ixFineStep ∧
          t.af.budget = s.settingNat ixSampleBudget ∧ t.af.fmin = s.settingNat ixFmin ∧
          t.af.zone = s.settingNat ixAfZone ∧ t.af.lo = max 0 (s.lens.iv.inf - 32) ∧ t.af.hi = s.lens.iv.near ∧
          t.af.start = max t.af.lo (min t.af.hi (s.lens.focus.pos.getD 0)) ∧ t.af.log = [] ∧ t.af.wrapped = false ∧
          t.af.count = 0 ∧ t.af.low = 0 ∧ t.af.peak = none ∧ t.af.best = none ∧ t.af.reversed = false ∧
          (s.hold = false → t.lens.focus.target = some (max 0 (min 1023 t.af.start)) ∧ t.lens.focus.origin = .search) ∧
          (s.hold = true → t.lens.focus.pending =
            some { target := max 0 (min 1023 t.af.start), origin := .search, speed := 0 })))

/-- R100, R102: AF CANCEL replies OK in every state: a search or probe is aborted to Idle, a lock, tracking or failure goes to Idle
with its result kept, and in Idle nothing changes. d, Flock and the log stay. An aborted search of its own focus move requests the
present position, which stops the move there. -/
def Obligations.AfCancelGoesToIdle : Prop :=
  ∀ (s : State) (p : Port),
    answers (.afCancel p []) s p .ok [] [.statistics, .lens, .focus] (fun t =>
      t.af.state = .idle ∧ t.af.flock = s.af.flock ∧ t.af.log = s.af.log ∧ t.lens.d = s.lens.d ∧
      t.af.result = (if s.af.state.searching then .aborted else s.af.result) ∧
      (s.af.state.searching = false → onlyChanged [.transaction p, .focus] s t) ∧
      (s.af.state = .idle → onlyChanged [.transaction p] s t) ∧
      (s.af.state.searching = true → s.lens.state = .ready → s.hold = false → s.lens.focus.origin = .search →
        t.lens.focus.pos = s.lens.focus.pos ∧ t.lens.focus.target = some (max 0 (min 1023 (s.lens.focus.pos.getD 0))) ∧
        t.lens.focus.inFlight = decide (t.lens.focus.pos ≠ t.lens.focus.target)))

/-! ### Stabilizer -/

/-- R126, R129, R131: CALIBRATE BIAS starts a calibration where it is taken; CAL CANCEL aborts one, raising BIAS_CAL_ENDED;
STAB RESTART clears a fault and derives the state again. The bias in use stays throughout. Elsewhere nothing changes. Log 25:
the timeout is fixed at the start, by inference. Log 21: outputs are those of the step. -/
def Obligations.StabilizerRequestsActOnCalibrationAndFault : Prop :=
  ∀ (s : State) (p : Port),
    (s.lens.state = .ready → s.inFlight = false → s.fc.cadence ≠ .still → s.stab.state ≠ .faulted →
      s.stab.state ≠ .calibrating →
      answers (.calibrateBias p []) s p .later [] [.statistics, .planner, .lens, .stabilizer] (fun t =>
        t.stab.state = .calibrating ∧ t.stab.biasX = s.stab.biasX ∧ t.stab.biasY = s.stab.biasY ∧
        t.stab.cal = { status := .sampling, start := s.timeBase, count := 0, sumX := 0, sumY := 0, result := none,
                       limit := some (s.clock + sec (s.settingNat ixCalTimeout)) } ∧
        (s.stab.state = .active → t.stab.x.theta = 0 ∧ t.stab.y.target = 0 ∧ t.stab.backlog = 0 ∧ t.stab.tick = none))) ∧
    (s.lens.state ≠ .ready ∨ s.inFlight = true ∨ s.fc.cadence = .still ∨ s.stab.state = .faulted ∨
        s.stab.state = .calibrating →
      answers (.calibrateBias p []) s p .wrongState [] [] (fun t => t.outs = [])) ∧
    (s.stab.state = .calibrating →
      answers (.calCancel p []) s p .ok [] [.statistics, .planner, .lens, .stabilizer, .events] (fun t =>
        t.stab.state = s.derivedState ∧ t.stab.cal = { s.stab.cal with status := .aborted, limit := none } ∧
        t.stab.biasX = s.stab.biasX ∧ t.stab.biasY = s.stab.biasY ∧ t.occurred .biasCalEnded ∧
        ∀ q, t.pends q .biasCalEnded)) ∧
    (s.stab.state ≠ .calibrating → answers (.calCancel p []) s p .ok [] [] (fun t => t.outs = [])) ∧
    (s.stab.cause ≠ .none →
      answers (.stabRestart p []) s p .ok [] [.statistics, .planner, .lens, .stabilizer] (fun t =>
        t.stab.cause = .none ∧ t.stab.state = s.derivedState ∧ t.stab.missed = 0 ∧ t.stab.rep1 = 0 ∧ t.stab.rep2 = 0)) ∧
    (s.stab.cause = .none → answers (.stabRestart p []) s p .ok [] [] (fun t => t.outs = []))

/-- R113 to R118, R120, R121, R124: in Active, with no fault, a received sample goes through the mapping by the orientation, pan
detection, the integration or, while panning, the decay, a recenter step that is due, and the shift; in a capture's window the
excesses add to the residuals. With no recenter step due and neither axis panning before or after it, θ takes the corrected rate less
the leak. In Parked only pan detection acts. R127, R128: in a calibration a sample is tested and may end it. R130: 256 identical rates
of an axis in a row are a fault. With a fault held the sample is kept and not used. The request goes out before the sample is used,
the message after it. Log 2: the clock moves to the event's moment. Log 21: outputs are those of the step. Log 11: when a sample can
come, and when its request goes out. Log 13: the watch acts before the sample is used, by inference. Log 25: threshold and minimum act as
they stand, by inference. Log 26: while a fault is held a new orientation clears nothing, the model's choice. -/
def Obligations.GyroSampleMovesTheShiftTarget : Prop :=
  ∀ (s : State) (u v : Rate) (g : Nat), s.stab.gyro = some g →
    (s.stab.state = .active → s.stab.cause = .none → s.stab.orient = s.setting ixOrientation → s.setting ixOrientation = 0 →
      s.stab.rep1 < 254 → s.stab.rep2 < 254 → s.stab.x.pan = false → s.stab.y.pan = false → 0 < s.settingNat ixPanCount →
      |u.toInt| ≤ s.setting ixPanThreshold → |v.toInt| ≤ s.setting ixPanThreshold → s.stab.backlog = 0 →
      s.stab.x.entry < s.settingNat ixPanCount → s.stab.y.entry < s.settingNat ixPanCount →
      completes (exec (.gyroSampleReceived u v) s) (fun t =>
        t.clock = max s.clock (g - us 500) ∧ t.stab.gyro = some (g + us 500) ∧ onlyChanged [.clock, .stabilizer] s t ∧
        t.stab.last = some { u := u.toInt, v := v.toInt, x := u.toInt, y := v.toInt } ∧ t.stab.missed = 0 ∧
        t.outs = (if s.stab.asked then [] else [.gyroRequest]) ++ [.shift true t.stab.x.target t.stab.y.target] ∧
        ∀ x ∈ [(s.stab.x, t.stab.x, u.toInt, s.stab.biasX), (s.stab.y, t.stab.y, v.toInt, s.stab.biasY)],
          x.2.1.theta = max (-2147483647) (min 2147483647
            (x.1.theta + (x.2.2.1 * 16 - x.2.2.2) - x.1.theta / 2 ^ s.settingNat ixLeakShift)) ∧
          x.2.1.demand = (x.2.1.theta * s.stab.gain).tdiv 16777216 ∧
          x.2.1.target = max (-(s.setting ixShiftLimit)) (min (s.setting ixShiftLimit) x.2.1.demand) ∧
          x.2.1.excess = |x.2.1.demand - x.2.1.target| ∧ x.2.1.pan = false ∧ x.2.1.entry = 0)) ∧
    (s.stab.cause ≠ .none → completes (exec (.gyroSampleReceived u v) s) (fun t =>
      t.clock = max s.clock (g - us 500) ∧ onlyChanged [.clock, .stabilizer] s t ∧ t.stab.x = s.stab.x ∧
      t.stab.y = s.stab.y ∧ t.stab.state = s.stab.state ∧ t.stab.gyro = some (g + us 500))) ∧
    ∀ m, m = mapRates (s.setting ixOrientation) u.toInt v.toInt → s.stab.cause = .none →
      completes (exec (.gyroSampleReceived u v) s) (fun t =>
        t.clock = max s.clock (g - us 500) ∧ t.stab.gyro = some (g + us 500) ∧ t.stab.asked = false ∧
        t.stab.last = some { u := u.toInt, v := v.toInt, x := m.1, y := m.2 } ∧ t.stab.missed = 0 ∧
        (s.stab.rep1 < 254 → s.stab.rep2 < 254 →
          (s.stab.state = .active → t.stab.state = .active ∧ t.stab.orient = s.setting ixOrientation ∧
            s.axisTaken (s.oriented s.stab.x) t.stab.x m.1 s.stab.biasX ∧
            s.axisTaken (s.oriented s.stab.y) t.stab.y m.2 s.stab.biasY ∧
            (s.stab.backlog = 0 ∨ s.window = true → t.stab.backlog = s.stab.backlog ∧ t.stab.urgent = s.stab.urgent) ∧
            (0 < s.stab.backlog → s.window = false → t.stab.backlog = s.stab.backlog - 1 ∧
              t.stab.urgent = (s.stab.urgent && decide (s.stab.backlog ≠ 1)) ∧
              ∀ f, s.st.fip = some f → f.spanOpen = true → ∃ h, t.st.fip = some h ∧ h.flags.recentered = true) ∧
            (s.window = true → s.stab.resFlag = true →
              t.stab.rx = min 65535 (s.stab.rx + t.stab.x.excess.toNat) ∧
              t.stab.ry = min 65535 (s.stab.ry + t.stab.y.excess.toNat)) ∧
            (s.window = false ∨ s.stab.resFlag = false → t.stab.rx = s.stab.rx ∧ t.stab.ry = s.stab.ry)) ∧
          (s.stab.state = .parked → t.stab.state = .parked ∧
            s.panDetected (s.oriented s.stab.x) t.stab.x m.1 ∧ s.panDetected (s.oriented s.stab.y) t.stab.y m.2 ∧
            t.stab.x.theta = (s.oriented s.stab.x).theta ∧ t.stab.x.target = s.stab.x.target ∧
            t.stab.y.theta = (s.oriented s.stab.y).theta ∧ t.stab.y.target = s.stab.y.target) ∧
          (∀ z, s.stab.state = .calibrating → s.stab.last = some z → s.calTaken t z m.1 m.2)) ∧
        ∀ z r1 r2, s.stab.last = some z → r1 = (if z.u = u.toInt then s.stab.rep1 + 1 else 0) →
          r2 = (if z.v = v.toInt then s.stab.rep2 + 1 else 0) →
          (r1 < 255 → r2 < 255 → t.stab.cause = .none ∧ t.stab.rep1 = r1 ∧ t.stab.rep2 = r2) ∧
          (255 ≤ r1 ∨ 255 ≤ r2 →
            s.gyroFaulted t (if r1 < 255 then .stuckAxis2 else if r2 < 255 then .stuckAxis1 else .stuckBoth)))

/-- R113, R124, R130: the fourth missed sample in a row is a fault: cause Missing, GYRO_FAULT, the state Faulted, a calibration
aborted. A missed sample before it adds one to the count and changes no target; in Active a recenter step that is due is taken. The
next request goes out at once. Log 2: the clock moves to the event's moment. Log 13: the watch acts before the sample is used.
Log 26: while a fault is held nothing is counted, by inference. Log 11: when a request goes out. Log 21: outputs are those of the
step. -/
def Obligations.FourMissedSamplesAreAFault : Prop :=
  ∀ (s : State) (g : Nat), s.stab.gyro = some g →
    completes (exec .gyroSampleMissed s) (fun t =>
      t.clock = max s.clock g ∧ t.stab.gyro = some (g + us 500) ∧ t.stab.last = s.stab.last ∧
      onlyChanged [.clock, .statistics, .planner, .lens, .stabilizer, .events] s t ∧
      (s.stab.cause = .none → 4 ≤ s.stab.missed + 1 → t.stab.cause = .missing ∧ t.stab.state = .faulted ∧
        t.stab.missed = 0 ∧ t.occurred .gyroFault ∧ (∀ q, t.pends q .gyroFault) ∧
        (s.stab.state = .calibrating → t.stab.cal.status = .aborted ∧ t.occurred .biasCalEnded)) ∧
      (s.stab.cause = .none → s.stab.missed + 1 < 4 → s.stab.state ≠ .active →
        t.stab = { s.stab with missed := s.stab.missed + 1, gyro := some (g + us 500), asked := true } ∧
        Part.events.same s t) ∧
      (s.stab.cause = .none → s.stab.missed + 1 < 4 → t.stab.cause = .none ∧ t.stab.state = s.stab.state ∧
        t.stab.missed = s.stab.missed + 1 ∧ t.stab.x.target = s.stab.x.target ∧ t.stab.y.target = s.stab.y.target ∧
        t.outs = (if s.stab.asked then [] else [.gyroRequest]) ++
          [.shift (s.stab.state ≠ .off) s.stab.x.target s.stab.y.target, .gyroRequest]) ∧
      (s.stab.cause = .none → s.stab.missed + 1 < 4 → s.stab.state = .active →
        (0 < s.stab.backlog → s.window = false →
          t.stab.x = { s.stab.x with theta := s.stab.x.theta - s.stab.x.theta.tdiv 4 } ∧
          t.stab.y = { s.stab.y with theta := s.stab.y.theta - s.stab.y.theta.tdiv 4 } ∧
          t.stab.backlog = s.stab.backlog - 1 ∧ t.stab.urgent = (s.stab.urgent && decide (s.stab.backlog ≠ 1))) ∧
        (s.stab.backlog = 0 ∨ s.window = true →
          t.stab = { s.stab with missed := s.stab.missed + 1, gyro := some (g + us 500), asked := true })) ∧
      (s.stab.cause ≠ .none → s.stab.state ≠ .active →
        t.stab = { s.stab with gyro := some (g + us 500), asked := true }))

/-- R123, R125, R128: the recenter tick restarts its timer and, with the target above half the limit on an axis, adds to the
backlog, up to 3, where the urgent hold is set and RECENTER_URGENT raised. The calibration timeout ends in Done from MinMet,
with the mean of the run within half a unit as bias, and in Failed otherwise. Log 2: the clock moves to the event's moment. -/
def Obligations.TickAndCalibrationTimeoutTakePlace : Prop :=
  ∀ (s : State) (d : Nat),
    (s.stab.tick = some d → completes (exec .recenterTick s) (fun t =>
      t.clock = max s.clock d ∧ onlyChanged [.clock, .stabilizer, .events] s t ∧
      t.stab.tick = some (t.clock + ms (10 * s.settingNat ixRecenterPeriod)) ∧ t.stab.x = s.stab.x ∧ t.stab.y = s.stab.y ∧
      (|s.stab.x.target| ≤ s.setting ixShiftLimit / 2 → |s.stab.y.target| ≤ s.setting ixShiftLimit / 2 →
        t.stab.backlog = s.stab.backlog ∧ t.stab.urgent = s.stab.urgent ∧ Part.events.same s t) ∧
      (s.setting ixShiftLimit / 2 < |s.stab.x.target| ∨ s.setting ixShiftLimit / 2 < |s.stab.y.target| →
        t.stab.backlog = min 3 (s.stab.backlog + 1) ∧
        (s.stab.backlog = 2 → t.stab.urgent = true ∧ t.occurred .recenterUrgent) ∧
        (s.stab.backlog ≠ 2 → Part.events.same s t)))) ∧
    (s.stab.cal.limit = some d → completes (exec .calibrationTimeout s) (fun t =>
      t.clock = max s.clock d ∧ t.stab.cal.limit = none ∧ t.occurred .biasCalEnded ∧ t.stab.state = s.derivedState ∧
      onlyChanged [.clock, .statistics, .planner, .lens, .stabilizer, .events] s t ∧
      (s.stab.cal.status = .minMet → t.stab.cal.status = .done ∧ t.stab.cal.result = some (t.stab.biasX, t.stab.biasY) ∧
        (0 < s.stab.cal.count →
          2 * |t.stab.biasX * s.stab.cal.count - s.stab.cal.sumX * 16| ≤ s.stab.cal.count ∧
          2 * |t.stab.biasY * s.stab.cal.count - s.stab.cal.sumY * 16| ≤ s.stab.cal.count)) ∧
      (s.stab.cal.status ≠ .minMet → t.stab.cal.status = .failed ∧ t.stab.biasX = s.stab.biasX ∧
        t.stab.biasY = s.stab.biasY ∧ t.stab.cal.count = s.stab.cal.count)))

/-! ### Statistics Unit and Exposure Planner -/

/-- R39, R49: SET PATTERN writes all 35 weights of the named table, a weight above 15 as 15 with ADJUSTED; another number is
refused. AE LOCK sets the lock with source Command and AE UNLOCK clears it, Qraw staying; when the lock begins or ends the
planner runs: R50 to R58, Qraw clamped into a new Qreq, pmax, and both plans as the program in force gives them, with their caps,
credit, Over and Under; R59, the iris request for the capture plan's p. Log 36: with Support mode On the credit field is 0, by
inference. Log 21: outputs are those of the step. -/
def Obligations.PatternsAndTheLockTakeTheirValues : Prop :=
  ∀ (s : State) (p : Port),
    (∀ (n : Byte) (w : List Byte), w.length = 35 →
      (2 < n.toNat → answers (.setPattern p (n :: w)) s p .badArgument [] [] (fun t => t.outs = [])) ∧
      (n.toNat ≤ 2 →
        answers (.setPattern p (n :: w)) s p (if w.all (fun x => decide (x.toNat ≤ 15)) then .ok else .adjusted) []
          [.statistics] (fun t =>
            t.st = { s.st with patterns := s.st.patterns.set n.toNat (w.map (fun x => min x.toNat 15)) }))) ∧
    ∀ x ∈ [(Instr.aeLock p [], LockSource.command), (.aeUnlock p [], .none)],
      answers x.1 s p .ok [] [.statistics, .planner, .lens] (fun t =>
        t.ep.lock = x.2 ∧ t.ep.qraw = s.ep.qraw ∧ t.ep.fastStart = s.ep.fastStart ∧ t.ep.offset = s.ep.offset ∧
        ((s.ep.lock = .none ↔ x.2 = .none) → t.ep = { s.ep with lock := x.2 } ∧ onlyChanged [.transaction p, .planner] s t) ∧
        ((s.ep.lock = .none ↔ x.2 ≠ .none) → ∀ amin tlimit, s.ep.given = some (amin, tlimit) →
          s.plansMade t amin tlimit ∧ s.irisAsked t))

/-! ### Burst Store -/

/-- R150, R151, R141: OPEN DRAIN and OPEN REVIEW make their checks in order, and when all pass the stream opens from its
first offset with an empty FIFO, the slot Draining on the port or pinned once more; a store in SelfRefresh leaves it. A drain
of no bytes ends at once (R149). Log 21: outputs are those of the step. -/
def Obligations.StreamsOpenOnTheirSlots : Prop :=
  ∀ (s : State) (p : Port) (i : Byte) (a l : List Byte), a.length = 4 → l.length = 4 →
    (31 < i.toNat → answers (.openDrain p [i]) s p .badArgument [] [] (fun t => t.outs = [])) ∧
    (31 < i.toNat ∨ field l 0 4 = 0 →
      answers (.openReview p (i :: a ++ l)) s p .badArgument [] [] (fun t => t.outs = [])) ∧
    (i.toNat ≤ 31 → s.store.cut.get p = true →
      answers (.openDrain p [i]) s p .portCut [] [] (fun t => t.outs = []) ∧
      (field l 0 4 ≠ 0 → answers (.openReview p (i :: a ++ l)) s p .portCut [] [] (fun t => t.outs = []))) ∧
    (i.toNat ≤ 31 → s.store.cut.get p = false →
      ((s.store.streams.get p).isSome ∨ s.store.state = .initialising ∨ (s.store.slotAt i.toNat).state ≠ .full →
        answers (.openDrain p [i]) s p .wrongState [] [] (fun t => t.outs = [])) ∧
      (field l 0 4 ≠ 0 →
        (s.store.streams.get p).isSome ∨ s.store.state = .initialising ∨
          (s.store.slotAt i.toNat).state ∉ [.full, .draining, .spent] →
        answers (.openReview p (i :: a ++ l)) s p .wrongState [] [] (fun t => t.outs = []))) ∧
    ∀ x, s.store.slots[i.toNat]? = some x → i.toNat ≤ 31 → s.store.cut.get p = false → s.store.streams.get p = none →
      s.store.state ≠ .initialising →
      (x.state = .full → answers (.openDrain p [i]) s p .later [] [.store, .events] (fun t =>
        (0 < x.bytes → s.streamOpened t p { kind := .drain, slot := i.toNat, next := 0, endOff := x.bytes, stall := none }
          { x with state := .draining, drainPort := some p }) ∧
        (x.bytes = 0 → t.store.slotAt i.toNat = { x with state := .spent, drainPort := none } ∧
          t.store.streams.get p = none ∧ t.pends p .streamEnded ∧
          t.store.ends.get p = some { slot := i.toNat, kind := .drain, reason := .done }))) ∧
      (x.state ∈ [.full, .draining, .spent] → field l 0 4 ≠ 0 →
        (x.bytes ≤ field a 0 4 → answers (.openReview p (i :: a ++ l)) s p .badArgument [] [] (fun t => t.outs = [])) ∧
        (field a 0 4 < x.bytes →
          answers (.openReview p (i :: a ++ l)) s p (if field a 0 4 + field l 0 4 ≤ x.bytes then .later else .adjusted) []
            [.store] (fun t =>
              s.streamOpened t p
                { kind := .review, slot := i.toNat, next := field a 0 4, stall := none,
                  endOff := min (field a 0 4 + field l 0 4) x.bytes }
                { x with pins := x.pins + 1 })))

/-- R148, R149, R152, R153, R155: CLOSE STREAM and the stall limit close the port's stream, the one without an event, the
other with STREAM_CUT and the cut flag; without a stream CLOSE STREAM changes nothing; REJOIN clears the cut flag. A clock
edge of a stream output presents and removes the oldest byte of the FIFO, or presents valid clear when it is empty. The last
byte ends the stream with reason Done; before it the stall timer runs while less than 2 KiB of the 16 KiB are free. Log 2:
the clock moves to the event's moment. Log 21: outputs are those of the step. -/
def Obligations.StreamsAreClosedCutAndTaken : Prop :=
  (∀ (s : State) (p : Port),
     (s.store.streams.get p = none → answers (.closeStream p []) s p .ok [] [] (fun t => t.outs = [])) ∧
     answers (.rejoin p []) s p .ok [] [.store] (fun t => t.store = { s.store with cut := s.store.cut.set p false }) ∧
     ∀ x, s.store.streams.get p = some x →
       answers (.closeStream p []) s p .ok [] [.store] (fun t =>
         s.streamClosed t p x .closed .full ∧ t.store.cut = s.store.cut ∧
         ∀ g, s.store.grant = some g → g.who = .stream p → t.store.grant = some { g with discard := true }) ∧
       ∀ d, x.stall = some d → completes (exec (.stallLimitExpiry p) s) (fun t =>
         t.clock = max s.clock (d + ms (s.settingNat ixStallLimit)) ∧ s.streamClosed t p x .cut .full ∧
         t.store.cut = s.store.cut.set p true ∧ t.pends p .streamCut ∧ t.occurred .streamCut ∧
         (∀ q, q ≠ p → t.links.pend.get q = s.links.pend.get q) ∧ onlyChanged [.clock, .store, .events] s t)) ∧
  (∀ (s : State) (p : Port),
     (s.store.fifos.get p = [] → completes (exec (.streamByte p) s) (fun t =>
       t.outs = [.stream p none] ∧ onlyChanged [] s t)) ∧
     ∀ v rest x, s.store.fifos.get p = v :: rest → s.store.streams.get p = some x →
       completes (exec (.streamByte p) s) (fun t =>
         t.outs = [.stream p (some v)] ∧ onlyChanged [.store, .events] s t ∧ t.store.cut = s.store.cut ∧
         (rest = [] → x.next = x.endOff →
           s.streamClosed t p x .done .spent ∧ t.pends p .streamEnded ∧ t.occurred .streamEnded ∧
           ∀ q, q ≠ p → t.links.pend.get q = s.links.pend.get q) ∧
         (rest ≠ [] ∨ x.next ≠ x.endOff →
           t.store.fifos.get p = rest ∧ t.store.slots = s.store.slots ∧ Part.events.same s t ∧
           t.store.streams.get p =
             some { x with stall := if 14336 < rest.length then some (x.stall.getD s.clock) else none })))

/-- R154, R156, R168, R170: RELEASE SLOT discards the frame of a Full, Draining or Spent slot: its record is withdrawn, and
the slot is Free without pins, else Releasing; the drain of a Draining slot ends with reason Released. Other slots and
numbers are refused. CLEAR STORE frees every slot that is not Filling and not Free, withdraws their records and ends their
streams with reason Cleared; it raises STORE_CLEARED_UNREAD if one of them was Full; with every slot Free or Filling it
changes nothing. The premise, 32 slots (R142), is kept by every step (EveryStepKeepsTheStoreSound). Log 21: outputs are those
of the step. -/
def Obligations.SlotsAreReleasedAndCleared : Prop :=
  (∀ (s : State) (p : Port) (i : Byte),
     (31 < i.toNat → answers (.releaseSlot p [i]) s p .badArgument [] [] (fun t => t.outs = [])) ∧
     (i.toNat ≤ 31 → (s.store.slotAt i.toNat).state ∈ [.free, .filling, .releasing] →
       answers (.releaseSlot p [i]) s p .wrongState [] [] (fun t => t.outs = [])) ∧
     ∀ x, s.store.slots[i.toNat]? = some x → i.toNat ≤ 31 → x.state ∈ [.full, .draining, .spent] →
       answers (.releaseSlot p [i]) s p .ok [] [.store, .records, .events] (fun t =>
         t.rq.queue = s.rq.queue.filter (fun r => r.slot ≠ i.toNat) ∧
         t.rq.stale = (if t.rq.queue = [] then none else s.rq.stale) ∧
         (x.state ≠ .draining → Part.events.same s t ∧ t.store.streams = s.store.streams ∧
           t.store.slotAt i.toNat = (if x.pins = 0 then Slot.freed else { x with state := .releasing, drainPort := none }) ∧
           ∀ j, j ≠ i.toNat → t.store.slotAt j = s.store.slotAt j) ∧
         ∀ q y, x.state = .draining → x.drainPort = some q → s.store.streams.get q = some y → y.kind = .drain →
           y.slot = i.toNat →
           t.store.slotAt i.toNat = (if x.pins = 0 then Slot.freed else { x with state := .releasing, drainPort := none }) ∧
           (∀ j, j ≠ i.toNat → t.store.slotAt j = s.store.slotAt j) ∧ t.store.streams.get q = none ∧
           t.store.fifos.get q = [] ∧ t.store.ends.get q = some { slot := i.toNat, kind := .drain, reason := .released } ∧
           t.pends q .streamEnded ∧ t.occurred .streamEnded)) ∧
  (∀ (s : State) (p : Port), s.store.slots.length = 32 →
     ((∀ x ∈ s.store.slots, x.state = .free ∨ x.state = .filling) →
       answers (.clearStore p []) s p .ok [] [] (fun t => t.outs = [])) ∧
     answers (.clearStore p []) s p .ok [] [.store, .records, .events] (fun t =>
       (∀ (i : Nat) (x : Slot), s.store.slots[i]? = some x →
         t.store.slots[i]? = some (if x.state = .free ∨ x.state = .filling then x else Slot.freed)) ∧
       t.rq.queue = s.rq.queue.filter (fun r =>
         (s.store.slotAt r.slot).state = .free || (s.store.slotAt r.slot).state = .filling) ∧
       (∀ q y, s.store.streams.get q = some y →
         ((s.store.slotAt y.slot).state ∉ [.free, .filling] →
           t.store.streams.get q = none ∧ t.store.fifos.get q = [] ∧ t.pends q .streamEnded ∧
           t.store.ends.get q = some { slot := y.slot, kind := y.kind, reason := .cleared }) ∧
         ((s.store.slotAt y.slot).state ∈ [.free, .filling] →
           t.store.streams.get q = some y ∧ t.store.fifos.get q = s.store.fifos.get q)) ∧
       ((∃ x ∈ s.store.slots, x.state = .full) → t.occurred .storeClearedUnread ∧ ∀ q, t.pends q .storeClearedUnread) ∧
       ((∀ x ∈ s.store.slots, x.state ≠ .full) → s.store.streams = PerPort.all none → Part.events.same s t) ∧
       t.store.buf = s.store.buf ∧ t.store.cut = s.store.cut ∧ t.store.backlog = s.store.backlog))

/-- R137, R138, R139, R141, R146: the end of the start-up sequence makes the store Ready with backlog 3, the urgent flag set
and the trickle counter started; an expiry of that counter adds one, saturating at 3, and restarts it; after the 1 µs of the
wake-up the DRAM is free. Refresh is granted for 350 ns where the DRAM is free, the urgent flag set and the ingest buffer
below half. R140: in STILL, with no stream open, no slot Filling, the buffer empty, the backlog 0 and no grant in progress, the store
enters SelfRefresh and the trickle counter stops. Log 2: the clock moves to the event's moment. -/
def Obligations.RefreshIsOwedAndGranted : Prop :=
  ∀ (s : State) (d : Nat),
    (s.store.startup = some d → completes (exec .storeStartupEnd s) (fun t =>
      t.clock = max s.clock d ∧ onlyChanged [.clock, .store] s t ∧ t.store.state = .ready ∧ t.store.startup = none ∧
      t.store.backlog = 3 ∧ t.store.urgent = true ∧ t.store.slots = s.store.slots ∧ t.store.buf = s.store.buf ∧
      t.store.trickle = some (t.clock + 10 * s.settingNat ixRefreshPeriod) ∧
      (s.store.grant = none → s.store.wake = none → s.store.buf.length < 32768 →
        t.store.grant = some { who := .refresh, bytes := 0, endAt := t.clock + 35, discard := false }))) ∧
    (s.store.trickle = some d → completes (exec .trickleExpiry s) (fun t =>
      t.clock = max s.clock d ∧ onlyChanged [.clock, .store] s t ∧ t.store.state = s.store.state ∧
      t.store.backlog = min 3 (s.store.backlog + 1) ∧ t.store.urgent = (s.store.urgent || decide (2 ≤ s.store.backlog)) ∧
      t.store.slots = s.store.slots ∧ t.store.buf = s.store.buf ∧ t.store.streams = s.store.streams ∧
      t.store.trickle = some (t.clock + 10 * s.settingNat ixRefreshPeriod))) ∧
    (s.store.wake = some d → completes (exec .dramWake s) (fun t =>
      t.clock = max s.clock d ∧ onlyChanged [.clock, .store] s t ∧ t.store.wake = none ∧
      t.store.backlog = s.store.backlog ∧ t.store.slots = s.store.slots ∧ t.store.buf = s.store.buf ∧
      (s.store.state = .ready → s.store.grant = none → s.store.urgent = true → s.store.buf.length < 32768 →
        t.store.grant = some { who := .refresh, bytes := 0, endAt := t.clock + 35, discard := false }))) ∧
    (s.fc.quiet2 = some d → s.fc.cadence = .liveSlow → s.store.state = .ready → s.store.streams = PerPort.all none →
      (∀ x ∈ s.store.slots, x.state ≠ .filling) → s.store.buf = [] → s.store.remnant = 0 → s.store.backlog = 0 →
      s.store.urgent = false → s.store.grant = none → s.store.wake = none → completes (exec .quietTimer2Expiry s) (fun t =>
        t.store = { s.store with state := .selfRefresh, trickle := none }))

/-- R144, R145, R146, R138, R139: a data grant of ingest writes the oldest bytes of the buffer where they are bound for,
every other DRAM byte staying; a stream's grant adds the slot's bytes from the next offset to its FIFO, unless it is
discarded; a refresh takes one from the backlog. The next grant is chosen: R146, R147, ingest at half buffer before an urgent refresh, which leave the ring
pointers, then the first request of the rings, each going round from its pointer, then an idle refresh. R140: in
STILL the end of the last work owed brings SelfRefresh, unless a stream is open or a slot Filling.
Log 2: the clock moves to the event's moment. Log 24: ingest bytes move at the end of their grant. -/
def Obligations.GrantEndMovesTheData : Prop :=
  ∀ (s : State) (g : Grant), s.store.grant = some g →
    completes (exec .grantEnd s) (fun t =>
      t.clock = max s.clock g.endAt ∧ onlyChanged [.clock, .store, .memory] s t ∧ t.store.slots = s.store.slots ∧
      (s.store.state = .ready → s.store.wake = none → s.fc.cadence = .still → s.store.streams = PerPort.all none →
        (∀ x ∈ s.store.slots, x.state ≠ .filling) → t.store.buf = [] → t.store.remnant = 0 → t.store.backlog = 0 →
        t.store.urgent = false →
        t.store.state = .selfRefresh ∧ t.store.trickle = none ∧ t.store.grant = none) ∧
      (s.fc.cadence ≠ .still ∨ t.store.streams ≠ PerPort.all none ∨ (∃ x ∈ s.store.slots, x.state = .filling) ∨
        t.store.buf ≠ [] ∨ t.store.backlog ≠ 0 → t.store.state = s.store.state ∧ t.store.trickle = s.store.trickle) ∧
      t.store.cut = s.store.cut ∧
      (g.who = .ingest → t.store.buf = s.store.buf.drop g.bytes ∧ t.store.remnant = s.store.remnant - g.bytes ∧
        t.store.streams = s.store.streams ∧ t.store.fifos = s.store.fifos ∧ t.store.backlog = s.store.backlog ∧
        (∀ a, (∀ x ∈ s.store.buf.take g.bytes, x.1 ≠ a) → t.dramByte a = s.dramByte a) ∧
        ∀ before x after, s.store.buf.take g.bytes = before ++ x :: after → x.1 < 2 ^ 30 → (∀ y ∈ after, y.1 ≠ x.1) →
          t.dramByte x.1 = x.2) ∧
      (g.who = .refresh → t.store.backlog = s.store.backlog - 1 ∧
        t.store.urgent = (s.store.urgent && decide (2 ≤ s.store.backlog)) ∧ Part.memory.same s t ∧
        t.store.buf = s.store.buf ∧ t.store.streams = s.store.streams ∧ t.store.fifos = s.store.fifos) ∧
      (∀ p, g.who = .stream p → Part.memory.same s t ∧ t.store.buf = s.store.buf ∧ t.store.backlog = s.store.backlog ∧
        (∀ q, q ≠ p → t.store.streams.get q = s.store.streams.get q ∧ t.store.fifos.get q = s.store.fifos.get q) ∧
        (g.discard = true → t.store.streams = s.store.streams ∧ t.store.fifos = s.store.fifos) ∧
        (g.discard = false → ∀ x, s.store.streams.get p = some x → ∃ l : List Byte, l.length = g.bytes ∧
          (∀ k, k < g.bytes → l[k]? = some (s.dramByte (x.slot * 2 ^ 25 + x.next + k))) ∧
          t.store.fifos.get p = s.store.fifos.get p ++ l ∧
          t.store.streams.get p = some { x with
            next := x.next + g.bytes,
            stall := if 14336 < (t.store.fifos.get p).length then some (x.stall.getD t.clock) else none })) ∧
      (t.store.state = .ready → s.store.wake = none →
        (32768 ≤ t.store.buf.length → t.store.ring1 = s.store.ring1 ∧ t.store.ring2 = s.store.ring2 ∧ t.store.grant =
          some { who := .ingest, bytes := 2048, endAt := t.clock + 16, discard := false }) ∧
        (t.store.buf.length < 32768 → t.store.urgent = true →
          t.store.ring1 = s.store.ring1 ∧ t.store.ring2 = s.store.ring2 ∧ t.store.grant =
            some { who := .refresh, bytes := 0, endAt := t.clock + 35, discard := false }) ∧
        (t.store.buf.length < 32768 → t.store.urgent = false → s.ringGranted t)))

/-! ### Table Loader and soft reset -/

/-- R190, R192, R193, R195: RELOAD TABLE starts a load in Stowed with the load state Idle, and is refused elsewhere. At the
end of a load the image is adopted whole when every check passes, else the default table, with TABLE_BAD; the table is given
to Lens Drive, which begins homing at the first load. Log 2: the clock moves to the event's moment. Log 21: outputs are those
of the step. -/
def Obligations.TablesAreLoadedAndAdopted : Prop :=
  ∀ s : State,
    (∀ p, (s.lens.state = .stowed ∧ s.loader.loading = none →
        answers (.reloadTable p []) s p .later [] [.loader] (fun t =>
          t.loader = { s.loader with loading := some (s.clock + 26368) } ∧ t.outs = [.flashRead])) ∧
      (s.lens.state ≠ .stowed ∨ s.loader.loading.isSome →
        answers (.reloadTable p []) s p .wrongState [] [] (fun t => t.outs = []))) ∧
    ∀ (d : Nat) (image : List Byte), s.loader.loading = some d → image.length = 408 →
      completes (exec (.tableLoadEnd image) s) (fun t =>
        t.clock = max s.clock d ∧ t.loader.loading = none ∧ t.lens.state = s.lens.state ∧
        (imagePasses image → t.loader.source = .flash ∧ t.loader.result = .passed ∧ Part.events.same s t ∧
          t.loader.table.ident = field image 0 2 ∧ t.loader.table.revision = field image 4 2 ∧
          t.loader.table.zwide = field image 6 2 ∧ t.loader.table.park = field image 8 2 ∧
          ∀ k, k < 33 → t.loader.table.knots[k]? = some
            { amin := field image (10 + 12 * k) 2, tlimit := field image (12 + 12 * k) 2,
              inf := field image (14 + 12 * k) 2, near := field image (16 + 12 * k) 2,
              gain := field image (18 + 12 * k) 2, focal := field image (20 + 12 * k) 2 }) ∧
        (¬ imagePasses image → t.loader.source = .default ∧ t.loader.result ≠ .passed ∧ t.loader.table = defaultTable ∧
          t.occurred .tableBad ∧ (∀ q, t.pends q .tableBad) ∧
          ((crcOf (image.take 406)).toNat ≠ field image 406 2 → t.loader.result = .crcMismatch)) ∧
        t.lens.iv = valuesAt t.loader.table s.lens.zoom.pos ∧ t.stab.gain = t.lens.iv.gain ∧
        t.ep.given = some (t.lens.iv.amin, t.lens.iv.tlimit) ∧
        (s.lens.drive ≠ .homeWait → t.lens.drive = s.lens.drive ∧ t.lens.focus = s.lens.focus ∧ t.lens.zoom = s.lens.zoom) ∧
        (s.lens.drive = .homeWait → t.lens.drive = .homeStop 1100 8 ∧ t.lens.focus.inFlight = true ∧
          t.lens.focus.stepAt = some (t.clock + us 250) ∧ t.lens.iris.inFlight = true ∧
          t.lens.iris.stepAt = some (t.clock + us 8000)) ∧
        onlyChanged [.clock, .statistics, .planner, .lens, .stabilizer, .loader, .events] s t)

/-- R182, R26, R41, R65, R87, R108, R133, R158, R172: SOFT RESET replies OK in every state, and every block acts as its chapter says: of a
lens in Ready, Extending or Retracting every move stops, an iris move then following only where the planner's run asks for it (R59), and
the bytes of a Filling slot leave the ingest buffer, a remnant staying; the settings, the counts of frames and captures, the masks, the
occurrence set, the tables, the DRAM and the load stay. In Ready the iris clause, that after the stop the planner's run asks for p anew,
is an inference (log 22): Lens Drive acts before the planner, an order that R182, R87 and R65 do not give. Log 21: outputs are those of
the step. Log 49: a span of Frame Control ends exactly its length after its start, the model's choice. -/
def Obligations.SoftResetClearsTheBlocks : Prop :=
  ∀ (s : State) (p : Port),
    answers (.softReset p []) s p .ok []
      [.frames, .statistics, .planner, .lens, .focus, .stabilizer, .store, .records, .events] (fun t =>
        (t.links.pend = PerPort.all 0 ∧ t.links.line = PerPort.all false ∧ t.links.mask = s.links.mask ∧
          t.links.occ = s.links.occ) ∧
        (t.fc.state = (if s.lens.state = .ready then .live else .idle) ∧ t.fc.fseq = s.fc.fseq ∧ t.fc.capNo = s.fc.capNo ∧
          t.fc.inEffect = s.fc.inEffect ∧ t.fc.owed = 0 ∧ t.fc.continuous = false ∧ t.fc.burstCount = 0 ∧
          t.fc.prepare = PerPort.all false ∧ t.fc.cadence = .liveFast ∧ t.fc.frame = none ∧ t.fc.cap = none ∧
          t.fc.quiet2 = none ∧
          t.fc.quiet1 = (if s.fc.started then some (s.clock + sec (s.settingNat ixQuietTime1)) else none) ∧
          (s.inFlight = false → t.fc.settle = s.fc.settle ∧ t.fc.shutter = s.fc.shutter) ∧
          ∀ c, s.inFlight = true → s.fc.cap = some c → 0 < c.travel → c.closed = none → s.fc.shutter = .opened →
            Output.closeShutter ∈ t.outs ∧ t.fc.shutter = .closing ∧ t.fc.reopenAt = some (s.clock + c.travel)) ∧
        (t.st.last = none ∧ t.st.fip = none ∧ t.st.active = Bank.cleared ∧ t.st.completed = Bank.cleared ∧
          t.st.patterns = s.st.patterns) ∧
        (t.ep.lock = .none ∧ t.ep.penalty = false ∧ t.ep.qraw = s.ep.qraw ∧ t.ep.offset = s.ep.offset ∧
          (s.lens.state = .ready → t.ep.fastStart = true)) ∧
        (t.lens.d = s.lens.d ∧ t.lens.iv = s.lens.iv ∧ t.lens.cause = s.lens.cause ∧ t.lens.slip = s.lens.slip ∧
          t.lens.iris.pos = s.lens.iris.pos ∧
          (s.lens.state = .ready → t.lens.iris.pending = none ∧
            (∀ p, p = t.ep.capPlan.p → 0 ≤ p → p ≤ t.lens.pmax → s.ep.given.isSome → s.lens.iris.pos ≠ some p →
              t.lens.iris.target = some p ∧ t.lens.iris.inFlight = true ∧ t.lens.iris.origin = .planner) ∧
            (s.ep.given = none ∨ s.lens.iris.pos = some t.ep.capPlan.p →
              t.lens.iris = { s.lens.iris with target := s.lens.iris.pos, inFlight := false, pending := none, stepAt := none })) ∧
          (s.lens.state = .extending ∨ s.lens.state = .retracting →
            t.lens.iris = { s.lens.iris with target := s.lens.iris.pos, inFlight := false, pending := none, stepAt := none }) ∧
          (s.lens.state = .ready ∨ s.lens.state = .extending ∨ s.lens.state = .retracting →
            t.lens.zoom = { s.lens.zoom with target := s.lens.zoom.pos, inFlight := false, pending := none, stepAt := none } ∧
            t.lens.focus =
              { s.lens.focus with target := s.lens.focus.pos, inFlight := false, pending := none, stepAt := none } ∧
            t.lens.state = if s.lens.state = .ready then .ready else .intermediate) ∧
          (s.lens.state ∈ [.homing, .stowed, .intermediate, .faulted] →
            t.lens.state = s.lens.state ∧ t.lens.zoom = s.lens.zoom ∧ t.lens.focus = s.lens.focus ∧
              t.lens.iris = s.lens.iris)) ∧
        (t.af.state = .idle ∧ t.af.result = s.af.result ∧ t.af.flock = s.af.flock ∧ t.af.log = s.af.log ∧
          t.af.origin = s.af.origin ∧ t.af.peak = s.af.peak ∧ t.af.best = s.af.best ∧ t.af.low = 0) ∧
        (t.stab.x = ShiftAxis.zero ∧ t.stab.y = ShiftAxis.zero ∧ t.stab.backlog = 0 ∧ t.stab.urgent = false ∧
          t.stab.resFlag = false ∧ t.stab.cause = s.stab.cause ∧ t.stab.biasX = s.stab.biasX ∧
          t.stab.biasY = s.stab.biasY ∧ t.stab.grade = s.stab.grade ∧ t.stab.gyro.isSome ∧
          t.stab.state = (if s.stab.cause = .none then t.derivedState else .faulted) ∧
          (s.stab.state = .calibrating → t.stab.cal = { s.stab.cal with status := .aborted, limit := none })) ∧
        (t.store.streams = PerPort.all none ∧ t.store.fifos = PerPort.all [] ∧ t.store.cut = PerPort.all false ∧
          t.store.ring2 = .a ∧ (s.store.grant.isSome → t.store.ring1 = .ingest) ∧
          (s.store.state ≠ .selfRefresh → t.store.state = s.store.state ∧ t.store.backlog = s.store.backlog ∧
            t.store.trickle = s.store.trickle) ∧
          (s.store.state = .selfRefresh → t.store.state = .ready ∧ t.store.backlog = 3) ∧
          ((∀ x ∈ s.store.slots, x.state ≠ .filling) → t.store.buf = s.store.buf) ∧
          ((∃ x ∈ s.store.slots, x.state = .filling) → t.store.buf = s.store.buf.take s.store.remnant) ∧
          (∀ i, s.store.firstSlot .filling = some i → (∀ x ∈ s.store.buf.take s.store.remnant, x.1 / 2 ^ 25 ≠ i) →
            (∀ x ∈ s.store.buf.drop s.store.remnant, x.1 / 2 ^ 25 = i) →
            t.store.buf = s.store.buf.filter (fun x => x.1 / 2 ^ 25 ≠ i)) ∧
          ∀ (i : Nat) (x : Slot), s.store.slots[i]? = some x →
            t.store.slots[i]? = some (match x.state with
              | .filling => Slot.freed
              | .releasing => Slot.freed
              | .draining => { x with state := .full, drainPort := none, pins := 0 }
              | _ => { x with pins := 0 })) ∧
        (t.rq.queue = s.rq.queue ∧ t.rq.opened = (if s.inFlight then none else s.rq.opened) ∧
          t.rq.stale = if 0 < s.rq.queue.length ∧ s.rq.queue.length < s.settingNat ixReadyThreshold
            then some (s.clock + ms (10 * s.settingNat ixStaleTime)) else none))

/-! ### What every step keeps -/

/-- The state after power-on is safe: the attention lines follow the sets, the settings are legal, the store is sound, and every bank,
table and count lies in its range (R178, R184, R188, R140, R142, R159). -/
def Obligations.PowerOnStateIsSafe : Prop := State.reset.safe

/-- R184, R178, R28, R32: every step keeps each attention line active exactly while its port's pending set and mask have a kind in
common, and keeps every setting legal, the AF window within the frame. -/
def Obligations.EveryStepKeepsLinesAndSettings : Prop :=
  ∀ s t : State, step s = .next t →
    (s.linesFollow → t.linesFollow) ∧ (settingsLegal s.settings → settingsLegal t.settings)

/-- R138, R140, R142, R135: every step keeps the store sound: 32 slots, the refresh backlog in 0..3, SelfRefresh only with no slot
Filling and no stream open, and the DRAM contents in canonical form. -/
def Obligations.EveryStepKeepsTheStoreSound : Prop := ∀ s t : State, step s = .next t → s.storeSound → t.storeSound

/-- R3, R14, R31, R33, R39, R71, R106, R118, R123: every step keeps the counts within their limits and each statistics bank at 35 zones
and nine feature counts. -/
def Obligations.EveryStepKeepsCountsAndBanks : Prop := ∀ s t : State, step s = .next t → s.countsOk → t.countsOk
end

