-- ==== Sys2Proof/Laws/State.lean ====
section
/-! SUPPORT. State: what each plain update leaves as it is, field by field. -/

namespace Sys2Proof.Machine

@[simp] theorem State.begin_frame (s : State) :
    s.begin.pending = s.pending ∧ s.begin.clock = s.clock ∧ s.begin.settings = s.settings ∧ s.begin.fc = s.fc ∧
    s.begin.st = s.st ∧ s.begin.ep = s.ep ∧ s.begin.lens = s.lens ∧ s.begin.af = s.af ∧ s.begin.stab = s.stab ∧
    s.begin.store = s.store ∧ s.begin.rq = s.rq ∧ s.begin.links = s.links ∧ s.begin.loader = s.loader ∧
    s.begin.epoch = s.epoch ∧ s.begin.free = s.free := by
  simp [State.begin]

@[simp] theorem State.reach_frame (s : State) (t : Nat) :
    (s.reach t).pending = s.pending ∧ (s.reach t).settings = s.settings ∧ (s.reach t).fc = s.fc ∧
    (s.reach t).st = s.st ∧ (s.reach t).ep = s.ep ∧ (s.reach t).lens = s.lens ∧ (s.reach t).af = s.af ∧
    (s.reach t).stab = s.stab ∧ (s.reach t).store = s.store ∧ (s.reach t).rq = s.rq ∧ (s.reach t).links = s.links ∧
    (s.reach t).loader = s.loader ∧ (s.reach t).epoch = s.epoch ∧ (s.reach t).free = s.free ∧
    (s.reach t).outs = s.outs := by
  simp [State.reach]

@[simp] theorem State.put_frame (s : State) (o : Output) :
    (s.put o).pending = s.pending ∧ (s.put o).clock = s.clock ∧ (s.put o).settings = s.settings ∧
    (s.put o).fc = s.fc ∧ (s.put o).st = s.st ∧ (s.put o).ep = s.ep ∧ (s.put o).lens = s.lens ∧ (s.put o).af = s.af ∧
    (s.put o).stab = s.stab ∧ (s.put o).store = s.store ∧ (s.put o).rq = s.rq ∧ (s.put o).links = s.links ∧
    (s.put o).loader = s.loader ∧ (s.put o).epoch = s.epoch ∧ (s.put o).free = s.free := by
  simp [State.put]

@[simp] theorem State.chosen_frame (s : State) :
    s.chosen.pending = s.pending ∧ s.chosen.clock = s.clock ∧ s.chosen.settings = s.settings ∧ s.chosen.fc = s.fc ∧
    s.chosen.st = s.st ∧ s.chosen.ep = s.ep ∧ s.chosen.lens = s.lens ∧ s.chosen.af = s.af ∧ s.chosen.stab = s.stab ∧
    s.chosen.store = s.store ∧ s.chosen.rq = s.rq ∧ s.chosen.links = s.links ∧ s.chosen.loader = s.loader ∧
    s.chosen.epoch = s.epoch ∧ s.chosen.outs = s.outs := by
  simp [State.chosen]

@[simp] theorem State.raise_frame (s : State) (k : Kind) :
    (s.raise k).pending = s.pending ∧ (s.raise k).clock = s.clock ∧ (s.raise k).settings = s.settings ∧
    (s.raise k).fc = s.fc ∧ (s.raise k).st = s.st ∧ (s.raise k).ep = s.ep ∧ (s.raise k).lens = s.lens ∧
    (s.raise k).af = s.af ∧ (s.raise k).stab = s.stab ∧ (s.raise k).store = s.store ∧ (s.raise k).rq = s.rq ∧
    (s.raise k).loader = s.loader ∧ (s.raise k).epoch = s.epoch ∧ (s.raise k).free = s.free ∧
    (s.raise k).outs = s.outs := by
  simp [State.raise]

@[simp] theorem State.raiseTo_frame (s : State) (p : Port) (k : Kind) :
    (s.raiseTo p k).pending = s.pending ∧ (s.raiseTo p k).clock = s.clock ∧ (s.raiseTo p k).settings = s.settings ∧
    (s.raiseTo p k).fc = s.fc ∧ (s.raiseTo p k).st = s.st ∧ (s.raiseTo p k).ep = s.ep ∧
    (s.raiseTo p k).lens = s.lens ∧ (s.raiseTo p k).af = s.af ∧ (s.raiseTo p k).stab = s.stab ∧
    (s.raiseTo p k).store = s.store ∧ (s.raiseTo p k).rq = s.rq ∧ (s.raiseTo p k).loader = s.loader ∧
    (s.raiseTo p k).epoch = s.epoch ∧ (s.raiseTo p k).free = s.free ∧ (s.raiseTo p k).outs = s.outs := by
  simp [State.raiseTo]

@[simp] theorem State.prepareReply_frame (s : State) (p : Port) (r : Reply) :
    (s.prepareReply p r).pending = s.pending ∧ (s.prepareReply p r).clock = s.clock ∧
    (s.prepareReply p r).settings = s.settings ∧ (s.prepareReply p r).fc = s.fc ∧ (s.prepareReply p r).st = s.st ∧
    (s.prepareReply p r).ep = s.ep ∧ (s.prepareReply p r).lens = s.lens ∧ (s.prepareReply p r).af = s.af ∧
    (s.prepareReply p r).stab = s.stab ∧ (s.prepareReply p r).store = s.store ∧ (s.prepareReply p r).rq = s.rq ∧
    (s.prepareReply p r).loader = s.loader ∧ (s.prepareReply p r).epoch = s.epoch ∧
    (s.prepareReply p r).free = s.free ∧ (s.prepareReply p r).outs = s.outs := by
  simp [State.prepareReply]

@[simp] theorem State.onFrame_frame (s : State) (f : FrameInProgress → FrameInProgress) :
    (s.onFrame f).pending = s.pending ∧ (s.onFrame f).clock = s.clock ∧ (s.onFrame f).settings = s.settings ∧
    (s.onFrame f).fc = s.fc ∧ (s.onFrame f).ep = s.ep ∧ (s.onFrame f).lens = s.lens ∧ (s.onFrame f).af = s.af ∧
    (s.onFrame f).stab = s.stab ∧ (s.onFrame f).store = s.store ∧ (s.onFrame f).rq = s.rq ∧
    (s.onFrame f).links = s.links ∧ (s.onFrame f).loader = s.loader ∧ (s.onFrame f).epoch = s.epoch ∧
    (s.onFrame f).free = s.free ∧ (s.onFrame f).outs = s.outs := by
  simp [State.onFrame]

@[simp] theorem State.setAct_frame (s : State) (which : Actuator) (r : ActRecord) :
    (s.setAct which r).pending = s.pending ∧ (s.setAct which r).clock = s.clock ∧
    (s.setAct which r).settings = s.settings ∧ (s.setAct which r).fc = s.fc ∧ (s.setAct which r).st = s.st ∧
    (s.setAct which r).ep = s.ep ∧ (s.setAct which r).af = s.af ∧ (s.setAct which r).stab = s.stab ∧
    (s.setAct which r).store = s.store ∧ (s.setAct which r).rq = s.rq ∧ (s.setAct which r).links = s.links ∧
    (s.setAct which r).loader = s.loader ∧ (s.setAct which r).epoch = s.epoch ∧ (s.setAct which r).free = s.free ∧
    (s.setAct which r).outs = s.outs := by
  unfold State.setAct; (repeat' split) <;> simp

@[simp] theorem State.setDistance_frame (s : State) (pos : Int) :
    (s.setDistance pos).pending = s.pending ∧ (s.setDistance pos).clock = s.clock ∧
    (s.setDistance pos).settings = s.settings ∧ (s.setDistance pos).fc = s.fc ∧ (s.setDistance pos).st = s.st ∧
    (s.setDistance pos).ep = s.ep ∧ (s.setDistance pos).af = s.af ∧ (s.setDistance pos).stab = s.stab ∧
    (s.setDistance pos).store = s.store ∧ (s.setDistance pos).rq = s.rq ∧ (s.setDistance pos).links = s.links ∧
    (s.setDistance pos).loader = s.loader ∧ (s.setDistance pos).epoch = s.epoch ∧ (s.setDistance pos).free = s.free ∧
    (s.setDistance pos).outs = s.outs := by
  simp [State.setDistance]

@[simp] theorem State.setDistance32_frame (s : State) :
    s.setDistance32.pending = s.pending ∧ s.setDistance32.clock = s.clock ∧ s.setDistance32.settings = s.settings ∧
    s.setDistance32.fc = s.fc ∧ s.setDistance32.st = s.st ∧ s.setDistance32.ep = s.ep ∧ s.setDistance32.af = s.af ∧
    s.setDistance32.stab = s.stab ∧ s.setDistance32.store = s.store ∧ s.setDistance32.rq = s.rq ∧
    s.setDistance32.links = s.links ∧ s.setDistance32.loader = s.loader ∧ s.setDistance32.epoch = s.epoch ∧
    s.setDistance32.free = s.free ∧ s.setDistance32.outs = s.outs := by
  simp [State.setDistance32]

@[simp] theorem State.withAf_frame (s : State) (f : FocusSearch → FocusSearch) :
    (s.withAf f).pending = s.pending ∧ (s.withAf f).clock = s.clock ∧ (s.withAf f).settings = s.settings ∧
    (s.withAf f).fc = s.fc ∧ (s.withAf f).st = s.st ∧ (s.withAf f).ep = s.ep ∧ (s.withAf f).lens = s.lens ∧
    (s.withAf f).stab = s.stab ∧ (s.withAf f).store = s.store ∧ (s.withAf f).rq = s.rq ∧
    (s.withAf f).links = s.links ∧ (s.withAf f).loader = s.loader ∧ (s.withAf f).epoch = s.epoch ∧
    (s.withAf f).free = s.free ∧ (s.withAf f).outs = s.outs := by
  simp [State.withAf]

@[simp] theorem State.withStab_frame (s : State) (f : Stabilizer → Stabilizer) :
    (s.withStab f).pending = s.pending ∧ (s.withStab f).clock = s.clock ∧ (s.withStab f).settings = s.settings ∧
    (s.withStab f).fc = s.fc ∧ (s.withStab f).st = s.st ∧ (s.withStab f).ep = s.ep ∧ (s.withStab f).lens = s.lens ∧
    (s.withStab f).af = s.af ∧ (s.withStab f).store = s.store ∧ (s.withStab f).rq = s.rq ∧
    (s.withStab f).links = s.links ∧ (s.withStab f).loader = s.loader ∧ (s.withStab f).epoch = s.epoch ∧
    (s.withStab f).free = s.free ∧ (s.withStab f).outs = s.outs := by
  simp [State.withStab]

@[simp] theorem State.withRq_frame (s : State) (f : RecordQueue → RecordQueue) :
    (s.withRq f).pending = s.pending ∧ (s.withRq f).clock = s.clock ∧ (s.withRq f).settings = s.settings ∧
    (s.withRq f).fc = s.fc ∧ (s.withRq f).st = s.st ∧ (s.withRq f).ep = s.ep ∧ (s.withRq f).lens = s.lens ∧
    (s.withRq f).af = s.af ∧ (s.withRq f).stab = s.stab ∧ (s.withRq f).store = s.store ∧
    (s.withRq f).links = s.links ∧ (s.withRq f).loader = s.loader ∧ (s.withRq f).epoch = s.epoch ∧
    (s.withRq f).free = s.free ∧ (s.withRq f).outs = s.outs := by
  simp [State.withRq]

@[simp] theorem State.withStore_frame (s : State) (f : Store → Store) :
    (s.withStore f).pending = s.pending ∧ (s.withStore f).clock = s.clock ∧ (s.withStore f).settings = s.settings ∧
    (s.withStore f).fc = s.fc ∧ (s.withStore f).st = s.st ∧ (s.withStore f).ep = s.ep ∧
    (s.withStore f).lens = s.lens ∧ (s.withStore f).af = s.af ∧ (s.withStore f).stab = s.stab ∧
    (s.withStore f).rq = s.rq ∧ (s.withStore f).links = s.links ∧ (s.withStore f).loader = s.loader ∧
    (s.withStore f).epoch = s.epoch ∧ (s.withStore f).free = s.free ∧ (s.withStore f).outs = s.outs := by
  simp [State.withStore]

@[simp] theorem State.withLens_frame (s : State) (f : Lens → Lens) :
    (s.withLens f).pending = s.pending ∧ (s.withLens f).clock = s.clock ∧ (s.withLens f).settings = s.settings ∧
    (s.withLens f).fc = s.fc ∧ (s.withLens f).st = s.st ∧ (s.withLens f).ep = s.ep ∧ (s.withLens f).af = s.af ∧
    (s.withLens f).stab = s.stab ∧ (s.withLens f).store = s.store ∧ (s.withLens f).rq = s.rq ∧
    (s.withLens f).links = s.links ∧ (s.withLens f).loader = s.loader ∧ (s.withLens f).epoch = s.epoch ∧
    (s.withLens f).free = s.free ∧ (s.withLens f).outs = s.outs := by
  simp [State.withLens]

@[simp] theorem State.withFc_frame (s : State) (f : FrameControl → FrameControl) :
    (s.withFc f).pending = s.pending ∧ (s.withFc f).clock = s.clock ∧ (s.withFc f).settings = s.settings ∧
    (s.withFc f).st = s.st ∧ (s.withFc f).ep = s.ep ∧ (s.withFc f).lens = s.lens ∧ (s.withFc f).af = s.af ∧
    (s.withFc f).stab = s.stab ∧ (s.withFc f).store = s.store ∧ (s.withFc f).rq = s.rq ∧
    (s.withFc f).links = s.links ∧ (s.withFc f).loader = s.loader ∧ (s.withFc f).epoch = s.epoch ∧
    (s.withFc f).free = s.free ∧ (s.withFc f).outs = s.outs := by
  simp [State.withFc]

@[simp] theorem State.withLinks_frame (s : State) (f : Links → Links) :
    (s.withLinks f).pending = s.pending ∧ (s.withLinks f).clock = s.clock ∧ (s.withLinks f).settings = s.settings ∧
    (s.withLinks f).fc = s.fc ∧ (s.withLinks f).st = s.st ∧ (s.withLinks f).ep = s.ep ∧
    (s.withLinks f).lens = s.lens ∧ (s.withLinks f).af = s.af ∧ (s.withLinks f).stab = s.stab ∧
    (s.withLinks f).store = s.store ∧ (s.withLinks f).rq = s.rq ∧ (s.withLinks f).loader = s.loader ∧
    (s.withLinks f).epoch = s.epoch ∧ (s.withLinks f).free = s.free ∧ (s.withLinks f).outs = s.outs := by
  simp [State.withLinks]

@[simp] theorem State.setTxn_frame (s : State) (p : Port) (x : Txn) :
    (s.setTxn p x).pending = s.pending ∧ (s.setTxn p x).clock = s.clock ∧ (s.setTxn p x).settings = s.settings ∧
    (s.setTxn p x).fc = s.fc ∧ (s.setTxn p x).st = s.st ∧ (s.setTxn p x).ep = s.ep ∧ (s.setTxn p x).lens = s.lens ∧
    (s.setTxn p x).af = s.af ∧ (s.setTxn p x).stab = s.stab ∧ (s.setTxn p x).store = s.store ∧
    (s.setTxn p x).rq = s.rq ∧ (s.setTxn p x).loader = s.loader ∧ (s.setTxn p x).epoch = s.epoch ∧
    (s.setTxn p x).free = s.free ∧ (s.setTxn p x).outs = s.outs := by
  simp [State.setTxn]

/-! ### What each update changes -/

@[simp] theorem State.begin_outs (s : State) : s.begin.outs = [] := rfl
@[simp] theorem State.begin_begin (s : State) : s.begin.begin = s.begin := rfl
@[simp] theorem State.reach_clock (s : State) (t : Nat) : (s.reach t).clock = max s.clock t := rfl
@[simp] theorem State.put_outs (s : State) (o : Output) : (s.put o).outs = s.outs ++ [o] := rfl
@[simp] theorem State.chosen_free (s : State) : s.chosen.free = s.free + 1 := rfl
@[simp] theorem State.withAf_af (s : State) (f : FocusSearch → FocusSearch) : (s.withAf f).af = f s.af := rfl
@[simp] theorem State.withStab_stab (s : State) (f : Stabilizer → Stabilizer) : (s.withStab f).stab = f s.stab := rfl
@[simp] theorem State.withRq_rq (s : State) (f : RecordQueue → RecordQueue) : (s.withRq f).rq = f s.rq := rfl
@[simp] theorem State.withStore_store (s : State) (f : Store → Store) : (s.withStore f).store = f s.store := rfl
@[simp] theorem State.withLens_lens (s : State) (f : Lens → Lens) : (s.withLens f).lens = f s.lens := rfl
@[simp] theorem State.withFc_fc (s : State) (f : FrameControl → FrameControl) : (s.withFc f).fc = f s.fc := rfl
@[simp] theorem State.withLinks_links (s : State) (f : Links → Links) : (s.withLinks f).links = (f s.links).refresh := rfl

@[simp] theorem State.act_setAct (s : State) (which : Actuator) (r : ActRecord) : (s.setAct which r).act which = r := by
  cases which <;> rfl

/-- Another actuator's record stays as it is. -/
theorem State.act_setAct_ne (s : State) {which other : Actuator} (r : ActRecord) (h : other ≠ which) :
    (s.setAct which r).act other = s.act other := by
  cases which <;> cases other <;> first | rfl | exact absurd rfl h

/-- The settings decide every named setting. -/
theorem State.setting_congr {s t : State} (h : t.settings = s.settings) (i : Nat) : t.setting i = s.setting i := by
  simp [State.setting, h]

/-- Two states that agree block by block are equal. -/
theorem State.ext_blocks {s t : State} (h₁ : s.pending = t.pending) (h₂ : s.clock = t.clock) (h₃ : s.settings = t.settings)
    (h₄ : s.fc = t.fc) (h₅ : s.st = t.st) (h₆ : s.ep = t.ep) (h₇ : s.lens = t.lens) (h₈ : s.af = t.af)
    (h₉ : s.stab = t.stab) (h₁₀ : s.store = t.store) (h₁₁ : s.rq = t.rq) (h₁₂ : s.links = t.links)
    (h₁₃ : s.loader = t.loader) (h₁₄ : s.epoch = t.epoch) (h₁₅ : s.free = t.free) (h₁₆ : s.outs = t.outs) : s = t := by
  cases s; cases t; simp_all

/-! ### Ports, links, slots -/

@[simp] theorem PerPort.get_set {α : Type} (x : PerPort α) (p : Port) (v : α) : (x.set p v).get p = v := by
  cases p <;> rfl

theorem PerPort.get_set_ne {α : Type} (x : PerPort α) {p q : Port} (v : α) (h : q ≠ p) : (x.set p v).get q = x.get q := by
  cases p <;> cases q <;> first | rfl | exact absurd rfl h

@[simp] theorem PerPort.get_all {α : Type} (v : α) (p : Port) : (PerPort.all v).get p = v := by cases p <;> rfl

@[simp] theorem Links.refresh_txn (l : Links) : l.refresh.txn = l.txn := rfl
@[simp] theorem Links.refresh_pend (l : Links) : l.refresh.pend = l.pend := rfl
@[simp] theorem Links.refresh_mask (l : Links) : l.refresh.mask = l.mask := rfl
@[simp] theorem Links.refresh_occ (l : Links) : l.refresh.occ = l.occ := rfl

/-- After a refresh each line follows its sets (R184). -/
@[simp] theorem Links.refresh_line (l : Links) (p : Port) : l.refresh.line.get p = lineOf (l.pend.get p) (l.mask.get p) := by
  cases p <;> rfl

/-- Raising a kind to all ports adds it to every pending set (R183). -/
@[simp] theorem State.raise_pend (s : State) (k : Kind) (p : Port) :
    (s.raise k).links.pend.get p = s.links.pend.get p ||| k.bit := by
  cases p <;> rfl

@[simp] theorem State.raise_occ (s : State) (k : Kind) : (s.raise k).links.occ = s.links.occ ||| k.bit := rfl

/-- Raising a kind to one port adds it to that port's pending set (R183). -/
@[simp] theorem State.raiseTo_pend (s : State) (p : Port) (k : Kind) :
    (s.raiseTo p k).links.pend.get p = s.links.pend.get p ||| k.bit := by
  simp [State.raiseTo]

/-- A reply fixed for a port stands in its transaction state (R174). -/
@[simp] theorem State.prepareReply_txn (s : State) (p : Port) (r : Reply) :
    (s.prepareReply p r).links.txn.get p = .preparing r (s.clock + us 40) := by
  simp [State.prepareReply]

@[simp] theorem Store.onSlot_fields (b : Store) (i : Nat) (f : Slot → Slot) :
    (b.onSlot i f).state = b.state ∧ (b.onSlot i f).startup = b.startup ∧ (b.onSlot i f).backlog = b.backlog ∧
    (b.onSlot i f).urgent = b.urgent ∧ (b.onSlot i f).trickle = b.trickle ∧ (b.onSlot i f).buf = b.buf ∧
    (b.onSlot i f).remnant = b.remnant ∧ (b.onSlot i f).ring1 = b.ring1 ∧ (b.onSlot i f).ring2 = b.ring2 ∧
    (b.onSlot i f).grant = b.grant ∧ (b.onSlot i f).wake = b.wake ∧ (b.onSlot i f).streams = b.streams ∧
    (b.onSlot i f).fifos = b.fifos ∧ (b.onSlot i f).cut = b.cut ∧ (b.onSlot i f).ends = b.ends ∧
    (b.onSlot i f).dram = b.dram := by
  simp [Store.onSlot]

@[simp] theorem Store.discardGrant_fields (b : Store) (p : Port) :
    (b.discardGrant p).state = b.state ∧ (b.discardGrant p).startup = b.startup ∧
    (b.discardGrant p).backlog = b.backlog ∧ (b.discardGrant p).urgent = b.urgent ∧
    (b.discardGrant p).trickle = b.trickle ∧ (b.discardGrant p).slots = b.slots ∧ (b.discardGrant p).buf = b.buf ∧
    (b.discardGrant p).remnant = b.remnant ∧ (b.discardGrant p).ring1 = b.ring1 ∧ (b.discardGrant p).ring2 = b.ring2 ∧
    (b.discardGrant p).wake = b.wake ∧ (b.discardGrant p).streams = b.streams ∧ (b.discardGrant p).fifos = b.fifos ∧
    (b.discardGrant p).cut = b.cut ∧ (b.discardGrant p).ends = b.ends ∧ (b.discardGrant p).dram = b.dram := by
  simp [Store.discardGrant]

@[simp] theorem ActRecord.rest_fields (r : ActRecord) :
    r.rest.pos = r.pos ∧ r.rest.target = r.target ∧ r.rest.origin = r.origin ∧ r.rest.speed = r.speed ∧
    r.rest.pending = r.pending ∧ r.rest.inFlight = false ∧ r.rest.stepAt = none := by
  simp [ActRecord.rest]

@[simp] theorem ActRecord.stop_fields (r : ActRecord) :
    r.stop.pos = r.pos ∧ r.stop.target = r.pos ∧ r.stop.inFlight = false ∧ r.stop.pending = none ∧ r.stop.stepAt = none := by
  simp [ActRecord.stop]

end Sys2Proof.Machine
end

