-- ==== Sys2Proof/Laws/Frames.lean ====
section
/-! SUPPORT. Frames: for each operation the blocks of the state it leaves as they are. -/

namespace Sys2Proof.Machine

@[simp] theorem State.statOpen_frame (s : State) (n : StartNotice) :
    (s.statOpen n).pending = s.pending ∧ (s.statOpen n).clock = s.clock ∧ (s.statOpen n).settings = s.settings ∧
    (s.statOpen n).fc = s.fc ∧ (s.statOpen n).ep = s.ep ∧ (s.statOpen n).lens = s.lens ∧ (s.statOpen n).af = s.af ∧
    (s.statOpen n).stab = s.stab ∧ (s.statOpen n).store = s.store ∧ (s.statOpen n).rq = s.rq ∧
    (s.statOpen n).links = s.links ∧ (s.statOpen n).loader = s.loader ∧ (s.statOpen n).epoch = s.epoch ∧
    (s.statOpen n).free = s.free ∧ (s.statOpen n).outs = s.outs := by
  unfold State.statOpen; (repeat' split) <;> simp

@[simp] theorem State.statEndSpan_frame (s : State) :
    s.statEndSpan.pending = s.pending ∧ s.statEndSpan.clock = s.clock ∧ s.statEndSpan.settings = s.settings ∧
    s.statEndSpan.fc = s.fc ∧ s.statEndSpan.ep = s.ep ∧ s.statEndSpan.lens = s.lens ∧ s.statEndSpan.af = s.af ∧
    s.statEndSpan.stab = s.stab ∧ s.statEndSpan.store = s.store ∧ s.statEndSpan.rq = s.rq ∧
    s.statEndSpan.links = s.links ∧ s.statEndSpan.loader = s.loader ∧ s.statEndSpan.epoch = s.epoch ∧
    s.statEndSpan.free = s.free ∧ s.statEndSpan.outs = s.outs := by
  unfold State.statEndSpan; (repeat' split) <;> simp

@[simp] theorem State.statMove_frame (s : State) (which : Actuator) :
    (s.statMove which).pending = s.pending ∧ (s.statMove which).clock = s.clock ∧
    (s.statMove which).settings = s.settings ∧ (s.statMove which).fc = s.fc ∧ (s.statMove which).ep = s.ep ∧
    (s.statMove which).lens = s.lens ∧ (s.statMove which).af = s.af ∧ (s.statMove which).stab = s.stab ∧
    (s.statMove which).store = s.store ∧ (s.statMove which).rq = s.rq ∧ (s.statMove which).links = s.links ∧
    (s.statMove which).loader = s.loader ∧ (s.statMove which).epoch = s.epoch ∧ (s.statMove which).free = s.free ∧
    (s.statMove which).outs = s.outs := by
  unfold State.statMove; (repeat' split) <;> simp

@[simp] theorem State.statRecentered_frame (s : State) :
    s.statRecentered.pending = s.pending ∧ s.statRecentered.clock = s.clock ∧
    s.statRecentered.settings = s.settings ∧ s.statRecentered.fc = s.fc ∧ s.statRecentered.ep = s.ep ∧
    s.statRecentered.lens = s.lens ∧ s.statRecentered.af = s.af ∧ s.statRecentered.stab = s.stab ∧
    s.statRecentered.store = s.store ∧ s.statRecentered.rq = s.rq ∧ s.statRecentered.links = s.links ∧
    s.statRecentered.loader = s.loader ∧ s.statRecentered.epoch = s.epoch ∧ s.statRecentered.free = s.free ∧
    s.statRecentered.outs = s.outs := by
  unfold State.statRecentered; (repeat' split) <;> simp

@[simp] theorem State.statFocusDone_frame (s : State) :
    s.statFocusDone.pending = s.pending ∧ s.statFocusDone.clock = s.clock ∧ s.statFocusDone.settings = s.settings ∧
    s.statFocusDone.fc = s.fc ∧ s.statFocusDone.ep = s.ep ∧ s.statFocusDone.lens = s.lens ∧
    s.statFocusDone.af = s.af ∧ s.statFocusDone.stab = s.stab ∧ s.statFocusDone.store = s.store ∧
    s.statFocusDone.rq = s.rq ∧ s.statFocusDone.links = s.links ∧ s.statFocusDone.loader = s.loader ∧
    s.statFocusDone.epoch = s.epoch ∧ s.statFocusDone.free = s.free ∧ s.statFocusDone.outs = s.outs := by
  unfold State.statFocusDone; (repeat' split) <;> simp

@[simp] theorem State.statSwap_frame (s : State) (timedOut : Bool) :
    (s.statSwap timedOut).pending = s.pending ∧ (s.statSwap timedOut).clock = s.clock ∧
    (s.statSwap timedOut).settings = s.settings ∧ (s.statSwap timedOut).fc = s.fc ∧ (s.statSwap timedOut).ep = s.ep ∧
    (s.statSwap timedOut).lens = s.lens ∧ (s.statSwap timedOut).af = s.af ∧ (s.statSwap timedOut).stab = s.stab ∧
    (s.statSwap timedOut).store = s.store ∧ (s.statSwap timedOut).rq = s.rq ∧ (s.statSwap timedOut).links = s.links ∧
    (s.statSwap timedOut).loader = s.loader ∧ (s.statSwap timedOut).epoch = s.epoch ∧
    (s.statSwap timedOut).free = s.free ∧ (s.statSwap timedOut).outs = s.outs := by
  unfold State.statSwap; (repeat' split) <;> simp

@[simp] theorem State.drive_frame (s : State) (which : Actuator) (target : Int) (origin : Origin) (speed : Nat) :
    (s.drive which target origin speed).1.pending = s.pending ∧
    (s.drive which target origin speed).1.clock = s.clock ∧
    (s.drive which target origin speed).1.settings = s.settings ∧ (s.drive which target origin speed).1.fc = s.fc ∧
    (s.drive which target origin speed).1.ep = s.ep ∧ (s.drive which target origin speed).1.af = s.af ∧
    (s.drive which target origin speed).1.stab = s.stab ∧ (s.drive which target origin speed).1.store = s.store ∧
    (s.drive which target origin speed).1.rq = s.rq ∧ (s.drive which target origin speed).1.links = s.links ∧
    (s.drive which target origin speed).1.loader = s.loader ∧ (s.drive which target origin speed).1.epoch = s.epoch ∧
    (s.drive which target origin speed).1.free = s.free ∧ (s.drive which target origin speed).1.outs = s.outs := by
  simp only [State.drive]; (repeat' split) <;> simp

@[simp] theorem State.give_frame (s : State) (which : Actuator) (target : Int) (origin : Origin) (speed : Nat) :
    (s.give which target origin speed).1.pending = s.pending ∧ (s.give which target origin speed).1.clock = s.clock ∧
    (s.give which target origin speed).1.settings = s.settings ∧ (s.give which target origin speed).1.fc = s.fc ∧
    (s.give which target origin speed).1.ep = s.ep ∧ (s.give which target origin speed).1.af = s.af ∧
    (s.give which target origin speed).1.stab = s.stab ∧ (s.give which target origin speed).1.store = s.store ∧
    (s.give which target origin speed).1.rq = s.rq ∧ (s.give which target origin speed).1.links = s.links ∧
    (s.give which target origin speed).1.loader = s.loader ∧ (s.give which target origin speed).1.epoch = s.epoch ∧
    (s.give which target origin speed).1.free = s.free ∧ (s.give which target origin speed).1.outs = s.outs := by
  unfold State.give; (repeat' split) <;> simp

@[simp] theorem State.giveIris_frame (s : State) (target : Int) (origin : Origin) :
    (s.giveIris target origin).pending = s.pending ∧ (s.giveIris target origin).clock = s.clock ∧
    (s.giveIris target origin).settings = s.settings ∧ (s.giveIris target origin).fc = s.fc ∧
    (s.giveIris target origin).ep = s.ep ∧ (s.giveIris target origin).af = s.af ∧
    (s.giveIris target origin).stab = s.stab ∧ (s.giveIris target origin).store = s.store ∧
    (s.giveIris target origin).rq = s.rq ∧ (s.giveIris target origin).links = s.links ∧
    (s.giveIris target origin).loader = s.loader ∧ (s.giveIris target origin).epoch = s.epoch ∧
    (s.giveIris target origin).free = s.free ∧ (s.giveIris target origin).outs = s.outs := by
  unfold State.giveIris; (repeat' split) <;> simp

@[simp] theorem State.formPlans_frame (s : State) (amin tlimit : Int) :
    (s.formPlans amin tlimit).pending = s.pending ∧ (s.formPlans amin tlimit).clock = s.clock ∧
    (s.formPlans amin tlimit).settings = s.settings ∧ (s.formPlans amin tlimit).fc = s.fc ∧
    (s.formPlans amin tlimit).st = s.st ∧ (s.formPlans amin tlimit).af = s.af ∧
    (s.formPlans amin tlimit).stab = s.stab ∧ (s.formPlans amin tlimit).store = s.store ∧
    (s.formPlans amin tlimit).rq = s.rq ∧ (s.formPlans amin tlimit).links = s.links ∧
    (s.formPlans amin tlimit).loader = s.loader ∧ (s.formPlans amin tlimit).epoch = s.epoch ∧
    (s.formPlans amin tlimit).free = s.free ∧ (s.formPlans amin tlimit).outs = s.outs := by
  unfold State.formPlans; (repeat' split) <;> simp

@[simp] theorem State.requestIris_frame (s : State) :
    s.requestIris.pending = s.pending ∧ s.requestIris.clock = s.clock ∧ s.requestIris.settings = s.settings ∧
    s.requestIris.fc = s.fc ∧ s.requestIris.ep = s.ep ∧ s.requestIris.af = s.af ∧ s.requestIris.stab = s.stab ∧
    s.requestIris.store = s.store ∧ s.requestIris.rq = s.rq ∧ s.requestIris.links = s.links ∧
    s.requestIris.loader = s.loader ∧ s.requestIris.epoch = s.epoch ∧ s.requestIris.free = s.free ∧
    s.requestIris.outs = s.outs := by
  unfold State.requestIris; (repeat' split) <;> simp

@[simp] theorem State.plannerRun_frame (s : State) :
    s.plannerRun.pending = s.pending ∧ s.plannerRun.clock = s.clock ∧ s.plannerRun.settings = s.settings ∧
    s.plannerRun.fc = s.fc ∧ s.plannerRun.af = s.af ∧ s.plannerRun.stab = s.stab ∧ s.plannerRun.store = s.store ∧
    s.plannerRun.rq = s.rq ∧ s.plannerRun.links = s.links ∧ s.plannerRun.loader = s.loader ∧
    s.plannerRun.epoch = s.epoch ∧ s.plannerRun.free = s.free ∧ s.plannerRun.outs = s.outs := by
  unfold State.plannerRun; (repeat' split) <;> simp

@[simp] theorem State.giveLimits_frame (s : State) :
    s.giveLimits.pending = s.pending ∧ s.giveLimits.clock = s.clock ∧ s.giveLimits.settings = s.settings ∧
    s.giveLimits.fc = s.fc ∧ s.giveLimits.af = s.af ∧ s.giveLimits.stab = s.stab ∧ s.giveLimits.store = s.store ∧
    s.giveLimits.rq = s.rq ∧ s.giveLimits.links = s.links ∧ s.giveLimits.loader = s.loader ∧
    s.giveLimits.epoch = s.epoch ∧ s.giveLimits.free = s.free ∧ s.giveLimits.outs = s.outs := by
  unfold State.giveLimits; (repeat' split) <;> simp

@[simp] theorem State.creditWatch_frame (before : Bool) (s : State) :
    (State.creditWatch before s).pending = s.pending ∧ (State.creditWatch before s).clock = s.clock ∧
    (State.creditWatch before s).settings = s.settings ∧ (State.creditWatch before s).fc = s.fc ∧
    (State.creditWatch before s).af = s.af ∧ (State.creditWatch before s).stab = s.stab ∧
    (State.creditWatch before s).store = s.store ∧ (State.creditWatch before s).rq = s.rq ∧
    (State.creditWatch before s).links = s.links ∧ (State.creditWatch before s).loader = s.loader ∧
    (State.creditWatch before s).epoch = s.epoch ∧ (State.creditWatch before s).free = s.free ∧
    (State.creditWatch before s).outs = s.outs := by
  unfold State.creditWatch; (repeat' split) <;> simp

@[simp] theorem State.setPenalty_frame (s : State) (v : Bool) :
    (s.setPenalty v).pending = s.pending ∧ (s.setPenalty v).clock = s.clock ∧
    (s.setPenalty v).settings = s.settings ∧ (s.setPenalty v).fc = s.fc ∧ (s.setPenalty v).af = s.af ∧
    (s.setPenalty v).stab = s.stab ∧ (s.setPenalty v).store = s.store ∧ (s.setPenalty v).rq = s.rq ∧
    (s.setPenalty v).links = s.links ∧ (s.setPenalty v).loader = s.loader ∧ (s.setPenalty v).epoch = s.epoch ∧
    (s.setPenalty v).free = s.free ∧ (s.setPenalty v).outs = s.outs := by
  unfold State.setPenalty; (repeat' split) <;> simp

@[simp] theorem State.setLock_frame (s : State) (v : LockSource) :
    (s.setLock v).pending = s.pending ∧ (s.setLock v).clock = s.clock ∧ (s.setLock v).settings = s.settings ∧
    (s.setLock v).fc = s.fc ∧ (s.setLock v).af = s.af ∧ (s.setLock v).stab = s.stab ∧ (s.setLock v).store = s.store ∧
    (s.setLock v).rq = s.rq ∧ (s.setLock v).links = s.links ∧ (s.setLock v).loader = s.loader ∧
    (s.setLock v).epoch = s.epoch ∧ (s.setLock v).free = s.free ∧ (s.setLock v).outs = s.outs := by
  unfold State.setLock; (repeat' split) <;> simp

@[simp] theorem State.planPrepareBegins_frame (s : State) :
    s.planPrepareBegins.pending = s.pending ∧ s.planPrepareBegins.clock = s.clock ∧
    s.planPrepareBegins.settings = s.settings ∧ s.planPrepareBegins.fc = s.fc ∧ s.planPrepareBegins.af = s.af ∧
    s.planPrepareBegins.stab = s.stab ∧ s.planPrepareBegins.store = s.store ∧ s.planPrepareBegins.rq = s.rq ∧
    s.planPrepareBegins.links = s.links ∧ s.planPrepareBegins.loader = s.loader ∧
    s.planPrepareBegins.epoch = s.epoch ∧ s.planPrepareBegins.free = s.free ∧ s.planPrepareBegins.outs = s.outs := by
  unfold State.planPrepareBegins; (repeat' split) <;> simp

@[simp] theorem State.planPrepareEnds_frame (s : State) :
    s.planPrepareEnds.pending = s.pending ∧ s.planPrepareEnds.clock = s.clock ∧
    s.planPrepareEnds.settings = s.settings ∧ s.planPrepareEnds.fc = s.fc ∧ s.planPrepareEnds.af = s.af ∧
    s.planPrepareEnds.stab = s.stab ∧ s.planPrepareEnds.store = s.store ∧ s.planPrepareEnds.rq = s.rq ∧
    s.planPrepareEnds.links = s.links ∧ s.planPrepareEnds.loader = s.loader ∧ s.planPrepareEnds.epoch = s.epoch ∧
    s.planPrepareEnds.free = s.free ∧ s.planPrepareEnds.outs = s.outs := by
  unfold State.planPrepareEnds; (repeat' split) <;> simp

@[simp] theorem State.setTlive_frame (s : State) (v : Int) :
    (s.setTlive v).pending = s.pending ∧ (s.setTlive v).clock = s.clock ∧ (s.setTlive v).settings = s.settings ∧
    (s.setTlive v).af = s.af ∧ (s.setTlive v).stab = s.stab ∧ (s.setTlive v).store = s.store ∧
    (s.setTlive v).rq = s.rq ∧ (s.setTlive v).links = s.links ∧ (s.setTlive v).loader = s.loader ∧
    (s.setTlive v).epoch = s.epoch ∧ (s.setTlive v).free = s.free ∧ (s.setTlive v).outs = s.outs := by
  unfold State.setTlive; (repeat' split) <;> simp

@[simp] theorem State.meter_frame (s : State) (r : StatRecord) :
    (s.meter r).pending = s.pending ∧ (s.meter r).clock = s.clock ∧ (s.meter r).settings = s.settings ∧
    (s.meter r).fc = s.fc ∧ (s.meter r).af = s.af ∧ (s.meter r).stab = s.stab ∧ (s.meter r).store = s.store ∧
    (s.meter r).rq = s.rq ∧ (s.meter r).links = s.links ∧ (s.meter r).loader = s.loader ∧
    (s.meter r).epoch = s.epoch ∧ (s.meter r).free = s.free ∧ (s.meter r).outs = s.outs := by
  unfold State.meter; (repeat' split) <;> simp

@[simp] theorem State.giveFocus_frame (s : State) (target : Int) (origin : Origin) :
    (s.giveFocus target origin).1.pending = s.pending ∧ (s.giveFocus target origin).1.clock = s.clock ∧
    (s.giveFocus target origin).1.settings = s.settings ∧ (s.giveFocus target origin).1.fc = s.fc ∧
    (s.giveFocus target origin).1.ep = s.ep ∧ (s.giveFocus target origin).1.af = s.af ∧
    (s.giveFocus target origin).1.stab = s.stab ∧ (s.giveFocus target origin).1.store = s.store ∧
    (s.giveFocus target origin).1.rq = s.rq ∧ (s.giveFocus target origin).1.links = s.links ∧
    (s.giveFocus target origin).1.loader = s.loader ∧ (s.giveFocus target origin).1.epoch = s.epoch ∧
    (s.giveFocus target origin).1.free = s.free ∧ (s.giveFocus target origin).1.outs = s.outs := by
  simp only [State.giveFocus]; (repeat' split) <;> simp

@[simp] theorem State.trackCheck_frame (s : State) :
    s.trackCheck.pending = s.pending ∧ s.trackCheck.clock = s.clock ∧ s.trackCheck.settings = s.settings ∧
    s.trackCheck.fc = s.fc ∧ s.trackCheck.st = s.st ∧ s.trackCheck.ep = s.ep ∧ s.trackCheck.lens = s.lens ∧
    s.trackCheck.stab = s.stab ∧ s.trackCheck.store = s.store ∧ s.trackCheck.rq = s.rq ∧
    s.trackCheck.links = s.links ∧ s.trackCheck.loader = s.loader ∧ s.trackCheck.epoch = s.epoch ∧
    s.trackCheck.free = s.free ∧ s.trackCheck.outs = s.outs := by
  unfold State.trackCheck; (repeat' split) <;> simp

@[simp] theorem State.afLock_frame (s : State) :
    s.afLock.pending = s.pending ∧ s.afLock.clock = s.clock ∧ s.afLock.settings = s.settings ∧ s.afLock.fc = s.fc ∧
    s.afLock.st = s.st ∧ s.afLock.ep = s.ep ∧ s.afLock.lens = s.lens ∧ s.afLock.stab = s.stab ∧
    s.afLock.store = s.store ∧ s.afLock.rq = s.rq ∧ s.afLock.loader = s.loader ∧ s.afLock.epoch = s.epoch ∧
    s.afLock.free = s.free ∧ s.afLock.outs = s.outs := by
  unfold State.afLock; (repeat' split) <;> simp

@[simp] theorem State.afFail_frame (s : State) :
    s.afFail.pending = s.pending ∧ s.afFail.clock = s.clock ∧ s.afFail.settings = s.settings ∧ s.afFail.fc = s.fc ∧
    s.afFail.st = s.st ∧ s.afFail.ep = s.ep ∧ s.afFail.lens = s.lens ∧ s.afFail.stab = s.stab ∧
    s.afFail.store = s.store ∧ s.afFail.rq = s.rq ∧ s.afFail.loader = s.loader ∧ s.afFail.epoch = s.epoch ∧
    s.afFail.free = s.free ∧ s.afFail.outs = s.outs := by
  unfold State.afFail; (repeat' split) <;> simp

@[simp] theorem State.probeEnd_frame (s : State) :
    s.probeEnd.pending = s.pending ∧ s.probeEnd.clock = s.clock ∧ s.probeEnd.settings = s.settings ∧
    s.probeEnd.fc = s.fc ∧ s.probeEnd.st = s.st ∧ s.probeEnd.ep = s.ep ∧ s.probeEnd.stab = s.stab ∧
    s.probeEnd.store = s.store ∧ s.probeEnd.rq = s.rq ∧ s.probeEnd.links = s.links ∧ s.probeEnd.loader = s.loader ∧
    s.probeEnd.epoch = s.epoch ∧ s.probeEnd.free = s.free ∧ s.probeEnd.outs = s.outs := by
  unfold State.probeEnd; (repeat' split) <;> simp

@[simp] theorem State.afAdvance_frame (n : Nat) (s : State) :
    (State.afAdvance n s).pending = s.pending ∧ (State.afAdvance n s).clock = s.clock ∧
    (State.afAdvance n s).settings = s.settings ∧ (State.afAdvance n s).fc = s.fc ∧ (State.afAdvance n s).ep = s.ep ∧
    (State.afAdvance n s).stab = s.stab ∧ (State.afAdvance n s).store = s.store ∧ (State.afAdvance n s).rq = s.rq ∧
    (State.afAdvance n s).loader = s.loader ∧ (State.afAdvance n s).epoch = s.epoch ∧
    (State.afAdvance n s).free = s.free ∧ (State.afAdvance n s).outs = s.outs := by
  induction n generalizing s with
  | zero => simp [State.afAdvance]
  | succ n ih => simp only [State.afAdvance, State.afDecide]; (repeat' split) <;> simp [ih]

@[simp] theorem State.afMove_frame (s : State) (w : AfWait) (target : Int) :
    (s.afMove w target).pending = s.pending ∧ (s.afMove w target).clock = s.clock ∧
    (s.afMove w target).settings = s.settings ∧ (s.afMove w target).fc = s.fc ∧ (s.afMove w target).ep = s.ep ∧
    (s.afMove w target).stab = s.stab ∧ (s.afMove w target).store = s.store ∧ (s.afMove w target).rq = s.rq ∧
    (s.afMove w target).loader = s.loader ∧ (s.afMove w target).epoch = s.epoch ∧ (s.afMove w target).free = s.free ∧
    (s.afMove w target).outs = s.outs := by
  simp only [State.afMove]; (repeat' split) <;> simp

@[simp] theorem State.afAbort_frame (s : State) :
    s.afAbort.pending = s.pending ∧ s.afAbort.clock = s.clock ∧ s.afAbort.settings = s.settings ∧
    s.afAbort.fc = s.fc ∧ s.afAbort.ep = s.ep ∧ s.afAbort.stab = s.stab ∧ s.afAbort.store = s.store ∧
    s.afAbort.rq = s.rq ∧ s.afAbort.links = s.links ∧ s.afAbort.loader = s.loader ∧ s.afAbort.epoch = s.epoch ∧
    s.afAbort.free = s.free ∧ s.afAbort.outs = s.outs := by
  simp only [State.afAbort]; (repeat' split) <;> simp

@[simp] theorem State.afLeave_frame (s : State) :
    s.afLeave.pending = s.pending ∧ s.afLeave.clock = s.clock ∧ s.afLeave.settings = s.settings ∧
    s.afLeave.fc = s.fc ∧ s.afLeave.st = s.st ∧ s.afLeave.ep = s.ep ∧ s.afLeave.lens = s.lens ∧
    s.afLeave.stab = s.stab ∧ s.afLeave.store = s.store ∧ s.afLeave.rq = s.rq ∧ s.afLeave.links = s.links ∧
    s.afLeave.loader = s.loader ∧ s.afLeave.epoch = s.epoch ∧ s.afLeave.free = s.free ∧ s.afLeave.outs = s.outs := by
  unfold State.afLeave; (repeat' split) <;> simp

@[simp] theorem State.afIdle_frame (s : State) :
    s.afIdle.pending = s.pending ∧ s.afIdle.clock = s.clock ∧ s.afIdle.settings = s.settings ∧ s.afIdle.fc = s.fc ∧
    s.afIdle.ep = s.ep ∧ s.afIdle.stab = s.stab ∧ s.afIdle.store = s.store ∧ s.afIdle.rq = s.rq ∧
    s.afIdle.links = s.links ∧ s.afIdle.loader = s.loader ∧ s.afIdle.epoch = s.epoch ∧ s.afIdle.free = s.free ∧
    s.afIdle.outs = s.outs := by
  unfold State.afIdle; (repeat' split) <;> simp

@[simp] theorem State.afFocusDone_frame (s : State) (origin : Origin) :
    (s.afFocusDone origin).pending = s.pending ∧ (s.afFocusDone origin).clock = s.clock ∧
    (s.afFocusDone origin).settings = s.settings ∧ (s.afFocusDone origin).fc = s.fc ∧
    (s.afFocusDone origin).ep = s.ep ∧ (s.afFocusDone origin).stab = s.stab ∧
    (s.afFocusDone origin).store = s.store ∧ (s.afFocusDone origin).rq = s.rq ∧
    (s.afFocusDone origin).loader = s.loader ∧ (s.afFocusDone origin).epoch = s.epoch ∧
    (s.afFocusDone origin).free = s.free ∧ (s.afFocusDone origin).outs = s.outs := by
  unfold State.afFocusDone; (repeat' split) <;> simp

@[simp] theorem State.afStart_frame (s : State) (origin : SearchOrigin) :
    (s.afStart origin).pending = s.pending ∧ (s.afStart origin).clock = s.clock ∧
    (s.afStart origin).settings = s.settings ∧ (s.afStart origin).fc = s.fc ∧ (s.afStart origin).ep = s.ep ∧
    (s.afStart origin).stab = s.stab ∧ (s.afStart origin).store = s.store ∧ (s.afStart origin).rq = s.rq ∧
    (s.afStart origin).loader = s.loader ∧ (s.afStart origin).epoch = s.epoch ∧ (s.afStart origin).free = s.free ∧
    (s.afStart origin).outs = s.outs := by
  unfold State.afStart; (repeat' split) <;> simp

@[simp] theorem State.coarseEnd_frame (s : State) :
    s.coarseEnd.pending = s.pending ∧ s.coarseEnd.clock = s.clock ∧ s.coarseEnd.settings = s.settings ∧
    s.coarseEnd.fc = s.fc ∧ s.coarseEnd.ep = s.ep ∧ s.coarseEnd.stab = s.stab ∧ s.coarseEnd.store = s.store ∧
    s.coarseEnd.rq = s.rq ∧ s.coarseEnd.loader = s.loader ∧ s.coarseEnd.epoch = s.epoch ∧ s.coarseEnd.free = s.free ∧
    s.coarseEnd.outs = s.outs := by
  unfold State.coarseEnd; (repeat' split) <;> simp

@[simp] theorem State.coarseSample_frame (s : State) (f : Nat) (pos : Int) :
    (s.coarseSample f pos).pending = s.pending ∧ (s.coarseSample f pos).clock = s.clock ∧
    (s.coarseSample f pos).settings = s.settings ∧ (s.coarseSample f pos).fc = s.fc ∧
    (s.coarseSample f pos).ep = s.ep ∧ (s.coarseSample f pos).stab = s.stab ∧
    (s.coarseSample f pos).store = s.store ∧ (s.coarseSample f pos).rq = s.rq ∧
    (s.coarseSample f pos).loader = s.loader ∧ (s.coarseSample f pos).epoch = s.epoch ∧
    (s.coarseSample f pos).free = s.free ∧ (s.coarseSample f pos).outs = s.outs := by
  simp only [State.coarseSample]; (repeat' split) <;> simp

@[simp] theorem State.settle_frame (s : State) :
    s.settle.pending = s.pending ∧ s.settle.clock = s.clock ∧ s.settle.settings = s.settings ∧ s.settle.fc = s.fc ∧
    s.settle.ep = s.ep ∧ s.settle.stab = s.stab ∧ s.settle.store = s.store ∧ s.settle.rq = s.rq ∧
    s.settle.loader = s.loader ∧ s.settle.epoch = s.epoch ∧ s.settle.free = s.free ∧ s.settle.outs = s.outs := by
  simp only [State.settle]; (repeat' split) <;> simp

@[simp] theorem State.fineSample_frame (s : State) (f : Nat) (pos : Int) :
    (s.fineSample f pos).pending = s.pending ∧ (s.fineSample f pos).clock = s.clock ∧
    (s.fineSample f pos).settings = s.settings ∧ (s.fineSample f pos).fc = s.fc ∧ (s.fineSample f pos).ep = s.ep ∧
    (s.fineSample f pos).stab = s.stab ∧ (s.fineSample f pos).store = s.store ∧ (s.fineSample f pos).rq = s.rq ∧
    (s.fineSample f pos).loader = s.loader ∧ (s.fineSample f pos).epoch = s.epoch ∧
    (s.fineSample f pos).free = s.free ∧ (s.fineSample f pos).outs = s.outs := by
  simp only [State.fineSample]; (repeat' split) <;> simp

@[simp] theorem State.probeSample_frame (s : State) (f : Nat) (pos : Int) :
    (s.probeSample f pos).pending = s.pending ∧ (s.probeSample f pos).clock = s.clock ∧
    (s.probeSample f pos).settings = s.settings ∧ (s.probeSample f pos).fc = s.fc ∧ (s.probeSample f pos).ep = s.ep ∧
    (s.probeSample f pos).stab = s.stab ∧ (s.probeSample f pos).store = s.store ∧ (s.probeSample f pos).rq = s.rq ∧
    (s.probeSample f pos).loader = s.loader ∧ (s.probeSample f pos).epoch = s.epoch ∧
    (s.probeSample f pos).free = s.free ∧ (s.probeSample f pos).outs = s.outs := by
  simp only [State.probeSample]; (repeat' split) <;> simp

@[simp] theorem State.probeStart_frame (s : State) (f : Nat) :
    (s.probeStart f).pending = s.pending ∧ (s.probeStart f).clock = s.clock ∧ (s.probeStart f).settings = s.settings ∧
    (s.probeStart f).fc = s.fc ∧ (s.probeStart f).st = s.st ∧ (s.probeStart f).ep = s.ep ∧
    (s.probeStart f).lens = s.lens ∧ (s.probeStart f).stab = s.stab ∧ (s.probeStart f).store = s.store ∧
    (s.probeStart f).rq = s.rq ∧ (s.probeStart f).links = s.links ∧ (s.probeStart f).loader = s.loader ∧
    (s.probeStart f).epoch = s.epoch ∧ (s.probeStart f).free = s.free ∧ (s.probeStart f).outs = s.outs := by
  unfold State.probeStart; (repeat' split) <;> simp

@[simp] theorem State.probeMove_frame (s : State) :
    s.probeMove.pending = s.pending ∧ s.probeMove.clock = s.clock ∧ s.probeMove.settings = s.settings ∧
    s.probeMove.fc = s.fc ∧ s.probeMove.ep = s.ep ∧ s.probeMove.stab = s.stab ∧ s.probeMove.store = s.store ∧
    s.probeMove.rq = s.rq ∧ s.probeMove.loader = s.loader ∧ s.probeMove.epoch = s.epoch ∧ s.probeMove.free = s.free ∧
    s.probeMove.outs = s.outs := by
  unfold State.probeMove; (repeat' split) <;> simp

@[simp] theorem State.afSample_frame (s : State) (r : StatRecord) :
    (s.afSample r).pending = s.pending ∧ (s.afSample r).clock = s.clock ∧ (s.afSample r).settings = s.settings ∧
    (s.afSample r).fc = s.fc ∧ (s.afSample r).ep = s.ep ∧ (s.afSample r).stab = s.stab ∧
    (s.afSample r).store = s.store ∧ (s.afSample r).rq = s.rq ∧ (s.afSample r).loader = s.loader ∧
    (s.afSample r).epoch = s.epoch ∧ (s.afSample r).free = s.free ∧ (s.afSample r).outs = s.outs := by
  unfold State.afSample; (repeat' split) <;> simp

@[simp] theorem State.afCompare_frame (s : State) (r : StatRecord) :
    (s.afCompare r).pending = s.pending ∧ (s.afCompare r).clock = s.clock ∧ (s.afCompare r).settings = s.settings ∧
    (s.afCompare r).fc = s.fc ∧ (s.afCompare r).ep = s.ep ∧ (s.afCompare r).stab = s.stab ∧
    (s.afCompare r).store = s.store ∧ (s.afCompare r).rq = s.rq ∧ (s.afCompare r).loader = s.loader ∧
    (s.afCompare r).epoch = s.epoch ∧ (s.afCompare r).free = s.free ∧ (s.afCompare r).outs = s.outs := by
  simp only [State.afCompare]; (repeat' split) <;> simp

@[simp] theorem State.afRecord_frame (s : State) (r : StatRecord) :
    (s.afRecord r).pending = s.pending ∧ (s.afRecord r).clock = s.clock ∧ (s.afRecord r).settings = s.settings ∧
    (s.afRecord r).fc = s.fc ∧ (s.afRecord r).ep = s.ep ∧ (s.afRecord r).stab = s.stab ∧
    (s.afRecord r).store = s.store ∧ (s.afRecord r).rq = s.rq ∧ (s.afRecord r).loader = s.loader ∧
    (s.afRecord r).epoch = s.epoch ∧ (s.afRecord r).free = s.free ∧ (s.afRecord r).outs = s.outs := by
  unfold State.afRecord; (repeat' split) <;> simp

@[simp] theorem State.afPrepareBegins_frame (s : State) :
    s.afPrepareBegins.pending = s.pending ∧ s.afPrepareBegins.clock = s.clock ∧
    s.afPrepareBegins.settings = s.settings ∧ s.afPrepareBegins.fc = s.fc ∧ s.afPrepareBegins.ep = s.ep ∧
    s.afPrepareBegins.stab = s.stab ∧ s.afPrepareBegins.store = s.store ∧ s.afPrepareBegins.rq = s.rq ∧
    s.afPrepareBegins.loader = s.loader ∧ s.afPrepareBegins.epoch = s.epoch ∧ s.afPrepareBegins.free = s.free ∧
    s.afPrepareBegins.outs = s.outs := by
  unfold State.afPrepareBegins; (repeat' split) <;> simp

@[simp] theorem State.afPrepareEnds_frame (s : State) :
    s.afPrepareEnds.pending = s.pending ∧ s.afPrepareEnds.clock = s.clock ∧ s.afPrepareEnds.settings = s.settings ∧
    s.afPrepareEnds.fc = s.fc ∧ s.afPrepareEnds.ep = s.ep ∧ s.afPrepareEnds.stab = s.stab ∧
    s.afPrepareEnds.store = s.store ∧ s.afPrepareEnds.rq = s.rq ∧ s.afPrepareEnds.links = s.links ∧
    s.afPrepareEnds.loader = s.loader ∧ s.afPrepareEnds.epoch = s.epoch ∧ s.afPrepareEnds.free = s.free ∧
    s.afPrepareEnds.outs = s.outs := by
  unfold State.afPrepareEnds; (repeat' split) <;> simp

@[simp] theorem State.afShoot_frame (s : State) :
    s.afShoot.pending = s.pending ∧ s.afShoot.clock = s.clock ∧ s.afShoot.settings = s.settings ∧
    s.afShoot.fc = s.fc ∧ s.afShoot.ep = s.ep ∧ s.afShoot.stab = s.stab ∧ s.afShoot.store = s.store ∧
    s.afShoot.rq = s.rq ∧ s.afShoot.loader = s.loader ∧ s.afShoot.epoch = s.epoch ∧ s.afShoot.free = s.free ∧
    s.afShoot.outs = s.outs := by
  unfold State.afShoot; (repeat' split) <;> simp

@[simp] theorem State.shiftMessage_frame (s : State) :
    s.shiftMessage.pending = s.pending ∧ s.shiftMessage.clock = s.clock ∧ s.shiftMessage.settings = s.settings ∧
    s.shiftMessage.fc = s.fc ∧ s.shiftMessage.st = s.st ∧ s.shiftMessage.ep = s.ep ∧ s.shiftMessage.lens = s.lens ∧
    s.shiftMessage.af = s.af ∧ s.shiftMessage.stab = s.stab ∧ s.shiftMessage.store = s.store ∧
    s.shiftMessage.rq = s.rq ∧ s.shiftMessage.links = s.links ∧ s.shiftMessage.loader = s.loader ∧
    s.shiftMessage.epoch = s.epoch ∧ s.shiftMessage.free = s.free := by
  unfold State.shiftMessage; (repeat' split) <;> simp

@[simp] theorem State.stabSet_frame (s : State) (new : StabState) :
    (s.stabSet new).pending = s.pending ∧ (s.stabSet new).clock = s.clock ∧ (s.stabSet new).settings = s.settings ∧
    (s.stabSet new).fc = s.fc ∧ (s.stabSet new).af = s.af ∧ (s.stabSet new).store = s.store ∧
    (s.stabSet new).rq = s.rq ∧ (s.stabSet new).links = s.links ∧ (s.stabSet new).loader = s.loader ∧
    (s.stabSet new).epoch = s.epoch ∧ (s.stabSet new).free = s.free := by
  unfold State.stabSet; (repeat' split) <;> simp

@[simp] theorem State.derive_frame (s : State) :
    s.derive.pending = s.pending ∧ s.derive.clock = s.clock ∧ s.derive.settings = s.settings ∧ s.derive.fc = s.fc ∧
    s.derive.af = s.af ∧ s.derive.store = s.store ∧ s.derive.rq = s.rq ∧ s.derive.links = s.links ∧
    s.derive.loader = s.loader ∧ s.derive.epoch = s.epoch ∧ s.derive.free = s.free := by
  unfold State.derive; (repeat' split) <;> simp

@[simp] theorem State.calEnd_frame (s : State) (status : CalStatus) :
    (s.calEnd status).pending = s.pending ∧ (s.calEnd status).clock = s.clock ∧
    (s.calEnd status).settings = s.settings ∧ (s.calEnd status).fc = s.fc ∧ (s.calEnd status).af = s.af ∧
    (s.calEnd status).store = s.store ∧ (s.calEnd status).rq = s.rq ∧ (s.calEnd status).loader = s.loader ∧
    (s.calEnd status).epoch = s.epoch ∧ (s.calEnd status).free = s.free := by
  unfold State.calEnd; (repeat' split) <;> simp

@[simp] theorem State.calDone_frame (s : State) :
    s.calDone.pending = s.pending ∧ s.calDone.clock = s.clock ∧ s.calDone.settings = s.settings ∧
    s.calDone.fc = s.fc ∧ s.calDone.af = s.af ∧ s.calDone.store = s.store ∧ s.calDone.rq = s.rq ∧
    s.calDone.loader = s.loader ∧ s.calDone.epoch = s.epoch ∧ s.calDone.free = s.free := by
  unfold State.calDone; (repeat' split) <;> simp

@[simp] theorem State.calAbort_frame (s : State) :
    s.calAbort.pending = s.pending ∧ s.calAbort.clock = s.clock ∧ s.calAbort.settings = s.settings ∧
    s.calAbort.fc = s.fc ∧ s.calAbort.af = s.af ∧ s.calAbort.store = s.store ∧ s.calAbort.rq = s.rq ∧
    s.calAbort.loader = s.loader ∧ s.calAbort.epoch = s.epoch ∧ s.calAbort.free = s.free := by
  unfold State.calAbort; (repeat' split) <;> simp

@[simp] theorem State.calStart_frame (s : State) :
    s.calStart.pending = s.pending ∧ s.calStart.clock = s.clock ∧ s.calStart.settings = s.settings ∧
    s.calStart.fc = s.fc ∧ s.calStart.af = s.af ∧ s.calStart.store = s.store ∧ s.calStart.rq = s.rq ∧
    s.calStart.links = s.links ∧ s.calStart.loader = s.loader ∧ s.calStart.epoch = s.epoch ∧
    s.calStart.free = s.free := by
  unfold State.calStart; (repeat' split) <;> simp

@[simp] theorem State.calSample_frame (s : State) (x y : Int) :
    (s.calSample x y).pending = s.pending ∧ (s.calSample x y).clock = s.clock ∧
    (s.calSample x y).settings = s.settings ∧ (s.calSample x y).fc = s.fc ∧ (s.calSample x y).af = s.af ∧
    (s.calSample x y).store = s.store ∧ (s.calSample x y).rq = s.rq ∧ (s.calSample x y).loader = s.loader ∧
    (s.calSample x y).epoch = s.epoch := by
  simp only [State.calSample]; (repeat' split) <;> simp

@[simp] theorem State.gyroFault_frame (s : State) (cause : GyroCause) :
    (s.gyroFault cause).pending = s.pending ∧ (s.gyroFault cause).clock = s.clock ∧
    (s.gyroFault cause).settings = s.settings ∧ (s.gyroFault cause).fc = s.fc ∧ (s.gyroFault cause).af = s.af ∧
    (s.gyroFault cause).store = s.store ∧ (s.gyroFault cause).rq = s.rq ∧ (s.gyroFault cause).loader = s.loader ∧
    (s.gyroFault cause).epoch = s.epoch ∧ (s.gyroFault cause).free = s.free := by
  simp only [State.gyroFault]; (repeat' split) <;> simp

@[simp] theorem State.watchStuck_frame (s : State) (u v : Int) :
    (s.watchStuck u v).pending = s.pending ∧ (s.watchStuck u v).clock = s.clock ∧
    (s.watchStuck u v).settings = s.settings ∧ (s.watchStuck u v).fc = s.fc ∧ (s.watchStuck u v).af = s.af ∧
    (s.watchStuck u v).store = s.store ∧ (s.watchStuck u v).rq = s.rq ∧ (s.watchStuck u v).loader = s.loader ∧
    (s.watchStuck u v).epoch = s.epoch ∧ (s.watchStuck u v).free = s.free := by
  simp only [State.watchStuck]; (repeat' split) <;> simp

@[simp] theorem State.watchMissed_frame (s : State) :
    s.watchMissed.pending = s.pending ∧ s.watchMissed.clock = s.clock ∧ s.watchMissed.settings = s.settings ∧
    s.watchMissed.fc = s.fc ∧ s.watchMissed.af = s.af ∧ s.watchMissed.store = s.store ∧ s.watchMissed.rq = s.rq ∧
    s.watchMissed.loader = s.loader ∧ s.watchMissed.epoch = s.epoch ∧ s.watchMissed.free = s.free := by
  simp only [State.watchMissed]; (repeat' split) <;> simp

@[simp] theorem State.orientNow_frame (s : State) :
    s.orientNow.pending = s.pending ∧ s.orientNow.clock = s.clock ∧ s.orientNow.settings = s.settings ∧
    s.orientNow.fc = s.fc ∧ s.orientNow.st = s.st ∧ s.orientNow.ep = s.ep ∧ s.orientNow.lens = s.lens ∧
    s.orientNow.af = s.af ∧ s.orientNow.store = s.store ∧ s.orientNow.rq = s.rq ∧ s.orientNow.links = s.links ∧
    s.orientNow.loader = s.loader ∧ s.orientNow.epoch = s.epoch ∧ s.orientNow.free = s.free ∧
    s.orientNow.outs = s.outs := by
  unfold State.orientNow; (repeat' split) <;> simp

@[simp] theorem State.recenterStep_frame (s : State) :
    s.recenterStep.pending = s.pending ∧ s.recenterStep.clock = s.clock ∧ s.recenterStep.settings = s.settings ∧
    s.recenterStep.fc = s.fc ∧ s.recenterStep.ep = s.ep ∧ s.recenterStep.lens = s.lens ∧ s.recenterStep.af = s.af ∧
    s.recenterStep.store = s.store ∧ s.recenterStep.rq = s.rq ∧ s.recenterStep.links = s.links ∧
    s.recenterStep.loader = s.loader ∧ s.recenterStep.epoch = s.epoch ∧ s.recenterStep.free = s.free ∧
    s.recenterStep.outs = s.outs := by
  unfold State.recenterStep; (repeat' split) <;> simp

@[simp] theorem State.panSample_frame (s : State) (x y : Int) :
    (s.panSample x y).pending = s.pending ∧ (s.panSample x y).clock = s.clock ∧
    (s.panSample x y).settings = s.settings ∧ (s.panSample x y).fc = s.fc ∧ (s.panSample x y).st = s.st ∧
    (s.panSample x y).ep = s.ep ∧ (s.panSample x y).lens = s.lens ∧ (s.panSample x y).af = s.af ∧
    (s.panSample x y).store = s.store ∧ (s.panSample x y).rq = s.rq ∧ (s.panSample x y).links = s.links ∧
    (s.panSample x y).loader = s.loader ∧ (s.panSample x y).epoch = s.epoch ∧ (s.panSample x y).free = s.free ∧
    (s.panSample x y).outs = s.outs := by
  unfold State.panSample; (repeat' split) <;> simp

@[simp] theorem State.angleSample_frame (s : State) (x y : Int) :
    (s.angleSample x y).pending = s.pending ∧ (s.angleSample x y).clock = s.clock ∧
    (s.angleSample x y).settings = s.settings ∧ (s.angleSample x y).fc = s.fc ∧ (s.angleSample x y).st = s.st ∧
    (s.angleSample x y).ep = s.ep ∧ (s.angleSample x y).lens = s.lens ∧ (s.angleSample x y).af = s.af ∧
    (s.angleSample x y).store = s.store ∧ (s.angleSample x y).rq = s.rq ∧ (s.angleSample x y).links = s.links ∧
    (s.angleSample x y).loader = s.loader ∧ (s.angleSample x y).epoch = s.epoch ∧ (s.angleSample x y).free = s.free ∧
    (s.angleSample x y).outs = s.outs := by
  unfold State.angleSample; (repeat' split) <;> simp

@[simp] theorem State.shiftSample_frame (s : State) :
    s.shiftSample.pending = s.pending ∧ s.shiftSample.clock = s.clock ∧ s.shiftSample.settings = s.settings ∧
    s.shiftSample.fc = s.fc ∧ s.shiftSample.st = s.st ∧ s.shiftSample.ep = s.ep ∧ s.shiftSample.lens = s.lens ∧
    s.shiftSample.af = s.af ∧ s.shiftSample.store = s.store ∧ s.shiftSample.rq = s.rq ∧
    s.shiftSample.links = s.links ∧ s.shiftSample.loader = s.loader ∧ s.shiftSample.epoch = s.epoch ∧
    s.shiftSample.free = s.free ∧ s.shiftSample.outs = s.outs := by
  simp only [State.shiftSample]; (repeat' split) <;> simp

@[simp] theorem State.useSample_frame (s : State) (u v : Int) :
    (s.useSample u v).pending = s.pending ∧ (s.useSample u v).clock = s.clock ∧
    (s.useSample u v).settings = s.settings ∧ (s.useSample u v).fc = s.fc ∧ (s.useSample u v).af = s.af ∧
    (s.useSample u v).store = s.store ∧ (s.useSample u v).rq = s.rq ∧ (s.useSample u v).loader = s.loader ∧
    (s.useSample u v).epoch = s.epoch := by
  unfold State.useSample; (repeat' split) <;> simp

@[simp] theorem State.askGyro_frame (s : State) :
    s.askGyro.pending = s.pending ∧ s.askGyro.clock = s.clock ∧ s.askGyro.settings = s.settings ∧
    s.askGyro.fc = s.fc ∧ s.askGyro.st = s.st ∧ s.askGyro.ep = s.ep ∧ s.askGyro.lens = s.lens ∧ s.askGyro.af = s.af ∧
    s.askGyro.store = s.store ∧ s.askGyro.rq = s.rq ∧ s.askGyro.links = s.links ∧ s.askGyro.loader = s.loader ∧
    s.askGyro.epoch = s.epoch ∧ s.askGyro.free = s.free := by
  unfold State.askGyro; (repeat' split) <;> simp

@[simp] theorem State.askOnce_frame (s : State) :
    s.askOnce.pending = s.pending ∧ s.askOnce.clock = s.clock ∧ s.askOnce.settings = s.settings ∧
    s.askOnce.fc = s.fc ∧ s.askOnce.st = s.st ∧ s.askOnce.ep = s.ep ∧ s.askOnce.lens = s.lens ∧ s.askOnce.af = s.af ∧
    s.askOnce.store = s.store ∧ s.askOnce.rq = s.rq ∧ s.askOnce.links = s.links ∧ s.askOnce.loader = s.loader ∧
    s.askOnce.epoch = s.epoch ∧ s.askOnce.free = s.free := by
  unfold State.askOnce; (repeat' split) <;> simp

@[simp] theorem State.nextGyro_frame (s : State) :
    s.nextGyro.pending = s.pending ∧ s.nextGyro.clock = s.clock ∧ s.nextGyro.settings = s.settings ∧
    s.nextGyro.fc = s.fc ∧ s.nextGyro.st = s.st ∧ s.nextGyro.ep = s.ep ∧ s.nextGyro.lens = s.lens ∧
    s.nextGyro.af = s.af ∧ s.nextGyro.store = s.store ∧ s.nextGyro.rq = s.rq ∧ s.nextGyro.links = s.links ∧
    s.nextGyro.loader = s.loader ∧ s.nextGyro.epoch = s.epoch ∧ s.nextGyro.free = s.free ∧
    s.nextGyro.outs = s.outs := by
  unfold State.nextGyro; (repeat' split) <;> simp

@[simp] theorem State.gyroReceived_frame (s : State) (u v : Int) :
    (s.gyroReceived u v).pending = s.pending ∧ (s.gyroReceived u v).clock = s.clock ∧
    (s.gyroReceived u v).settings = s.settings ∧ (s.gyroReceived u v).fc = s.fc ∧ (s.gyroReceived u v).af = s.af ∧
    (s.gyroReceived u v).store = s.store ∧ (s.gyroReceived u v).rq = s.rq ∧ (s.gyroReceived u v).loader = s.loader ∧
    (s.gyroReceived u v).epoch = s.epoch := by
  simp only [State.gyroReceived]; (repeat' split) <;> simp

@[simp] theorem State.gyroMissed_frame (s : State) :
    s.gyroMissed.pending = s.pending ∧ s.gyroMissed.clock = s.clock ∧ s.gyroMissed.settings = s.settings ∧
    s.gyroMissed.fc = s.fc ∧ s.gyroMissed.af = s.af ∧ s.gyroMissed.store = s.store ∧ s.gyroMissed.rq = s.rq ∧
    s.gyroMissed.loader = s.loader ∧ s.gyroMissed.epoch = s.epoch ∧ s.gyroMissed.free = s.free := by
  unfold State.gyroMissed; (repeat' split) <;> simp

@[simp] theorem State.recenterTick_frame (s : State) :
    s.recenterTick.pending = s.pending ∧ s.recenterTick.clock = s.clock ∧ s.recenterTick.settings = s.settings ∧
    s.recenterTick.fc = s.fc ∧ s.recenterTick.st = s.st ∧ s.recenterTick.ep = s.ep ∧ s.recenterTick.lens = s.lens ∧
    s.recenterTick.af = s.af ∧ s.recenterTick.store = s.store ∧ s.recenterTick.rq = s.rq ∧
    s.recenterTick.loader = s.loader ∧ s.recenterTick.epoch = s.epoch ∧ s.recenterTick.free = s.free ∧
    s.recenterTick.outs = s.outs := by
  simp only [State.recenterTick]; (repeat' split) <;> simp

@[simp] theorem State.residualStart_frame (s : State) :
    s.residualStart.pending = s.pending ∧ s.residualStart.clock = s.clock ∧ s.residualStart.settings = s.settings ∧
    s.residualStart.fc = s.fc ∧ s.residualStart.st = s.st ∧ s.residualStart.ep = s.ep ∧
    s.residualStart.lens = s.lens ∧ s.residualStart.af = s.af ∧ s.residualStart.store = s.store ∧
    s.residualStart.rq = s.rq ∧ s.residualStart.links = s.links ∧ s.residualStart.loader = s.loader ∧
    s.residualStart.epoch = s.epoch ∧ s.residualStart.free = s.free ∧ s.residualStart.outs = s.outs := by
  unfold State.residualStart; (repeat' split) <;> simp

@[simp] theorem State.gradeEnd_frame (s : State) :
    s.gradeEnd.pending = s.pending ∧ s.gradeEnd.clock = s.clock ∧ s.gradeEnd.settings = s.settings ∧
    s.gradeEnd.fc = s.fc ∧ s.gradeEnd.af = s.af ∧ s.gradeEnd.store = s.store ∧ s.gradeEnd.rq = s.rq ∧
    s.gradeEnd.links = s.links ∧ s.gradeEnd.loader = s.loader ∧ s.gradeEnd.epoch = s.epoch ∧
    s.gradeEnd.free = s.free ∧ s.gradeEnd.outs = s.outs := by
  unfold State.gradeEnd; (repeat' split) <;> simp

@[simp] theorem State.stopSampling_frame (s : State) :
    s.stopSampling.pending = s.pending ∧ s.stopSampling.clock = s.clock ∧ s.stopSampling.settings = s.settings ∧
    s.stopSampling.fc = s.fc ∧ s.stopSampling.st = s.st ∧ s.stopSampling.ep = s.ep ∧ s.stopSampling.lens = s.lens ∧
    s.stopSampling.af = s.af ∧ s.stopSampling.store = s.store ∧ s.stopSampling.rq = s.rq ∧
    s.stopSampling.links = s.links ∧ s.stopSampling.loader = s.loader ∧ s.stopSampling.epoch = s.epoch ∧
    s.stopSampling.free = s.free := by
  unfold State.stopSampling; (repeat' split) <;> simp

@[simp] theorem State.resumeSampling_frame (s : State) :
    s.resumeSampling.pending = s.pending ∧ s.resumeSampling.clock = s.clock ∧
    s.resumeSampling.settings = s.settings ∧ s.resumeSampling.fc = s.fc ∧ s.resumeSampling.st = s.st ∧
    s.resumeSampling.ep = s.ep ∧ s.resumeSampling.lens = s.lens ∧ s.resumeSampling.af = s.af ∧
    s.resumeSampling.store = s.store ∧ s.resumeSampling.rq = s.rq ∧ s.resumeSampling.links = s.links ∧
    s.resumeSampling.loader = s.loader ∧ s.resumeSampling.epoch = s.epoch ∧ s.resumeSampling.free = s.free := by
  unfold State.resumeSampling; (repeat' split) <;> simp

@[simp] theorem State.stabRestart_frame (s : State) :
    s.stabRestart.pending = s.pending ∧ s.stabRestart.clock = s.clock ∧ s.stabRestart.settings = s.settings ∧
    s.stabRestart.fc = s.fc ∧ s.stabRestart.af = s.af ∧ s.stabRestart.store = s.store ∧ s.stabRestart.rq = s.rq ∧
    s.stabRestart.links = s.links ∧ s.stabRestart.loader = s.loader ∧ s.stabRestart.epoch = s.epoch ∧
    s.stabRestart.free = s.free := by
  unfold State.stabRestart; (repeat' split) <;> simp

@[simp] theorem State.stabSoftReset_frame (s : State) :
    s.stabSoftReset.pending = s.pending ∧ s.stabSoftReset.clock = s.clock ∧ s.stabSoftReset.settings = s.settings ∧
    s.stabSoftReset.fc = s.fc ∧ s.stabSoftReset.st = s.st ∧ s.stabSoftReset.ep = s.ep ∧
    s.stabSoftReset.lens = s.lens ∧ s.stabSoftReset.af = s.af ∧ s.stabSoftReset.store = s.store ∧
    s.stabSoftReset.rq = s.rq ∧ s.stabSoftReset.links = s.links ∧ s.stabSoftReset.loader = s.loader ∧
    s.stabSoftReset.epoch = s.epoch ∧ s.stabSoftReset.free = s.free := by
  unfold State.stabSoftReset; (repeat' split) <;> simp

@[simp] theorem State.staleRestart_frame (s : State) :
    s.staleRestart.pending = s.pending ∧ s.staleRestart.clock = s.clock ∧ s.staleRestart.settings = s.settings ∧
    s.staleRestart.fc = s.fc ∧ s.staleRestart.st = s.st ∧ s.staleRestart.ep = s.ep ∧ s.staleRestart.lens = s.lens ∧
    s.staleRestart.af = s.af ∧ s.staleRestart.stab = s.stab ∧ s.staleRestart.store = s.store ∧
    s.staleRestart.links = s.links ∧ s.staleRestart.loader = s.loader ∧ s.staleRestart.epoch = s.epoch ∧
    s.staleRestart.free = s.free ∧ s.staleRestart.outs = s.outs := by
  unfold State.staleRestart; (repeat' split) <;> simp

@[simp] theorem State.staleThreshold_frame (s : State) (old : Nat) :
    (s.staleThreshold old).pending = s.pending ∧ (s.staleThreshold old).clock = s.clock ∧
    (s.staleThreshold old).settings = s.settings ∧ (s.staleThreshold old).fc = s.fc ∧
    (s.staleThreshold old).st = s.st ∧ (s.staleThreshold old).ep = s.ep ∧ (s.staleThreshold old).lens = s.lens ∧
    (s.staleThreshold old).af = s.af ∧ (s.staleThreshold old).stab = s.stab ∧
    (s.staleThreshold old).store = s.store ∧ (s.staleThreshold old).links = s.links ∧
    (s.staleThreshold old).loader = s.loader ∧ (s.staleThreshold old).epoch = s.epoch ∧
    (s.staleThreshold old).free = s.free ∧ (s.staleThreshold old).outs = s.outs := by
  unfold State.staleThreshold; (repeat' split) <;> simp

@[simp] theorem State.recordOpen_frame (s : State) (slot : Nat) (mode : BurstMode) :
    (s.recordOpen slot mode).pending = s.pending ∧ (s.recordOpen slot mode).clock = s.clock ∧
    (s.recordOpen slot mode).settings = s.settings ∧ (s.recordOpen slot mode).fc = s.fc ∧
    (s.recordOpen slot mode).st = s.st ∧ (s.recordOpen slot mode).ep = s.ep ∧
    (s.recordOpen slot mode).lens = s.lens ∧ (s.recordOpen slot mode).af = s.af ∧
    (s.recordOpen slot mode).stab = s.stab ∧ (s.recordOpen slot mode).store = s.store ∧
    (s.recordOpen slot mode).links = s.links ∧ (s.recordOpen slot mode).loader = s.loader ∧
    (s.recordOpen slot mode).epoch = s.epoch ∧ (s.recordOpen slot mode).free = s.free ∧
    (s.recordOpen slot mode).outs = s.outs := by
  unfold State.recordOpen; (repeat' split) <;> simp

@[simp] theorem State.recordStart_frame (s : State) (part : StartPart) :
    (s.recordStart part).pending = s.pending ∧ (s.recordStart part).clock = s.clock ∧
    (s.recordStart part).settings = s.settings ∧ (s.recordStart part).fc = s.fc ∧ (s.recordStart part).st = s.st ∧
    (s.recordStart part).ep = s.ep ∧ (s.recordStart part).lens = s.lens ∧ (s.recordStart part).af = s.af ∧
    (s.recordStart part).stab = s.stab ∧ (s.recordStart part).store = s.store ∧
    (s.recordStart part).links = s.links ∧ (s.recordStart part).loader = s.loader ∧
    (s.recordStart part).epoch = s.epoch ∧ (s.recordStart part).free = s.free ∧
    (s.recordStart part).outs = s.outs := by
  unfold State.recordStart; (repeat' split) <;> simp

@[simp] theorem State.recordEnd_frame (s : State) :
    s.recordEnd.pending = s.pending ∧ s.recordEnd.clock = s.clock ∧ s.recordEnd.settings = s.settings ∧
    s.recordEnd.fc = s.fc ∧ s.recordEnd.st = s.st ∧ s.recordEnd.ep = s.ep ∧ s.recordEnd.lens = s.lens ∧
    s.recordEnd.af = s.af ∧ s.recordEnd.stab = s.stab ∧ s.recordEnd.store = s.store ∧ s.recordEnd.links = s.links ∧
    s.recordEnd.loader = s.loader ∧ s.recordEnd.epoch = s.epoch ∧ s.recordEnd.free = s.free ∧
    s.recordEnd.outs = s.outs := by
  unfold State.recordEnd; (repeat' split) <;> simp

@[simp] theorem State.recordAppend_frame (s : State) (r : CaptureRecord) :
    (s.recordAppend r).pending = s.pending ∧ (s.recordAppend r).clock = s.clock ∧
    (s.recordAppend r).settings = s.settings ∧ (s.recordAppend r).fc = s.fc ∧ (s.recordAppend r).st = s.st ∧
    (s.recordAppend r).ep = s.ep ∧ (s.recordAppend r).lens = s.lens ∧ (s.recordAppend r).af = s.af ∧
    (s.recordAppend r).stab = s.stab ∧ (s.recordAppend r).store = s.store ∧ (s.recordAppend r).loader = s.loader ∧
    (s.recordAppend r).epoch = s.epoch ∧ (s.recordAppend r).free = s.free ∧ (s.recordAppend r).outs = s.outs := by
  simp only [State.recordAppend]; (repeat' split) <;> simp

@[simp] theorem State.recordComplete_frame (s : State) (timedOut : Bool) :
    (s.recordComplete timedOut).pending = s.pending ∧ (s.recordComplete timedOut).clock = s.clock ∧
    (s.recordComplete timedOut).settings = s.settings ∧ (s.recordComplete timedOut).fc = s.fc ∧
    (s.recordComplete timedOut).st = s.st ∧ (s.recordComplete timedOut).ep = s.ep ∧
    (s.recordComplete timedOut).lens = s.lens ∧ (s.recordComplete timedOut).af = s.af ∧
    (s.recordComplete timedOut).stab = s.stab ∧ (s.recordComplete timedOut).store = s.store ∧
    (s.recordComplete timedOut).loader = s.loader ∧ (s.recordComplete timedOut).epoch = s.epoch ∧
    (s.recordComplete timedOut).free = s.free ∧ (s.recordComplete timedOut).outs = s.outs := by
  unfold State.recordComplete; (repeat' split) <;> simp

@[simp] theorem State.take_frame (s : State) (capNo : Word32) :
    (s.take capNo).pending = s.pending ∧ (s.take capNo).clock = s.clock ∧ (s.take capNo).settings = s.settings ∧
    (s.take capNo).fc = s.fc ∧ (s.take capNo).st = s.st ∧ (s.take capNo).ep = s.ep ∧ (s.take capNo).lens = s.lens ∧
    (s.take capNo).af = s.af ∧ (s.take capNo).stab = s.stab ∧ (s.take capNo).store = s.store ∧
    (s.take capNo).links = s.links ∧ (s.take capNo).loader = s.loader ∧ (s.take capNo).epoch = s.epoch ∧
    (s.take capNo).free = s.free ∧ (s.take capNo).outs = s.outs := by
  unfold State.take; (repeat' split) <;> simp

@[simp] theorem State.withdraw_frame (s : State) (slot : Nat) :
    (s.withdraw slot).pending = s.pending ∧ (s.withdraw slot).clock = s.clock ∧
    (s.withdraw slot).settings = s.settings ∧ (s.withdraw slot).fc = s.fc ∧ (s.withdraw slot).st = s.st ∧
    (s.withdraw slot).ep = s.ep ∧ (s.withdraw slot).lens = s.lens ∧ (s.withdraw slot).af = s.af ∧
    (s.withdraw slot).stab = s.stab ∧ (s.withdraw slot).store = s.store ∧ (s.withdraw slot).links = s.links ∧
    (s.withdraw slot).loader = s.loader ∧ (s.withdraw slot).epoch = s.epoch ∧ (s.withdraw slot).free = s.free ∧
    (s.withdraw slot).outs = s.outs := by
  unfold State.withdraw; (repeat' split) <;> simp

@[simp] theorem State.recordSoftReset_frame (s : State) (inFlight : Bool) :
    (s.recordSoftReset inFlight).pending = s.pending ∧ (s.recordSoftReset inFlight).clock = s.clock ∧
    (s.recordSoftReset inFlight).settings = s.settings ∧ (s.recordSoftReset inFlight).fc = s.fc ∧
    (s.recordSoftReset inFlight).st = s.st ∧ (s.recordSoftReset inFlight).ep = s.ep ∧
    (s.recordSoftReset inFlight).lens = s.lens ∧ (s.recordSoftReset inFlight).af = s.af ∧
    (s.recordSoftReset inFlight).stab = s.stab ∧ (s.recordSoftReset inFlight).store = s.store ∧
    (s.recordSoftReset inFlight).links = s.links ∧ (s.recordSoftReset inFlight).loader = s.loader ∧
    (s.recordSoftReset inFlight).epoch = s.epoch ∧ (s.recordSoftReset inFlight).free = s.free ∧
    (s.recordSoftReset inFlight).outs = s.outs := by
  unfold State.recordSoftReset; (repeat' split) <;> simp

@[simp] theorem State.arbitrate_frame (s : State) :
    s.arbitrate.pending = s.pending ∧ s.arbitrate.clock = s.clock ∧ s.arbitrate.settings = s.settings ∧
    s.arbitrate.fc = s.fc ∧ s.arbitrate.st = s.st ∧ s.arbitrate.ep = s.ep ∧ s.arbitrate.lens = s.lens ∧
    s.arbitrate.af = s.af ∧ s.arbitrate.stab = s.stab ∧ s.arbitrate.rq = s.rq ∧ s.arbitrate.links = s.links ∧
    s.arbitrate.loader = s.loader ∧ s.arbitrate.epoch = s.epoch ∧ s.arbitrate.free = s.free ∧
    s.arbitrate.outs = s.outs := by
  unfold State.arbitrate; (repeat' split) <;> simp

@[simp] theorem State.enterSelfRefresh_frame (s : State) :
    s.enterSelfRefresh.pending = s.pending ∧ s.enterSelfRefresh.clock = s.clock ∧
    s.enterSelfRefresh.settings = s.settings ∧ s.enterSelfRefresh.fc = s.fc ∧ s.enterSelfRefresh.st = s.st ∧
    s.enterSelfRefresh.ep = s.ep ∧ s.enterSelfRefresh.lens = s.lens ∧ s.enterSelfRefresh.af = s.af ∧
    s.enterSelfRefresh.stab = s.stab ∧ s.enterSelfRefresh.rq = s.rq ∧ s.enterSelfRefresh.links = s.links ∧
    s.enterSelfRefresh.loader = s.loader ∧ s.enterSelfRefresh.epoch = s.epoch ∧ s.enterSelfRefresh.free = s.free ∧
    s.enterSelfRefresh.outs = s.outs := by
  unfold State.enterSelfRefresh; (repeat' split) <;> simp

@[simp] theorem State.storeSettle_frame (s : State) :
    s.storeSettle.pending = s.pending ∧ s.storeSettle.clock = s.clock ∧ s.storeSettle.settings = s.settings ∧
    s.storeSettle.fc = s.fc ∧ s.storeSettle.st = s.st ∧ s.storeSettle.ep = s.ep ∧ s.storeSettle.lens = s.lens ∧
    s.storeSettle.af = s.af ∧ s.storeSettle.stab = s.stab ∧ s.storeSettle.rq = s.rq ∧ s.storeSettle.links = s.links ∧
    s.storeSettle.loader = s.loader ∧ s.storeSettle.epoch = s.epoch ∧ s.storeSettle.free = s.free ∧
    s.storeSettle.outs = s.outs := by
  unfold State.storeSettle; (repeat' split) <;> simp

@[simp] theorem State.leaveSelfRefresh_frame (s : State) :
    s.leaveSelfRefresh.pending = s.pending ∧ s.leaveSelfRefresh.clock = s.clock ∧
    s.leaveSelfRefresh.settings = s.settings ∧ s.leaveSelfRefresh.fc = s.fc ∧ s.leaveSelfRefresh.st = s.st ∧
    s.leaveSelfRefresh.ep = s.ep ∧ s.leaveSelfRefresh.lens = s.lens ∧ s.leaveSelfRefresh.af = s.af ∧
    s.leaveSelfRefresh.stab = s.stab ∧ s.leaveSelfRefresh.rq = s.rq ∧ s.leaveSelfRefresh.links = s.links ∧
    s.leaveSelfRefresh.loader = s.loader ∧ s.leaveSelfRefresh.epoch = s.epoch ∧ s.leaveSelfRefresh.free = s.free ∧
    s.leaveSelfRefresh.outs = s.outs := by
  unfold State.leaveSelfRefresh; (repeat' split) <;> simp

@[simp] theorem State.startupEnd_frame (s : State) :
    s.startupEnd.pending = s.pending ∧ s.startupEnd.clock = s.clock ∧ s.startupEnd.settings = s.settings ∧
    s.startupEnd.fc = s.fc ∧ s.startupEnd.st = s.st ∧ s.startupEnd.ep = s.ep ∧ s.startupEnd.lens = s.lens ∧
    s.startupEnd.af = s.af ∧ s.startupEnd.stab = s.stab ∧ s.startupEnd.rq = s.rq ∧ s.startupEnd.links = s.links ∧
    s.startupEnd.loader = s.loader ∧ s.startupEnd.epoch = s.epoch ∧ s.startupEnd.free = s.free ∧
    s.startupEnd.outs = s.outs := by
  unfold State.startupEnd; (repeat' split) <;> simp

@[simp] theorem State.trickleEnd_frame (s : State) :
    s.trickleEnd.pending = s.pending ∧ s.trickleEnd.clock = s.clock ∧ s.trickleEnd.settings = s.settings ∧
    s.trickleEnd.fc = s.fc ∧ s.trickleEnd.st = s.st ∧ s.trickleEnd.ep = s.ep ∧ s.trickleEnd.lens = s.lens ∧
    s.trickleEnd.af = s.af ∧ s.trickleEnd.stab = s.stab ∧ s.trickleEnd.rq = s.rq ∧ s.trickleEnd.links = s.links ∧
    s.trickleEnd.loader = s.loader ∧ s.trickleEnd.epoch = s.epoch ∧ s.trickleEnd.free = s.free ∧
    s.trickleEnd.outs = s.outs := by
  unfold State.trickleEnd; (repeat' split) <;> simp

@[simp] theorem State.slotFill_frame (s : State) (slot : Nat) :
    (s.slotFill slot).pending = s.pending ∧ (s.slotFill slot).clock = s.clock ∧
    (s.slotFill slot).settings = s.settings ∧ (s.slotFill slot).fc = s.fc ∧ (s.slotFill slot).st = s.st ∧
    (s.slotFill slot).ep = s.ep ∧ (s.slotFill slot).lens = s.lens ∧ (s.slotFill slot).af = s.af ∧
    (s.slotFill slot).stab = s.stab ∧ (s.slotFill slot).rq = s.rq ∧ (s.slotFill slot).links = s.links ∧
    (s.slotFill slot).loader = s.loader ∧ (s.slotFill slot).epoch = s.epoch ∧ (s.slotFill slot).free = s.free ∧
    (s.slotFill slot).outs = s.outs := by
  unfold State.slotFill; (repeat' split) <;> simp

@[simp] theorem State.ingestByte_frame (s : State) (v : Byte) :
    (s.ingestByte v).pending = s.pending ∧ (s.ingestByte v).clock = s.clock ∧
    (s.ingestByte v).settings = s.settings ∧ (s.ingestByte v).fc = s.fc ∧ (s.ingestByte v).st = s.st ∧
    (s.ingestByte v).ep = s.ep ∧ (s.ingestByte v).lens = s.lens ∧ (s.ingestByte v).af = s.af ∧
    (s.ingestByte v).stab = s.stab ∧ (s.ingestByte v).rq = s.rq ∧ (s.ingestByte v).loader = s.loader ∧
    (s.ingestByte v).epoch = s.epoch ∧ (s.ingestByte v).free = s.free ∧ (s.ingestByte v).outs = s.outs := by
  simp only [State.ingestByte]; (repeat' split) <;> simp

@[simp] theorem State.slotFull_frame (s : State) (timedOut : Bool) :
    (s.slotFull timedOut).pending = s.pending ∧ (s.slotFull timedOut).clock = s.clock ∧
    (s.slotFull timedOut).settings = s.settings ∧ (s.slotFull timedOut).fc = s.fc ∧ (s.slotFull timedOut).st = s.st ∧
    (s.slotFull timedOut).ep = s.ep ∧ (s.slotFull timedOut).lens = s.lens ∧ (s.slotFull timedOut).af = s.af ∧
    (s.slotFull timedOut).stab = s.stab ∧ (s.slotFull timedOut).rq = s.rq ∧ (s.slotFull timedOut).links = s.links ∧
    (s.slotFull timedOut).loader = s.loader ∧ (s.slotFull timedOut).epoch = s.epoch ∧
    (s.slotFull timedOut).free = s.free ∧ (s.slotFull timedOut).outs = s.outs := by
  unfold State.slotFull; (repeat' split) <;> simp

@[simp] theorem State.stallUpdate_frame (s : State) (p : Port) :
    (s.stallUpdate p).pending = s.pending ∧ (s.stallUpdate p).clock = s.clock ∧
    (s.stallUpdate p).settings = s.settings ∧ (s.stallUpdate p).fc = s.fc ∧ (s.stallUpdate p).st = s.st ∧
    (s.stallUpdate p).ep = s.ep ∧ (s.stallUpdate p).lens = s.lens ∧ (s.stallUpdate p).af = s.af ∧
    (s.stallUpdate p).stab = s.stab ∧ (s.stallUpdate p).rq = s.rq ∧ (s.stallUpdate p).links = s.links ∧
    (s.stallUpdate p).loader = s.loader ∧ (s.stallUpdate p).epoch = s.epoch ∧ (s.stallUpdate p).free = s.free ∧
    (s.stallUpdate p).outs = s.outs := by
  unfold State.stallUpdate; (repeat' split) <;> simp

@[simp] theorem State.streamClose_frame (s : State) (p : Port) (reason : EndReason) (drained : SlotState) :
    (s.streamClose p reason drained).pending = s.pending ∧ (s.streamClose p reason drained).clock = s.clock ∧
    (s.streamClose p reason drained).settings = s.settings ∧ (s.streamClose p reason drained).fc = s.fc ∧
    (s.streamClose p reason drained).st = s.st ∧ (s.streamClose p reason drained).ep = s.ep ∧
    (s.streamClose p reason drained).lens = s.lens ∧ (s.streamClose p reason drained).af = s.af ∧
    (s.streamClose p reason drained).stab = s.stab ∧ (s.streamClose p reason drained).rq = s.rq ∧
    (s.streamClose p reason drained).links = s.links ∧ (s.streamClose p reason drained).loader = s.loader ∧
    (s.streamClose p reason drained).epoch = s.epoch ∧ (s.streamClose p reason drained).free = s.free ∧
    (s.streamClose p reason drained).outs = s.outs := by
  unfold State.streamClose; (repeat' split) <;> simp

@[simp] theorem State.streamDone_frame (s : State) (p : Port) :
    (s.streamDone p).pending = s.pending ∧ (s.streamDone p).clock = s.clock ∧
    (s.streamDone p).settings = s.settings ∧ (s.streamDone p).fc = s.fc ∧ (s.streamDone p).st = s.st ∧
    (s.streamDone p).ep = s.ep ∧ (s.streamDone p).lens = s.lens ∧ (s.streamDone p).af = s.af ∧
    (s.streamDone p).stab = s.stab ∧ (s.streamDone p).rq = s.rq ∧ (s.streamDone p).loader = s.loader ∧
    (s.streamDone p).epoch = s.epoch ∧ (s.streamDone p).free = s.free ∧ (s.streamDone p).outs = s.outs := by
  unfold State.streamDone; (repeat' split) <;> simp

@[simp] theorem State.streamOpen_frame (s : State) (p : Port) (kind : StreamKind) (slot first endOff : Nat) :
    (s.streamOpen p kind slot first endOff).pending = s.pending ∧
    (s.streamOpen p kind slot first endOff).clock = s.clock ∧
    (s.streamOpen p kind slot first endOff).settings = s.settings ∧
    (s.streamOpen p kind slot first endOff).fc = s.fc ∧ (s.streamOpen p kind slot first endOff).st = s.st ∧
    (s.streamOpen p kind slot first endOff).ep = s.ep ∧ (s.streamOpen p kind slot first endOff).lens = s.lens ∧
    (s.streamOpen p kind slot first endOff).af = s.af ∧ (s.streamOpen p kind slot first endOff).stab = s.stab ∧
    (s.streamOpen p kind slot first endOff).rq = s.rq ∧ (s.streamOpen p kind slot first endOff).loader = s.loader ∧
    (s.streamOpen p kind slot first endOff).epoch = s.epoch ∧ (s.streamOpen p kind slot first endOff).free = s.free ∧
    (s.streamOpen p kind slot first endOff).outs = s.outs := by
  unfold State.streamOpen; (repeat' split) <;> simp

@[simp] theorem State.streamByteOut_frame (s : State) (p : Port) :
    (s.streamByteOut p).pending = s.pending ∧ (s.streamByteOut p).clock = s.clock ∧
    (s.streamByteOut p).settings = s.settings ∧ (s.streamByteOut p).fc = s.fc ∧ (s.streamByteOut p).st = s.st ∧
    (s.streamByteOut p).ep = s.ep ∧ (s.streamByteOut p).lens = s.lens ∧ (s.streamByteOut p).af = s.af ∧
    (s.streamByteOut p).stab = s.stab ∧ (s.streamByteOut p).rq = s.rq ∧ (s.streamByteOut p).loader = s.loader ∧
    (s.streamByteOut p).epoch = s.epoch ∧ (s.streamByteOut p).free = s.free := by
  unfold State.streamByteOut; (repeat' split) <;> simp

@[simp] theorem State.streamCut_frame (s : State) (p : Port) :
    (s.streamCut p).pending = s.pending ∧ (s.streamCut p).clock = s.clock ∧ (s.streamCut p).settings = s.settings ∧
    (s.streamCut p).fc = s.fc ∧ (s.streamCut p).st = s.st ∧ (s.streamCut p).ep = s.ep ∧
    (s.streamCut p).lens = s.lens ∧ (s.streamCut p).af = s.af ∧ (s.streamCut p).stab = s.stab ∧
    (s.streamCut p).rq = s.rq ∧ (s.streamCut p).loader = s.loader ∧ (s.streamCut p).epoch = s.epoch ∧
    (s.streamCut p).free = s.free ∧ (s.streamCut p).outs = s.outs := by
  unfold State.streamCut; (repeat' split) <;> simp

@[simp] theorem State.streamData_frame (s : State) (p : Port) (n : Nat) :
    (s.streamData p n).pending = s.pending ∧ (s.streamData p n).clock = s.clock ∧
    (s.streamData p n).settings = s.settings ∧ (s.streamData p n).fc = s.fc ∧ (s.streamData p n).st = s.st ∧
    (s.streamData p n).ep = s.ep ∧ (s.streamData p n).lens = s.lens ∧ (s.streamData p n).af = s.af ∧
    (s.streamData p n).stab = s.stab ∧ (s.streamData p n).rq = s.rq ∧ (s.streamData p n).links = s.links ∧
    (s.streamData p n).loader = s.loader ∧ (s.streamData p n).epoch = s.epoch ∧ (s.streamData p n).free = s.free ∧
    (s.streamData p n).outs = s.outs := by
  unfold State.streamData; (repeat' split) <;> simp

@[simp] theorem State.grantDone_frame (s : State) :
    s.grantDone.pending = s.pending ∧ s.grantDone.clock = s.clock ∧ s.grantDone.settings = s.settings ∧
    s.grantDone.fc = s.fc ∧ s.grantDone.st = s.st ∧ s.grantDone.ep = s.ep ∧ s.grantDone.lens = s.lens ∧
    s.grantDone.af = s.af ∧ s.grantDone.stab = s.stab ∧ s.grantDone.rq = s.rq ∧ s.grantDone.links = s.links ∧
    s.grantDone.loader = s.loader ∧ s.grantDone.epoch = s.epoch ∧ s.grantDone.free = s.free ∧
    s.grantDone.outs = s.outs := by
  unfold State.grantDone; (repeat' split) <;> simp

@[simp] theorem State.slotRelease_frame (s : State) (slot : Nat) :
    (s.slotRelease slot).pending = s.pending ∧ (s.slotRelease slot).clock = s.clock ∧
    (s.slotRelease slot).settings = s.settings ∧ (s.slotRelease slot).fc = s.fc ∧ (s.slotRelease slot).st = s.st ∧
    (s.slotRelease slot).ep = s.ep ∧ (s.slotRelease slot).lens = s.lens ∧ (s.slotRelease slot).af = s.af ∧
    (s.slotRelease slot).stab = s.stab ∧ (s.slotRelease slot).loader = s.loader ∧
    (s.slotRelease slot).epoch = s.epoch ∧ (s.slotRelease slot).free = s.free ∧
    (s.slotRelease slot).outs = s.outs := by
  simp only [State.slotRelease]; (repeat' split) <;> simp

@[simp] theorem State.clearStream_frame (l : List Nat) (s : State) (p : Port) :
    (State.clearStream l s p).pending = s.pending ∧ (State.clearStream l s p).clock = s.clock ∧
    (State.clearStream l s p).settings = s.settings ∧ (State.clearStream l s p).fc = s.fc ∧ (State.clearStream l s p).st = s.st ∧
    (State.clearStream l s p).ep = s.ep ∧ (State.clearStream l s p).lens = s.lens ∧ (State.clearStream l s p).af = s.af ∧
    (State.clearStream l s p).stab = s.stab ∧ (State.clearStream l s p).rq = s.rq ∧ (State.clearStream l s p).loader = s.loader ∧
    (State.clearStream l s p).epoch = s.epoch ∧ (State.clearStream l s p).free = s.free ∧ (State.clearStream l s p).outs = s.outs := by
  unfold State.clearStream; (repeat' split) <;> simp

/-- A fold keeps what each of its steps keeps. -/
theorem State.foldl_frame {α : Type} (f : State → α → State) {β : Type} (get : State → β)
    (h : ∀ s a, get (f s a) = get s) (l : List α) (s : State) : get (l.foldl f s) = get s := by
  induction l generalizing s with
  | nil => rfl
  | cons a l ih => simp [ih, h]

@[simp] theorem State.clearAll_frame (s : State) (l : List Nat) :
    (s.clearAll l).pending = s.pending ∧ (s.clearAll l).clock = s.clock ∧ (s.clearAll l).settings = s.settings ∧
    (s.clearAll l).fc = s.fc ∧ (s.clearAll l).st = s.st ∧ (s.clearAll l).ep = s.ep ∧ (s.clearAll l).lens = s.lens ∧
    (s.clearAll l).af = s.af ∧ (s.clearAll l).stab = s.stab ∧ (s.clearAll l).loader = s.loader ∧
    (s.clearAll l).epoch = s.epoch ∧ (s.clearAll l).free = s.free ∧ (s.clearAll l).outs = s.outs := by
  refine ⟨?_, ?_, ?_, ?_, ?_, ?_, ?_, ?_, ?_, ?_, ?_, ?_, ?_⟩ <;>
    (simp only [State.clearAll]; split <;> simp only [State.storeSettle_frame, State.raise_frame])
  all_goals
    (first
      | rw [State.foldl_frame (get := State.pending)] | rw [State.foldl_frame (get := State.clock)]
      | rw [State.foldl_frame (get := State.settings)] | rw [State.foldl_frame (get := State.fc)]
      | rw [State.foldl_frame (get := State.st)] | rw [State.foldl_frame (get := State.ep)]
      | rw [State.foldl_frame (get := State.lens)] | rw [State.foldl_frame (get := State.af)]
      | rw [State.foldl_frame (get := State.stab)] | rw [State.foldl_frame (get := State.loader)]
      | rw [State.foldl_frame (get := State.epoch)] | rw [State.foldl_frame (get := State.free)]
      | rw [State.foldl_frame (get := State.outs)]) <;> simp [List.foldl]

@[simp] theorem State.storeClear_frame (s : State) :
    s.storeClear.pending = s.pending ∧ s.storeClear.clock = s.clock ∧ s.storeClear.settings = s.settings ∧
    s.storeClear.fc = s.fc ∧ s.storeClear.st = s.st ∧ s.storeClear.ep = s.ep ∧ s.storeClear.lens = s.lens ∧
    s.storeClear.af = s.af ∧ s.storeClear.stab = s.stab ∧ s.storeClear.loader = s.loader ∧
    s.storeClear.epoch = s.epoch ∧ s.storeClear.free = s.free ∧ s.storeClear.outs = s.outs := by
  unfold State.storeClear; split <;> simp

@[simp] theorem State.reinterpolate_frame (s : State) :
    s.reinterpolate.pending = s.pending ∧ s.reinterpolate.clock = s.clock ∧ s.reinterpolate.settings = s.settings ∧
    s.reinterpolate.fc = s.fc ∧ s.reinterpolate.af = s.af ∧ s.reinterpolate.store = s.store ∧
    s.reinterpolate.rq = s.rq ∧ s.reinterpolate.links = s.links ∧ s.reinterpolate.loader = s.loader ∧
    s.reinterpolate.epoch = s.epoch ∧ s.reinterpolate.free = s.free ∧ s.reinterpolate.outs = s.outs := by
  unfold State.reinterpolate; (repeat' split) <;> simp

@[simp] theorem State.requestFocus_frame (s : State) (target : Int) (origin : Origin) :
    (s.requestFocus target origin).pending = s.pending ∧ (s.requestFocus target origin).clock = s.clock ∧
    (s.requestFocus target origin).settings = s.settings ∧ (s.requestFocus target origin).fc = s.fc ∧
    (s.requestFocus target origin).ep = s.ep ∧ (s.requestFocus target origin).stab = s.stab ∧
    (s.requestFocus target origin).store = s.store ∧ (s.requestFocus target origin).rq = s.rq ∧
    (s.requestFocus target origin).loader = s.loader ∧ (s.requestFocus target origin).epoch = s.epoch ∧
    (s.requestFocus target origin).free = s.free ∧ (s.requestFocus target origin).outs = s.outs := by
  simp only [State.requestFocus]; (repeat' split) <;> simp

@[simp] theorem State.trackFocus_frame (s : State) :
    s.trackFocus.pending = s.pending ∧ s.trackFocus.clock = s.clock ∧ s.trackFocus.settings = s.settings ∧
    s.trackFocus.fc = s.fc ∧ s.trackFocus.ep = s.ep ∧ s.trackFocus.stab = s.stab ∧ s.trackFocus.store = s.store ∧
    s.trackFocus.rq = s.rq ∧ s.trackFocus.loader = s.loader ∧ s.trackFocus.epoch = s.epoch ∧
    s.trackFocus.free = s.free ∧ s.trackFocus.outs = s.outs := by
  unfold State.trackFocus; (repeat' split) <;> simp

@[simp] theorem State.trackIris_frame (s : State) :
    s.trackIris.pending = s.pending ∧ s.trackIris.clock = s.clock ∧ s.trackIris.settings = s.settings ∧
    s.trackIris.fc = s.fc ∧ s.trackIris.ep = s.ep ∧ s.trackIris.af = s.af ∧ s.trackIris.stab = s.stab ∧
    s.trackIris.store = s.store ∧ s.trackIris.rq = s.rq ∧ s.trackIris.links = s.links ∧
    s.trackIris.loader = s.loader ∧ s.trackIris.epoch = s.epoch ∧ s.trackIris.free = s.free ∧
    s.trackIris.outs = s.outs := by
  unfold State.trackIris; (repeat' split) <;> simp

@[simp] theorem State.trackingPoint_frame (s : State) :
    s.trackingPoint.pending = s.pending ∧ s.trackingPoint.clock = s.clock ∧ s.trackingPoint.settings = s.settings ∧
    s.trackingPoint.fc = s.fc ∧ s.trackingPoint.ep = s.ep ∧ s.trackingPoint.stab = s.stab ∧
    s.trackingPoint.store = s.store ∧ s.trackingPoint.rq = s.rq ∧ s.trackingPoint.loader = s.loader ∧
    s.trackingPoint.epoch = s.epoch ∧ s.trackingPoint.free = s.free ∧ s.trackingPoint.outs = s.outs := by
  unfold State.trackingPoint; (repeat' split) <;> simp

@[simp] theorem State.zoomDone_frame (s : State) (origin : Origin) :
    (s.zoomDone origin).pending = s.pending ∧ (s.zoomDone origin).clock = s.clock ∧
    (s.zoomDone origin).settings = s.settings ∧ (s.zoomDone origin).fc = s.fc ∧ (s.zoomDone origin).ep = s.ep ∧
    (s.zoomDone origin).stab = s.stab ∧ (s.zoomDone origin).store = s.store ∧ (s.zoomDone origin).rq = s.rq ∧
    (s.zoomDone origin).loader = s.loader ∧ (s.zoomDone origin).epoch = s.epoch ∧ (s.zoomDone origin).free = s.free ∧
    (s.zoomDone origin).outs = s.outs := by
  unfold State.zoomDone; (repeat' split) <;> simp

@[simp] theorem State.requestZoom_frame (s : State) (target : Int) (origin : Origin) (speed : Nat) :
    (s.requestZoom target origin speed).pending = s.pending ∧ (s.requestZoom target origin speed).clock = s.clock ∧
    (s.requestZoom target origin speed).settings = s.settings ∧ (s.requestZoom target origin speed).fc = s.fc ∧
    (s.requestZoom target origin speed).ep = s.ep ∧ (s.requestZoom target origin speed).stab = s.stab ∧
    (s.requestZoom target origin speed).store = s.store ∧ (s.requestZoom target origin speed).rq = s.rq ∧
    (s.requestZoom target origin speed).loader = s.loader ∧ (s.requestZoom target origin speed).epoch = s.epoch ∧
    (s.requestZoom target origin speed).free = s.free ∧ (s.requestZoom target origin speed).outs = s.outs := by
  simp only [State.requestZoom]; (repeat' split) <;> simp

@[simp] theorem State.zoomHalt_frame (s : State) :
    s.zoomHalt.pending = s.pending ∧ s.zoomHalt.clock = s.clock ∧ s.zoomHalt.settings = s.settings ∧
    s.zoomHalt.fc = s.fc ∧ s.zoomHalt.ep = s.ep ∧ s.zoomHalt.stab = s.stab ∧ s.zoomHalt.store = s.store ∧
    s.zoomHalt.rq = s.rq ∧ s.zoomHalt.loader = s.loader ∧ s.zoomHalt.epoch = s.epoch ∧ s.zoomHalt.free = s.free ∧
    s.zoomHalt.outs = s.outs := by
  simp only [State.zoomHalt]; (repeat' split) <;> simp

@[simp] theorem State.startPending_frame (s : State) (which : Actuator) :
    (s.startPending which).pending = s.pending ∧ (s.startPending which).clock = s.clock ∧
    (s.startPending which).settings = s.settings ∧ (s.startPending which).fc = s.fc ∧
    (s.startPending which).ep = s.ep ∧ (s.startPending which).stab = s.stab ∧
    (s.startPending which).store = s.store ∧ (s.startPending which).rq = s.rq ∧
    (s.startPending which).loader = s.loader ∧ (s.startPending which).epoch = s.epoch ∧
    (s.startPending which).free = s.free ∧ (s.startPending which).outs = s.outs := by
  unfold State.startPending; (repeat' split) <;> simp

@[simp] theorem State.startAllPending_frame (s : State) :
    s.startAllPending.pending = s.pending ∧ s.startAllPending.clock = s.clock ∧
    s.startAllPending.settings = s.settings ∧ s.startAllPending.fc = s.fc ∧ s.startAllPending.ep = s.ep ∧
    s.startAllPending.stab = s.stab ∧ s.startAllPending.store = s.store ∧ s.startAllPending.rq = s.rq ∧
    s.startAllPending.loader = s.loader ∧ s.startAllPending.epoch = s.epoch ∧ s.startAllPending.free = s.free ∧
    s.startAllPending.outs = s.outs := by
  unfold State.startAllPending; (repeat' split) <;> simp

@[simp] theorem State.stopMoves_frame (s : State) :
    s.stopMoves.pending = s.pending ∧ s.stopMoves.clock = s.clock ∧ s.stopMoves.settings = s.settings ∧
    s.stopMoves.fc = s.fc ∧ s.stopMoves.ep = s.ep ∧ s.stopMoves.af = s.af ∧ s.stopMoves.stab = s.stab ∧
    s.stopMoves.store = s.store ∧ s.stopMoves.rq = s.rq ∧ s.stopMoves.links = s.links ∧
    s.stopMoves.loader = s.loader ∧ s.stopMoves.epoch = s.epoch ∧ s.stopMoves.free = s.free ∧
    s.stopMoves.outs = s.outs := by
  unfold State.stopMoves; (repeat' split) <;> simp

@[simp] theorem State.lensSoftReset_frame (s : State) :
    s.lensSoftReset.pending = s.pending ∧ s.lensSoftReset.clock = s.clock ∧ s.lensSoftReset.settings = s.settings ∧
    s.lensSoftReset.fc = s.fc ∧ s.lensSoftReset.ep = s.ep ∧ s.lensSoftReset.af = s.af ∧
    s.lensSoftReset.stab = s.stab ∧ s.lensSoftReset.store = s.store ∧ s.lensSoftReset.rq = s.rq ∧
    s.lensSoftReset.links = s.links ∧ s.lensSoftReset.loader = s.loader ∧ s.lensSoftReset.epoch = s.epoch ∧
    s.lensSoftReset.free = s.free ∧ s.lensSoftReset.outs = s.outs := by
  unfold State.lensSoftReset; (repeat' split) <;> simp

@[simp] theorem State.quietRestart_frame (s : State) :
    s.quietRestart.pending = s.pending ∧ s.quietRestart.clock = s.clock ∧ s.quietRestart.settings = s.settings ∧
    s.quietRestart.st = s.st ∧ s.quietRestart.ep = s.ep ∧ s.quietRestart.lens = s.lens ∧ s.quietRestart.af = s.af ∧
    s.quietRestart.stab = s.stab ∧ s.quietRestart.store = s.store ∧ s.quietRestart.rq = s.rq ∧
    s.quietRestart.links = s.links ∧ s.quietRestart.loader = s.loader ∧ s.quietRestart.epoch = s.epoch ∧
    s.quietRestart.free = s.free ∧ s.quietRestart.outs = s.outs := by
  unfold State.quietRestart; (repeat' split) <;> simp

@[simp] theorem State.quietSync_frame (was : Bool) (s : State) :
    (State.quietSync was s).pending = s.pending ∧ (State.quietSync was s).clock = s.clock ∧
    (State.quietSync was s).settings = s.settings ∧ (State.quietSync was s).st = s.st ∧
    (State.quietSync was s).ep = s.ep ∧ (State.quietSync was s).lens = s.lens ∧ (State.quietSync was s).af = s.af ∧
    (State.quietSync was s).stab = s.stab ∧ (State.quietSync was s).store = s.store ∧
    (State.quietSync was s).rq = s.rq ∧ (State.quietSync was s).links = s.links ∧
    (State.quietSync was s).loader = s.loader ∧ (State.quietSync was s).epoch = s.epoch ∧
    (State.quietSync was s).free = s.free ∧ (State.quietSync was s).outs = s.outs := by
  unfold State.quietSync; (repeat' split) <;> simp

@[simp] theorem State.burstCheck_frame (was : Bool) (s : State) :
    (State.burstCheck was s).pending = s.pending ∧ (State.burstCheck was s).clock = s.clock ∧
    (State.burstCheck was s).settings = s.settings ∧ (State.burstCheck was s).stab = s.stab ∧
    (State.burstCheck was s).store = s.store ∧ (State.burstCheck was s).rq = s.rq ∧
    (State.burstCheck was s).loader = s.loader ∧ (State.burstCheck was s).epoch = s.epoch ∧
    (State.burstCheck was s).free = s.free ∧ (State.burstCheck was s).outs = s.outs := by
  unfold State.burstCheck; (repeat' split) <;> simp

@[simp] theorem State.clearShots_frame (s : State) :
    s.clearShots.pending = s.pending ∧ s.clearShots.clock = s.clock ∧ s.clearShots.settings = s.settings ∧
    s.clearShots.stab = s.stab ∧ s.clearShots.store = s.store ∧ s.clearShots.rq = s.rq ∧
    s.clearShots.loader = s.loader ∧ s.clearShots.epoch = s.epoch ∧ s.clearShots.free = s.free ∧
    s.clearShots.outs = s.outs := by
  unfold State.clearShots; (repeat' split) <;> simp

@[simp] theorem State.beginTransfer_frame (s : State) (v : InEffect) :
    (s.beginTransfer v).pending = s.pending ∧ (s.beginTransfer v).clock = s.clock ∧
    (s.beginTransfer v).settings = s.settings ∧ (s.beginTransfer v).st = s.st ∧ (s.beginTransfer v).ep = s.ep ∧
    (s.beginTransfer v).lens = s.lens ∧ (s.beginTransfer v).af = s.af ∧ (s.beginTransfer v).stab = s.stab ∧
    (s.beginTransfer v).store = s.store ∧ (s.beginTransfer v).rq = s.rq ∧ (s.beginTransfer v).links = s.links ∧
    (s.beginTransfer v).loader = s.loader ∧ (s.beginTransfer v).epoch = s.epoch ∧
    (s.beginTransfer v).free = s.free := by
  unfold State.beginTransfer; (repeat' split) <;> simp

@[simp] theorem State.beginLive_frame (s : State) (start : Nat) :
    (s.beginLive start).pending = s.pending ∧ (s.beginLive start).clock = s.clock ∧
    (s.beginLive start).settings = s.settings ∧ (s.beginLive start).st = s.st ∧ (s.beginLive start).ep = s.ep ∧
    (s.beginLive start).lens = s.lens ∧ (s.beginLive start).af = s.af ∧ (s.beginLive start).stab = s.stab ∧
    (s.beginLive start).store = s.store ∧ (s.beginLive start).rq = s.rq ∧ (s.beginLive start).links = s.links ∧
    (s.beginLive start).loader = s.loader ∧ (s.beginLive start).epoch = s.epoch ∧
    (s.beginLive start).free = s.free := by
  unfold State.beginLive; (repeat' split) <;> simp

@[simp] theorem State.planFirst_frame (s : State) :
    s.planFirst.pending = s.pending ∧ s.planFirst.clock = s.clock ∧ s.planFirst.settings = s.settings ∧
    s.planFirst.st = s.st ∧ s.planFirst.ep = s.ep ∧ s.planFirst.lens = s.lens ∧ s.planFirst.af = s.af ∧
    s.planFirst.stab = s.stab ∧ s.planFirst.store = s.store ∧ s.planFirst.rq = s.rq ∧ s.planFirst.links = s.links ∧
    s.planFirst.loader = s.loader ∧ s.planFirst.epoch = s.epoch ∧ s.planFirst.free = s.free := by
  unfold State.planFirst; (repeat' split) <;> simp

@[simp] theorem State.planNext_frame (s : State) :
    s.planNext.pending = s.pending ∧ s.planNext.clock = s.clock ∧ s.planNext.settings = s.settings ∧
    s.planNext.st = s.st ∧ s.planNext.ep = s.ep ∧ s.planNext.lens = s.lens ∧ s.planNext.af = s.af ∧
    s.planNext.stab = s.stab ∧ s.planNext.store = s.store ∧ s.planNext.rq = s.rq ∧ s.planNext.links = s.links ∧
    s.planNext.loader = s.loader ∧ s.planNext.epoch = s.epoch ∧ s.planNext.free = s.free := by
  unfold State.planNext; (repeat' split) <;> simp

@[simp] theorem State.enterLive_frame (s : State) :
    s.enterLive.pending = s.pending ∧ s.enterLive.clock = s.clock ∧ s.enterLive.settings = s.settings ∧
    s.enterLive.st = s.st ∧ s.enterLive.ep = s.ep ∧ s.enterLive.lens = s.lens ∧ s.enterLive.af = s.af ∧
    s.enterLive.stab = s.stab ∧ s.enterLive.store = s.store ∧ s.enterLive.rq = s.rq ∧ s.enterLive.links = s.links ∧
    s.enterLive.loader = s.loader ∧ s.enterLive.epoch = s.epoch ∧ s.enterLive.free = s.free := by
  unfold State.enterLive; (repeat' split) <;> simp

@[simp] theorem State.countCapture_frame (s : State) :
    s.countCapture.pending = s.pending ∧ s.countCapture.clock = s.clock ∧ s.countCapture.settings = s.settings ∧
    s.countCapture.st = s.st ∧ s.countCapture.ep = s.ep ∧ s.countCapture.lens = s.lens ∧ s.countCapture.af = s.af ∧
    s.countCapture.stab = s.stab ∧ s.countCapture.store = s.store ∧ s.countCapture.rq = s.rq ∧
    s.countCapture.links = s.links ∧ s.countCapture.loader = s.loader ∧ s.countCapture.epoch = s.epoch ∧
    s.countCapture.free = s.free ∧ s.countCapture.outs = s.outs := by
  unfold State.countCapture; (repeat' split) <;> simp

@[simp] theorem State.gatePass_frame (s : State) :
    s.gatePass.pending = s.pending ∧ s.gatePass.clock = s.clock ∧ s.gatePass.settings = s.settings ∧
    s.gatePass.af = s.af ∧ s.gatePass.links = s.links ∧ s.gatePass.loader = s.loader ∧ s.gatePass.epoch = s.epoch ∧
    s.gatePass.free = s.free := by
  unfold State.gatePass; (repeat' split) <;> simp

@[simp] theorem State.gateFailed_frame (s : State) :
    s.gateFailed.pending = s.pending ∧ s.gateFailed.clock = s.clock ∧ s.gateFailed.settings = s.settings ∧
    s.gateFailed.st = s.st ∧ s.gateFailed.ep = s.ep ∧ s.gateFailed.lens = s.lens ∧ s.gateFailed.af = s.af ∧
    s.gateFailed.stab = s.stab ∧ s.gateFailed.store = s.store ∧ s.gateFailed.rq = s.rq ∧
    s.gateFailed.links = s.links ∧ s.gateFailed.loader = s.loader ∧ s.gateFailed.epoch = s.epoch ∧
    s.gateFailed.free = s.free := by
  unfold State.gateFailed; (repeat' split) <;> simp

@[simp] theorem State.evaluateGate_frame (s : State) :
    s.evaluateGate.pending = s.pending ∧ s.evaluateGate.clock = s.clock ∧ s.evaluateGate.settings = s.settings ∧
    s.evaluateGate.af = s.af ∧ s.evaluateGate.links = s.links ∧ s.evaluateGate.loader = s.loader ∧
    s.evaluateGate.epoch = s.epoch ∧ s.evaluateGate.free = s.free := by
  unfold State.evaluateGate; (repeat' split) <;> simp

@[simp] theorem State.liveBoundary_frame (s : State) :
    s.liveBoundary.pending = s.pending ∧ s.liveBoundary.clock = s.clock ∧ s.liveBoundary.settings = s.settings ∧
    s.liveBoundary.af = s.af ∧ s.liveBoundary.links = s.links ∧ s.liveBoundary.loader = s.loader ∧
    s.liveBoundary.epoch = s.epoch ∧ s.liveBoundary.free = s.free := by
  unfold State.liveBoundary; (repeat' split) <;> simp

@[simp] theorem State.leaveIdle_frame (s : State) :
    s.leaveIdle.pending = s.pending ∧ s.leaveIdle.clock = s.clock ∧ s.leaveIdle.settings = s.settings ∧
    s.leaveIdle.af = s.af ∧ s.leaveIdle.links = s.links ∧ s.leaveIdle.loader = s.loader ∧
    s.leaveIdle.epoch = s.epoch ∧ s.leaveIdle.free = s.free := by
  unfold State.leaveIdle; (repeat' split) <;> simp

@[simp] theorem State.stopLoop_frame (s : State) :
    s.stopLoop.pending = s.pending ∧ s.stopLoop.clock = s.clock ∧ s.stopLoop.settings = s.settings ∧
    s.stopLoop.st = s.st ∧ s.stopLoop.ep = s.ep ∧ s.stopLoop.lens = s.lens ∧ s.stopLoop.af = s.af ∧
    s.stopLoop.stab = s.stab ∧ s.stopLoop.store = s.store ∧ s.stopLoop.rq = s.rq ∧ s.stopLoop.links = s.links ∧
    s.stopLoop.loader = s.loader ∧ s.stopLoop.epoch = s.epoch ∧ s.stopLoop.free = s.free ∧
    s.stopLoop.outs = s.outs := by
  unfold State.stopLoop; (repeat' split) <;> simp

@[simp] theorem State.renewTlive_frame (s : State) :
    s.renewTlive.pending = s.pending ∧ s.renewTlive.clock = s.clock ∧ s.renewTlive.settings = s.settings ∧
    s.renewTlive.af = s.af ∧ s.renewTlive.stab = s.stab ∧ s.renewTlive.store = s.store ∧ s.renewTlive.rq = s.rq ∧
    s.renewTlive.links = s.links ∧ s.renewTlive.loader = s.loader ∧ s.renewTlive.epoch = s.epoch ∧
    s.renewTlive.free = s.free ∧ s.renewTlive.outs = s.outs := by
  unfold State.renewTlive; (repeat' split) <;> simp

@[simp] theorem State.goStill_frame (s : State) :
    s.goStill.pending = s.pending ∧ s.goStill.clock = s.clock ∧ s.goStill.settings = s.settings ∧
    s.goStill.rq = s.rq ∧ s.goStill.loader = s.loader ∧ s.goStill.epoch = s.epoch ∧ s.goStill.free = s.free := by
  unfold State.goStill; (repeat' split) <;> simp

@[simp] theorem State.wakeBoth_frame (s : State) :
    s.wakeBoth.pending = s.pending ∧ s.wakeBoth.clock = s.clock ∧ s.wakeBoth.settings = s.settings ∧
    s.wakeBoth.af = s.af ∧ s.wakeBoth.links = s.links ∧ s.wakeBoth.loader = s.loader ∧
    s.wakeBoth.epoch = s.epoch := by
  unfold State.wakeBoth; (repeat' split) <;> simp

@[simp] theorem State.goLive_frame (s : State) (level : Cadence) :
    (s.goLive level).pending = s.pending ∧ (s.goLive level).clock = s.clock ∧
    (s.goLive level).settings = s.settings ∧ (s.goLive level).af = s.af ∧ (s.goLive level).links = s.links ∧
    (s.goLive level).loader = s.loader ∧ (s.goLive level).epoch = s.epoch := by
  unfold State.goLive; (repeat' split) <;> simp

@[simp] theorem State.setCadence_frame (s : State) (level : Cadence) :
    (s.setCadence level).pending = s.pending ∧ (s.setCadence level).clock = s.clock ∧
    (s.setCadence level).settings = s.settings ∧ (s.setCadence level).loader = s.loader ∧
    (s.setCadence level).epoch = s.epoch := by
  unfold State.setCadence; (repeat' split) <;> simp

@[simp] theorem State.activity_frame (s : State) :
    s.activity.pending = s.pending ∧ s.activity.clock = s.clock ∧ s.activity.settings = s.settings ∧
    s.activity.loader = s.loader ∧ s.activity.epoch = s.epoch := by
  simp only [State.activity]; (repeat' split) <;> simp

@[simp] theorem State.startFrame_frame (s : State) (v : InEffect) (late : Bool) :
    (s.startFrame v late).pending = s.pending ∧ (s.startFrame v late).clock = s.clock ∧
    (s.startFrame v late).settings = s.settings ∧ (s.startFrame v late).ep = s.ep ∧
    (s.startFrame v late).lens = s.lens ∧ (s.startFrame v late).af = s.af ∧ (s.startFrame v late).stab = s.stab ∧
    (s.startFrame v late).store = s.store ∧ (s.startFrame v late).rq = s.rq ∧ (s.startFrame v late).links = s.links ∧
    (s.startFrame v late).loader = s.loader ∧ (s.startFrame v late).epoch = s.epoch ∧
    (s.startFrame v late).free = s.free := by
  simp only [State.startFrame]; (repeat' split) <;> simp

@[simp] theorem State.liveStart_frame (s : State) (x : Transfer) (acked : Bool) :
    (s.liveStart x acked).pending = s.pending ∧ (s.liveStart x acked).clock = s.clock ∧
    (s.liveStart x acked).settings = s.settings ∧ (s.liveStart x acked).ep = s.ep ∧
    (s.liveStart x acked).lens = s.lens ∧ (s.liveStart x acked).af = s.af ∧ (s.liveStart x acked).stab = s.stab ∧
    (s.liveStart x acked).store = s.store ∧ (s.liveStart x acked).rq = s.rq ∧
    (s.liveStart x acked).loader = s.loader ∧ (s.liveStart x acked).epoch = s.epoch ∧
    (s.liveStart x acked).free = s.free := by
  simp only [State.liveStart]; (repeat' split) <;> simp

@[simp] theorem State.liveEnd_frame (s : State) :
    s.liveEnd.pending = s.pending ∧ s.liveEnd.clock = s.clock ∧ s.liveEnd.settings = s.settings ∧
    s.liveEnd.ep = s.ep ∧ s.liveEnd.lens = s.lens ∧ s.liveEnd.af = s.af ∧ s.liveEnd.stab = s.stab ∧
    s.liveEnd.store = s.store ∧ s.liveEnd.rq = s.rq ∧ s.liveEnd.links = s.links ∧ s.liveEnd.loader = s.loader ∧
    s.liveEnd.epoch = s.epoch ∧ s.liveEnd.free = s.free ∧ s.liveEnd.outs = s.outs := by
  unfold State.liveEnd; (repeat' split) <;> simp

@[simp] theorem State.onCap_frame (s : State) (f : Capture → Capture) :
    (s.onCap f).pending = s.pending ∧ (s.onCap f).clock = s.clock ∧ (s.onCap f).settings = s.settings ∧
    (s.onCap f).st = s.st ∧ (s.onCap f).ep = s.ep ∧ (s.onCap f).lens = s.lens ∧ (s.onCap f).af = s.af ∧
    (s.onCap f).stab = s.stab ∧ (s.onCap f).store = s.store ∧ (s.onCap f).rq = s.rq ∧ (s.onCap f).links = s.links ∧
    (s.onCap f).loader = s.loader ∧ (s.onCap f).epoch = s.epoch ∧ (s.onCap f).free = s.free ∧
    (s.onCap f).outs = s.outs := by
  unfold State.onCap; (repeat' split) <;> simp

@[simp] theorem State.issueClose_frame (s : State) :
    s.issueClose.pending = s.pending ∧ s.issueClose.clock = s.clock ∧ s.issueClose.settings = s.settings ∧
    s.issueClose.st = s.st ∧ s.issueClose.ep = s.ep ∧ s.issueClose.lens = s.lens ∧ s.issueClose.af = s.af ∧
    s.issueClose.stab = s.stab ∧ s.issueClose.store = s.store ∧ s.issueClose.rq = s.rq ∧
    s.issueClose.links = s.links ∧ s.issueClose.loader = s.loader ∧ s.issueClose.epoch = s.epoch ∧
    s.issueClose.free = s.free := by
  unfold State.issueClose; (repeat' split) <;> simp

@[simp] theorem State.captureStart_frame (s : State) (c : Capture) :
    (s.captureStart c).pending = s.pending ∧ (s.captureStart c).clock = s.clock ∧
    (s.captureStart c).settings = s.settings ∧ (s.captureStart c).ep = s.ep ∧ (s.captureStart c).lens = s.lens ∧
    (s.captureStart c).af = s.af ∧ (s.captureStart c).store = s.store ∧ (s.captureStart c).loader = s.loader ∧
    (s.captureStart c).epoch = s.epoch ∧ (s.captureStart c).free = s.free := by
  simp only [State.captureStart]; (repeat' split) <;> simp

@[simp] theorem State.release_frame (s : State) (c : Capture) :
    (s.release c).pending = s.pending ∧ (s.release c).clock = s.clock ∧ (s.release c).settings = s.settings ∧
    (s.release c).ep = s.ep ∧ (s.release c).lens = s.lens ∧ (s.release c).af = s.af ∧ (s.release c).store = s.store ∧
    (s.release c).loader = s.loader ∧ (s.release c).epoch = s.epoch ∧ (s.release c).free = s.free := by
  simp only [State.release]; (repeat' split) <;> simp

@[simp] theorem State.releaseDue_frame (s : State) (c : Capture) :
    (s.releaseDue c).pending = s.pending ∧ (s.releaseDue c).clock = s.clock ∧
    (s.releaseDue c).settings = s.settings ∧ (s.releaseDue c).ep = s.ep ∧ (s.releaseDue c).lens = s.lens ∧
    (s.releaseDue c).af = s.af ∧ (s.releaseDue c).store = s.store ∧ (s.releaseDue c).loader = s.loader ∧
    (s.releaseDue c).epoch = s.epoch ∧ (s.releaseDue c).free = s.free := by
  unfold State.releaseDue; (repeat' split) <;> simp

@[simp] theorem State.secondTimeout_frame (s : State) (c : Capture) :
    (s.secondTimeout c).pending = s.pending ∧ (s.secondTimeout c).clock = s.clock ∧
    (s.secondTimeout c).settings = s.settings ∧ (s.secondTimeout c).ep = s.ep ∧ (s.secondTimeout c).lens = s.lens ∧
    (s.secondTimeout c).af = s.af ∧ (s.secondTimeout c).store = s.store ∧ (s.secondTimeout c).loader = s.loader ∧
    (s.secondTimeout c).epoch = s.epoch ∧ (s.secondTimeout c).free = s.free := by
  unfold State.secondTimeout; (repeat' split) <;> simp

@[simp] theorem State.triggerDue_frame (s : State) (c : Capture) :
    (s.triggerDue c).pending = s.pending ∧ (s.triggerDue c).clock = s.clock ∧
    (s.triggerDue c).settings = s.settings ∧ (s.triggerDue c).ep = s.ep ∧ (s.triggerDue c).lens = s.lens ∧
    (s.triggerDue c).af = s.af ∧ (s.triggerDue c).store = s.store ∧ (s.triggerDue c).loader = s.loader ∧
    (s.triggerDue c).epoch = s.epoch ∧ (s.triggerDue c).free = s.free := by
  unfold State.triggerDue; (repeat' split) <;> simp

@[simp] theorem State.acknowledge_frame (s : State) (x : Transfer) :
    (s.acknowledge x).pending = s.pending ∧ (s.acknowledge x).clock = s.clock ∧
    (s.acknowledge x).settings = s.settings ∧ (s.acknowledge x).ep = s.ep ∧ (s.acknowledge x).lens = s.lens ∧
    (s.acknowledge x).af = s.af ∧ (s.acknowledge x).store = s.store ∧ (s.acknowledge x).loader = s.loader ∧
    (s.acknowledge x).epoch = s.epoch ∧ (s.acknowledge x).free = s.free := by
  simp only [State.acknowledge]; (repeat' split) <;> simp

@[simp] theorem State.pulseEnd_frame (s : State) :
    s.pulseEnd.pending = s.pending ∧ s.pulseEnd.clock = s.clock ∧ s.pulseEnd.settings = s.settings ∧
    s.pulseEnd.fc = s.fc ∧ s.pulseEnd.st = s.st ∧ s.pulseEnd.ep = s.ep ∧ s.pulseEnd.lens = s.lens ∧
    s.pulseEnd.af = s.af ∧ s.pulseEnd.stab = s.stab ∧ s.pulseEnd.store = s.store ∧ s.pulseEnd.rq = s.rq ∧
    s.pulseEnd.links = s.links ∧ s.pulseEnd.loader = s.loader ∧ s.pulseEnd.epoch = s.epoch ∧
    s.pulseEnd.free = s.free := by
  unfold State.pulseEnd; (repeat' split) <;> simp

@[simp] theorem State.captureEnd_frame (s : State) :
    s.captureEnd.pending = s.pending ∧ s.captureEnd.clock = s.clock ∧ s.captureEnd.settings = s.settings ∧
    s.captureEnd.store = s.store ∧ s.captureEnd.loader = s.loader ∧ s.captureEnd.epoch = s.epoch ∧
    s.captureEnd.free = s.free := by
  unfold State.captureEnd; (repeat' split) <;> simp

@[simp] theorem State.movesProbe_frame (s t : State) :
    (s.movesProbe t).pending = t.pending ∧ (s.movesProbe t).clock = t.clock ∧ (s.movesProbe t).settings = t.settings ∧
    (s.movesProbe t).fc = t.fc ∧ (s.movesProbe t).ep = t.ep ∧ (s.movesProbe t).stab = t.stab ∧
    (s.movesProbe t).store = t.store ∧ (s.movesProbe t).rq = t.rq ∧ (s.movesProbe t).loader = t.loader ∧
    (s.movesProbe t).epoch = t.epoch ∧ (s.movesProbe t).free = t.free ∧ (s.movesProbe t).outs = t.outs := by
  unfold State.movesProbe; (repeat' split) <;> simp

@[simp] theorem State.takeRecord_frame (s : State) :
    s.takeRecord.pending = s.pending ∧ s.takeRecord.clock = s.clock ∧ s.takeRecord.settings = s.settings ∧
    s.takeRecord.fc = s.fc ∧ s.takeRecord.stab = s.stab ∧ s.takeRecord.store = s.store ∧ s.takeRecord.rq = s.rq ∧
    s.takeRecord.loader = s.loader ∧ s.takeRecord.epoch = s.epoch ∧ s.takeRecord.free = s.free ∧
    s.takeRecord.outs = s.outs := by
  unfold State.takeRecord; (repeat' split) <;> simp

@[simp] theorem State.handRecord_frame (s : State) :
    s.handRecord.pending = s.pending ∧ s.handRecord.clock = s.clock ∧ s.handRecord.settings = s.settings ∧
    s.handRecord.fc = s.fc ∧ s.handRecord.stab = s.stab ∧ s.handRecord.store = s.store ∧ s.handRecord.rq = s.rq ∧
    s.handRecord.loader = s.loader ∧ s.handRecord.epoch = s.epoch ∧ s.handRecord.free = s.free ∧
    s.handRecord.outs = s.outs := by
  unfold State.handRecord; (repeat' split) <;> simp

@[simp] theorem State.reopen_frame (s : State) :
    s.reopen.pending = s.pending ∧ s.reopen.clock = s.clock ∧ s.reopen.settings = s.settings ∧ s.reopen.st = s.st ∧
    s.reopen.ep = s.ep ∧ s.reopen.lens = s.lens ∧ s.reopen.af = s.af ∧ s.reopen.stab = s.stab ∧
    s.reopen.store = s.store ∧ s.reopen.rq = s.rq ∧ s.reopen.links = s.links ∧ s.reopen.loader = s.loader ∧
    s.reopen.epoch = s.epoch ∧ s.reopen.free = s.free := by
  unfold State.reopen; (repeat' split) <;> simp

@[simp] theorem State.afterReadout_frame (s : State) (kind : FrameKind) :
    (s.afterReadout kind).pending = s.pending ∧ (s.afterReadout kind).clock = s.clock ∧
    (s.afterReadout kind).settings = s.settings ∧ (s.afterReadout kind).af = s.af ∧
    (s.afterReadout kind).links = s.links ∧ (s.afterReadout kind).loader = s.loader ∧
    (s.afterReadout kind).epoch = s.epoch ∧ (s.afterReadout kind).free = s.free := by
  unfold State.afterReadout; (repeat' split) <;> simp

@[simp] theorem State.captureReadout_frame (s : State) (timedOut : Bool) :
    (s.captureReadout timedOut).pending = s.pending ∧ (s.captureReadout timedOut).clock = s.clock ∧
    (s.captureReadout timedOut).settings = s.settings ∧ (s.captureReadout timedOut).stab = s.stab ∧
    (s.captureReadout timedOut).loader = s.loader ∧ (s.captureReadout timedOut).epoch = s.epoch ∧
    (s.captureReadout timedOut).free = s.free ∧ (s.captureReadout timedOut).outs = s.outs := by
  unfold State.captureReadout; (repeat' split) <;> simp

@[simp] theorem State.recordFirst_frame (s : State) (kind : FrameKind) :
    (s.recordFirst kind).pending = s.pending ∧ (s.recordFirst kind).clock = s.clock ∧
    (s.recordFirst kind).settings = s.settings ∧ (s.recordFirst kind).loader = s.loader ∧
    (s.recordFirst kind).epoch = s.epoch ∧ (s.recordFirst kind).free = s.free := by
  unfold State.recordFirst; (repeat' split) <;> simp

@[simp] theorem State.readoutEnd_frame (s : State) (f : InputFrame) (timedOut : Bool) :
    (s.readoutEnd f timedOut).pending = s.pending ∧ (s.readoutEnd f timedOut).clock = s.clock ∧
    (s.readoutEnd f timedOut).settings = s.settings ∧ (s.readoutEnd f timedOut).loader = s.loader ∧
    (s.readoutEnd f timedOut).epoch = s.epoch := by
  simp only [State.readoutEnd]; (repeat' split) <;> simp

@[simp] theorem State.settleEnd_frame (s : State) :
    s.settleEnd.pending = s.pending ∧ s.settleEnd.clock = s.clock ∧ s.settleEnd.settings = s.settings ∧
    s.settleEnd.af = s.af ∧ s.settleEnd.links = s.links ∧ s.settleEnd.loader = s.loader ∧
    s.settleEnd.epoch = s.epoch ∧ s.settleEnd.free = s.free := by
  simp only [State.settleEnd]; (repeat' split) <;> simp

@[simp] theorem State.abortReopen_frame (s : State) :
    s.abortReopen.pending = s.pending ∧ s.abortReopen.clock = s.clock ∧ s.abortReopen.settings = s.settings ∧
    s.abortReopen.st = s.st ∧ s.abortReopen.ep = s.ep ∧ s.abortReopen.lens = s.lens ∧ s.abortReopen.af = s.af ∧
    s.abortReopen.stab = s.stab ∧ s.abortReopen.store = s.store ∧ s.abortReopen.rq = s.rq ∧
    s.abortReopen.links = s.links ∧ s.abortReopen.loader = s.loader ∧ s.abortReopen.epoch = s.epoch ∧
    s.abortReopen.free = s.free := by
  unfold State.abortReopen; (repeat' split) <;> simp

@[simp] theorem State.abortCapture_frame (s : State) :
    s.abortCapture.pending = s.pending ∧ s.abortCapture.clock = s.clock ∧ s.abortCapture.settings = s.settings ∧
    s.abortCapture.st = s.st ∧ s.abortCapture.ep = s.ep ∧ s.abortCapture.lens = s.lens ∧ s.abortCapture.af = s.af ∧
    s.abortCapture.stab = s.stab ∧ s.abortCapture.store = s.store ∧ s.abortCapture.rq = s.rq ∧
    s.abortCapture.links = s.links ∧ s.abortCapture.loader = s.loader ∧ s.abortCapture.epoch = s.epoch ∧
    s.abortCapture.free = s.free := by
  simp only [State.abortCapture]; (repeat' split) <;> simp

@[simp] theorem State.fcSoftReset_frame (s : State) :
    s.fcSoftReset.pending = s.pending ∧ s.fcSoftReset.clock = s.clock ∧ s.fcSoftReset.settings = s.settings ∧
    s.fcSoftReset.st = s.st ∧ s.fcSoftReset.ep = s.ep ∧ s.fcSoftReset.lens = s.lens ∧ s.fcSoftReset.af = s.af ∧
    s.fcSoftReset.stab = s.stab ∧ s.fcSoftReset.store = s.store ∧ s.fcSoftReset.rq = s.rq ∧
    s.fcSoftReset.links = s.links ∧ s.fcSoftReset.loader = s.loader ∧ s.fcSoftReset.epoch = s.epoch ∧
    s.fcSoftReset.free = s.free := by
  unfold State.fcSoftReset; (repeat' split) <;> simp

@[simp] theorem State.softReset_frame (s : State) :
    s.softReset.pending = s.pending ∧ s.softReset.clock = s.clock ∧ s.softReset.settings = s.settings ∧
    s.softReset.loader = s.loader ∧ s.softReset.epoch = s.epoch ∧ s.softReset.free = s.free := by
  simp only [State.softReset]; (repeat' split) <;> simp

@[simp] theorem State.watchBusy_frame (f : State → State) (s : State) :
    (s.watchBusy f).pending = (f s).pending ∧ (s.watchBusy f).clock = (f s).clock ∧
    (s.watchBusy f).settings = (f s).settings ∧ (s.watchBusy f).st = (f s).st ∧ (s.watchBusy f).ep = (f s).ep ∧
    (s.watchBusy f).lens = (f s).lens ∧ (s.watchBusy f).af = (f s).af ∧ (s.watchBusy f).stab = (f s).stab ∧
    (s.watchBusy f).store = (f s).store ∧ (s.watchBusy f).rq = (f s).rq ∧ (s.watchBusy f).links = (f s).links ∧
    (s.watchBusy f).loader = (f s).loader ∧ (s.watchBusy f).epoch = (f s).epoch ∧ (s.watchBusy f).free = (f s).free ∧
    (s.watchBusy f).outs = (f s).outs := by
  simp [State.watchBusy]

@[simp] theorem State.startTimers_frame (s : State) :
    s.startTimers.pending = s.pending ∧ s.startTimers.clock = s.clock ∧ s.startTimers.settings = s.settings ∧
    s.startTimers.st = s.st ∧ s.startTimers.ep = s.ep ∧ s.startTimers.lens = s.lens ∧ s.startTimers.af = s.af ∧
    s.startTimers.stab = s.stab ∧ s.startTimers.store = s.store ∧ s.startTimers.rq = s.rq ∧
    s.startTimers.links = s.links ∧ s.startTimers.loader = s.loader ∧ s.startTimers.epoch = s.epoch ∧
    s.startTimers.free = s.free ∧ s.startTimers.outs = s.outs := by
  simp only [State.startTimers]; (repeat' split) <;> simp

@[simp] theorem State.becomeReady_frame (s : State) :
    s.becomeReady.pending = s.pending ∧ s.becomeReady.clock = s.clock ∧ s.becomeReady.settings = s.settings ∧
    s.becomeReady.af = s.af ∧ s.becomeReady.loader = s.loader ∧ s.becomeReady.epoch = s.epoch ∧
    s.becomeReady.free = s.free := by
  unfold State.becomeReady; (repeat' split) <;> simp

@[simp] theorem State.leaveReady_frame (s : State) :
    s.leaveReady.pending = s.pending ∧ s.leaveReady.clock = s.clock ∧ s.leaveReady.settings = s.settings ∧
    s.leaveReady.store = s.store ∧ s.leaveReady.rq = s.rq ∧ s.leaveReady.loader = s.loader ∧
    s.leaveReady.epoch = s.epoch ∧ s.leaveReady.free = s.free := by
  unfold State.leaveReady; (repeat' split) <;> simp

@[simp] theorem State.becomeStowed_frame (s : State) :
    s.becomeStowed.pending = s.pending ∧ s.becomeStowed.clock = s.clock ∧ s.becomeStowed.settings = s.settings ∧
    s.becomeStowed.fc = s.fc ∧ s.becomeStowed.st = s.st ∧ s.becomeStowed.ep = s.ep ∧ s.becomeStowed.af = s.af ∧
    s.becomeStowed.stab = s.stab ∧ s.becomeStowed.store = s.store ∧ s.becomeStowed.rq = s.rq ∧
    s.becomeStowed.loader = s.loader ∧ s.becomeStowed.epoch = s.epoch ∧ s.becomeStowed.free = s.free ∧
    s.becomeStowed.outs = s.outs := by
  unfold State.becomeStowed; (repeat' split) <;> simp

@[simp] theorem State.lensFault_frame (s : State) (cause : LensCause) :
    (s.lensFault cause).pending = s.pending ∧ (s.lensFault cause).clock = s.clock ∧
    (s.lensFault cause).settings = s.settings ∧ (s.lensFault cause).fc = s.fc ∧ (s.lensFault cause).st = s.st ∧
    (s.lensFault cause).ep = s.ep ∧ (s.lensFault cause).af = s.af ∧ (s.lensFault cause).stab = s.stab ∧
    (s.lensFault cause).store = s.store ∧ (s.lensFault cause).rq = s.rq ∧ (s.lensFault cause).loader = s.loader ∧
    (s.lensFault cause).epoch = s.epoch ∧ (s.lensFault cause).free = s.free ∧ (s.lensFault cause).outs = s.outs := by
  unfold State.lensFault; (repeat' split) <;> simp

@[simp] theorem State.driveLens_frame (s : State) (which : Actuator) (target : Int) (speed : Nat) :
    (s.driveLens which target speed).pending = s.pending ∧ (s.driveLens which target speed).clock = s.clock ∧
    (s.driveLens which target speed).settings = s.settings ∧ (s.driveLens which target speed).fc = s.fc ∧
    (s.driveLens which target speed).ep = s.ep ∧ (s.driveLens which target speed).af = s.af ∧
    (s.driveLens which target speed).stab = s.stab ∧ (s.driveLens which target speed).store = s.store ∧
    (s.driveLens which target speed).rq = s.rq ∧ (s.driveLens which target speed).links = s.links ∧
    (s.driveLens which target speed).loader = s.loader ∧ (s.driveLens which target speed).epoch = s.epoch ∧
    (s.driveLens which target speed).free = s.free ∧ (s.driveLens which target speed).outs = s.outs := by
  simp only [State.driveLens]; (repeat' split) <;> simp

@[simp] theorem State.driveBlind_frame (s : State) (which : Actuator) (speed : Nat) :
    (s.driveBlind which speed).pending = s.pending ∧ (s.driveBlind which speed).clock = s.clock ∧
    (s.driveBlind which speed).settings = s.settings ∧ (s.driveBlind which speed).fc = s.fc ∧
    (s.driveBlind which speed).ep = s.ep ∧ (s.driveBlind which speed).af = s.af ∧
    (s.driveBlind which speed).stab = s.stab ∧ (s.driveBlind which speed).store = s.store ∧
    (s.driveBlind which speed).rq = s.rq ∧ (s.driveBlind which speed).links = s.links ∧
    (s.driveBlind which speed).loader = s.loader ∧ (s.driveBlind which speed).epoch = s.epoch ∧
    (s.driveBlind which speed).free = s.free ∧ (s.driveBlind which speed).outs = s.outs := by
  unfold State.driveBlind; (repeat' split) <;> simp

@[simp] theorem State.nextStep_frame (s : State) (which : Actuator) :
    (s.nextStep which).pending = s.pending ∧ (s.nextStep which).clock = s.clock ∧
    (s.nextStep which).settings = s.settings ∧ (s.nextStep which).fc = s.fc ∧ (s.nextStep which).st = s.st ∧
    (s.nextStep which).ep = s.ep ∧ (s.nextStep which).af = s.af ∧ (s.nextStep which).stab = s.stab ∧
    (s.nextStep which).store = s.store ∧ (s.nextStep which).rq = s.rq ∧ (s.nextStep which).links = s.links ∧
    (s.nextStep which).loader = s.loader ∧ (s.nextStep which).epoch = s.epoch ∧ (s.nextStep which).free = s.free ∧
    (s.nextStep which).outs = s.outs := by
  unfold State.nextStep; (repeat' split) <;> simp

@[simp] theorem State.setDrive_frame (s : State) (d : Drive) :
    (s.setDrive d).pending = s.pending ∧ (s.setDrive d).clock = s.clock ∧ (s.setDrive d).settings = s.settings ∧
    (s.setDrive d).fc = s.fc ∧ (s.setDrive d).st = s.st ∧ (s.setDrive d).ep = s.ep ∧ (s.setDrive d).af = s.af ∧
    (s.setDrive d).stab = s.stab ∧ (s.setDrive d).store = s.store ∧ (s.setDrive d).rq = s.rq ∧
    (s.setDrive d).links = s.links ∧ (s.setDrive d).loader = s.loader ∧ (s.setDrive d).epoch = s.epoch ∧
    (s.setDrive d).free = s.free ∧ (s.setDrive d).outs = s.outs := by
  unfold State.setDrive; (repeat' split) <;> simp

@[simp] theorem State.homeStart_frame (s : State) :
    s.homeStart.pending = s.pending ∧ s.homeStart.clock = s.clock ∧ s.homeStart.settings = s.settings ∧
    s.homeStart.fc = s.fc ∧ s.homeStart.ep = s.ep ∧ s.homeStart.af = s.af ∧ s.homeStart.stab = s.stab ∧
    s.homeStart.store = s.store ∧ s.homeStart.rq = s.rq ∧ s.homeStart.links = s.links ∧
    s.homeStart.loader = s.loader ∧ s.homeStart.epoch = s.epoch ∧ s.homeStart.free = s.free ∧
    s.homeStart.outs = s.outs := by
  unfold State.homeStart; (repeat' split) <;> simp

@[simp] theorem State.homeZoom_frame (s : State) :
    s.homeZoom.pending = s.pending ∧ s.homeZoom.clock = s.clock ∧ s.homeZoom.settings = s.settings ∧
    s.homeZoom.fc = s.fc ∧ s.homeZoom.ep = s.ep ∧ s.homeZoom.af = s.af ∧ s.homeZoom.stab = s.stab ∧
    s.homeZoom.store = s.store ∧ s.homeZoom.rq = s.rq ∧ s.homeZoom.links = s.links ∧ s.homeZoom.loader = s.loader ∧
    s.homeZoom.epoch = s.epoch ∧ s.homeZoom.free = s.free ∧ s.homeZoom.outs = s.outs := by
  unfold State.homeZoom; (repeat' split) <;> simp

@[simp] theorem State.homeStopStep_frame (s : State) (which : Actuator) (focusLeft irisLeft : Nat) :
    (s.homeStopStep which focusLeft irisLeft).pending = s.pending ∧
    (s.homeStopStep which focusLeft irisLeft).clock = s.clock ∧
    (s.homeStopStep which focusLeft irisLeft).settings = s.settings ∧
    (s.homeStopStep which focusLeft irisLeft).fc = s.fc ∧ (s.homeStopStep which focusLeft irisLeft).ep = s.ep ∧
    (s.homeStopStep which focusLeft irisLeft).af = s.af ∧ (s.homeStopStep which focusLeft irisLeft).stab = s.stab ∧
    (s.homeStopStep which focusLeft irisLeft).store = s.store ∧ (s.homeStopStep which focusLeft irisLeft).rq = s.rq ∧
    (s.homeStopStep which focusLeft irisLeft).links = s.links ∧
    (s.homeStopStep which focusLeft irisLeft).loader = s.loader ∧
    (s.homeStopStep which focusLeft irisLeft).epoch = s.epoch ∧
    (s.homeStopStep which focusLeft irisLeft).free = s.free ∧
    (s.homeStopStep which focusLeft irisLeft).outs = s.outs := by
  simp only [State.homeStopStep]; (repeat' split) <;> simp

@[simp] theorem State.homeOutStep_frame (s : State) (level : HomeLevel) (steps : Nat) :
    (s.homeOutStep level steps).pending = s.pending ∧ (s.homeOutStep level steps).clock = s.clock ∧
    (s.homeOutStep level steps).settings = s.settings ∧ (s.homeOutStep level steps).fc = s.fc ∧
    (s.homeOutStep level steps).st = s.st ∧ (s.homeOutStep level steps).ep = s.ep ∧
    (s.homeOutStep level steps).af = s.af ∧ (s.homeOutStep level steps).stab = s.stab ∧
    (s.homeOutStep level steps).store = s.store ∧ (s.homeOutStep level steps).rq = s.rq ∧
    (s.homeOutStep level steps).loader = s.loader ∧ (s.homeOutStep level steps).epoch = s.epoch ∧
    (s.homeOutStep level steps).free = s.free ∧ (s.homeOutStep level steps).outs = s.outs := by
  unfold State.homeOutStep; (repeat' split) <;> simp

@[simp] theorem State.homeFound_frame (s : State) :
    s.homeFound.pending = s.pending ∧ s.homeFound.clock = s.clock ∧ s.homeFound.settings = s.settings ∧
    s.homeFound.fc = s.fc ∧ s.homeFound.af = s.af ∧ s.homeFound.store = s.store ∧ s.homeFound.rq = s.rq ∧
    s.homeFound.loader = s.loader ∧ s.homeFound.epoch = s.epoch ∧ s.homeFound.free = s.free ∧
    s.homeFound.outs = s.outs := by
  simp only [State.homeFound]; (repeat' split) <;> simp

@[simp] theorem State.homeInStep_frame (s : State) (level : HomeLevel) (steps : Nat) :
    (s.homeInStep level steps).pending = s.pending ∧ (s.homeInStep level steps).clock = s.clock ∧
    (s.homeInStep level steps).settings = s.settings ∧ (s.homeInStep level steps).fc = s.fc ∧
    (s.homeInStep level steps).af = s.af ∧ (s.homeInStep level steps).store = s.store ∧
    (s.homeInStep level steps).rq = s.rq ∧ (s.homeInStep level steps).loader = s.loader ∧
    (s.homeInStep level steps).epoch = s.epoch ∧ (s.homeInStep level steps).free = s.free ∧
    (s.homeInStep level steps).outs = s.outs := by
  unfold State.homeInStep; (repeat' split) <;> simp

@[simp] theorem State.extendFocus_frame (s : State) :
    s.extendFocus.pending = s.pending ∧ s.extendFocus.clock = s.clock ∧ s.extendFocus.settings = s.settings ∧
    s.extendFocus.af = s.af ∧ s.extendFocus.loader = s.loader ∧ s.extendFocus.epoch = s.epoch ∧
    s.extendFocus.free = s.free := by
  simp only [State.extendFocus]; (repeat' split) <;> simp

@[simp] theorem State.extendCheck_frame (s : State) :
    s.extendCheck.pending = s.pending ∧ s.extendCheck.clock = s.clock ∧ s.extendCheck.settings = s.settings ∧
    s.extendCheck.af = s.af ∧ s.extendCheck.loader = s.loader ∧ s.extendCheck.epoch = s.epoch ∧
    s.extendCheck.free = s.free := by
  unfold State.extendCheck; (repeat' split) <;> simp

@[simp] theorem State.extendStart_frame (s : State) :
    s.extendStart.pending = s.pending ∧ s.extendStart.clock = s.clock ∧ s.extendStart.settings = s.settings ∧
    s.extendStart.af = s.af ∧ s.extendStart.loader = s.loader ∧ s.extendStart.epoch = s.epoch ∧
    s.extendStart.free = s.free := by
  unfold State.extendStart; (repeat' split) <;> simp

@[simp] theorem State.retractCheck_frame (s : State) :
    s.retractCheck.pending = s.pending ∧ s.retractCheck.clock = s.clock ∧ s.retractCheck.settings = s.settings ∧
    s.retractCheck.fc = s.fc ∧ s.retractCheck.st = s.st ∧ s.retractCheck.ep = s.ep ∧ s.retractCheck.af = s.af ∧
    s.retractCheck.stab = s.stab ∧ s.retractCheck.store = s.store ∧ s.retractCheck.rq = s.rq ∧
    s.retractCheck.loader = s.loader ∧ s.retractCheck.epoch = s.epoch ∧ s.retractCheck.free = s.free ∧
    s.retractCheck.outs = s.outs := by
  unfold State.retractCheck; (repeat' split) <;> simp

@[simp] theorem State.watchBegin_frame (s : State) (level : HomeLevel) :
    (s.watchBegin level).pending = s.pending ∧ (s.watchBegin level).clock = s.clock ∧
    (s.watchBegin level).settings = s.settings ∧ (s.watchBegin level).fc = s.fc ∧ (s.watchBegin level).st = s.st ∧
    (s.watchBegin level).ep = s.ep ∧ (s.watchBegin level).af = s.af ∧ (s.watchBegin level).stab = s.stab ∧
    (s.watchBegin level).store = s.store ∧ (s.watchBegin level).rq = s.rq ∧ (s.watchBegin level).links = s.links ∧
    (s.watchBegin level).loader = s.loader ∧ (s.watchBegin level).epoch = s.epoch ∧
    (s.watchBegin level).free = s.free ∧ (s.watchBegin level).outs = s.outs := by
  unfold State.watchBegin; (repeat' split) <;> simp

@[simp] theorem State.retractZoom_frame (s : State) :
    s.retractZoom.pending = s.pending ∧ s.retractZoom.clock = s.clock ∧ s.retractZoom.settings = s.settings ∧
    s.retractZoom.fc = s.fc ∧ s.retractZoom.ep = s.ep ∧ s.retractZoom.af = s.af ∧ s.retractZoom.stab = s.stab ∧
    s.retractZoom.store = s.store ∧ s.retractZoom.rq = s.rq ∧ s.retractZoom.links = s.links ∧
    s.retractZoom.loader = s.loader ∧ s.retractZoom.epoch = s.epoch ∧ s.retractZoom.free = s.free ∧
    s.retractZoom.outs = s.outs := by
  simp only [State.retractZoom]; (repeat' split) <;> simp

@[simp] theorem State.retractStart_frame (s : State) :
    s.retractStart.pending = s.pending ∧ s.retractStart.clock = s.clock ∧ s.retractStart.settings = s.settings ∧
    s.retractStart.store = s.store ∧ s.retractStart.rq = s.rq ∧ s.retractStart.loader = s.loader ∧
    s.retractStart.epoch = s.epoch ∧ s.retractStart.free = s.free := by
  simp only [State.retractStart]; (repeat' split) <;> simp

@[simp] theorem State.zoomBy_frame (s : State) (delta : Int) :
    (s.zoomBy delta).pending = s.pending ∧ (s.zoomBy delta).clock = s.clock ∧
    (s.zoomBy delta).settings = s.settings ∧ (s.zoomBy delta).fc = s.fc ∧ (s.zoomBy delta).af = s.af ∧
    (s.zoomBy delta).store = s.store ∧ (s.zoomBy delta).rq = s.rq ∧ (s.zoomBy delta).links = s.links ∧
    (s.zoomBy delta).loader = s.loader ∧ (s.zoomBy delta).epoch = s.epoch ∧ (s.zoomBy delta).free = s.free ∧
    (s.zoomBy delta).outs = s.outs := by
  unfold State.zoomBy; (repeat' split) <;> simp

@[simp] theorem State.rebase_frame (s : State) :
    s.rebase.pending = s.pending ∧ s.rebase.clock = s.clock ∧ s.rebase.settings = s.settings ∧ s.rebase.fc = s.fc ∧
    s.rebase.af = s.af ∧ s.rebase.store = s.store ∧ s.rebase.rq = s.rq ∧ s.rebase.loader = s.loader ∧
    s.rebase.epoch = s.epoch ∧ s.rebase.free = s.free ∧ s.rebase.outs = s.outs := by
  unfold State.rebase; (repeat' split) <;> simp

@[simp] theorem State.retractZoomStep_frame (s : State) (level : HomeLevel) :
    (s.retractZoomStep level).pending = s.pending ∧ (s.retractZoomStep level).clock = s.clock ∧
    (s.retractZoomStep level).settings = s.settings ∧ (s.retractZoomStep level).fc = s.fc ∧
    (s.retractZoomStep level).af = s.af ∧ (s.retractZoomStep level).store = s.store ∧
    (s.retractZoomStep level).rq = s.rq ∧ (s.retractZoomStep level).loader = s.loader ∧
    (s.retractZoomStep level).epoch = s.epoch ∧ (s.retractZoomStep level).free = s.free ∧
    (s.retractZoomStep level).outs = s.outs := by
  simp only [State.retractZoomStep]; (repeat' split) <;> simp

@[simp] theorem State.plainStep_frame (s : State) (which : Actuator) :
    (s.plainStep which).pending = s.pending ∧ (s.plainStep which).clock = s.clock ∧
    (s.plainStep which).settings = s.settings ∧ (s.plainStep which).fc = s.fc ∧ (s.plainStep which).st = s.st ∧
    (s.plainStep which).ep = s.ep ∧ (s.plainStep which).af = s.af ∧ (s.plainStep which).stab = s.stab ∧
    (s.plainStep which).store = s.store ∧ (s.plainStep which).rq = s.rq ∧ (s.plainStep which).links = s.links ∧
    (s.plainStep which).loader = s.loader ∧ (s.plainStep which).epoch = s.epoch ∧ (s.plainStep which).free = s.free ∧
    (s.plainStep which).outs = s.outs := by
  simp only [State.plainStep]; (repeat' split) <;> simp

@[simp] theorem State.zoomStep_frame (s : State) :
    s.zoomStep.pending = s.pending ∧ s.zoomStep.clock = s.clock ∧ s.zoomStep.settings = s.settings ∧
    s.zoomStep.loader = s.loader ∧ s.zoomStep.epoch = s.epoch ∧ s.zoomStep.free = s.free := by
  simp only [State.zoomStep]; (repeat' split) <;> simp

@[simp] theorem State.focusDriven_frame (s : State) :
    s.focusDriven.pending = s.pending ∧ s.focusDriven.clock = s.clock ∧ s.focusDriven.settings = s.settings ∧
    s.focusDriven.af = s.af ∧ s.focusDriven.loader = s.loader ∧ s.focusDriven.epoch = s.epoch ∧
    s.focusDriven.free = s.free := by
  unfold State.focusDriven; (repeat' split) <;> simp

@[simp] theorem State.focusStep_frame (s : State) :
    s.focusStep.pending = s.pending ∧ s.focusStep.clock = s.clock ∧ s.focusStep.settings = s.settings ∧
    s.focusStep.loader = s.loader ∧ s.focusStep.epoch = s.epoch ∧ s.focusStep.free = s.free := by
  simp only [State.focusStep]; (repeat' split) <;> simp

@[simp] theorem State.irisStep_frame (s : State) :
    s.irisStep.pending = s.pending ∧ s.irisStep.clock = s.clock ∧ s.irisStep.settings = s.settings ∧
    s.irisStep.af = s.af ∧ s.irisStep.loader = s.loader ∧ s.irisStep.epoch = s.epoch ∧ s.irisStep.free = s.free := by
  simp only [State.irisStep]; (repeat' split) <;> simp

@[simp] theorem State.actuatorStep_frame (s : State) (which : Actuator) (level : HomeLevel) :
    (s.actuatorStep which level).pending = s.pending ∧ (s.actuatorStep which level).clock = s.clock ∧
    (s.actuatorStep which level).settings = s.settings ∧ (s.actuatorStep which level).loader = s.loader ∧
    (s.actuatorStep which level).epoch = s.epoch ∧ (s.actuatorStep which level).free = s.free := by
  simp only [State.actuatorStep]; (repeat' split) <;> simp

@[simp] theorem State.linkZoom_frame (s : State) (target : Int) (speed : Nat) :
    (s.linkZoom target speed).pending = s.pending ∧ (s.linkZoom target speed).clock = s.clock ∧
    (s.linkZoom target speed).settings = s.settings ∧ (s.linkZoom target speed).fc = s.fc ∧
    (s.linkZoom target speed).ep = s.ep ∧ (s.linkZoom target speed).stab = s.stab ∧
    (s.linkZoom target speed).store = s.store ∧ (s.linkZoom target speed).rq = s.rq ∧
    (s.linkZoom target speed).loader = s.loader ∧ (s.linkZoom target speed).epoch = s.epoch ∧
    (s.linkZoom target speed).free = s.free ∧ (s.linkZoom target speed).outs = s.outs := by
  unfold State.linkZoom; (repeat' split) <;> simp

@[simp] theorem State.linkFocus_frame (s : State) (target : Int) :
    (s.linkFocus target).pending = s.pending ∧ (s.linkFocus target).clock = s.clock ∧
    (s.linkFocus target).settings = s.settings ∧ (s.linkFocus target).fc = s.fc ∧ (s.linkFocus target).ep = s.ep ∧
    (s.linkFocus target).stab = s.stab ∧ (s.linkFocus target).store = s.store ∧ (s.linkFocus target).rq = s.rq ∧
    (s.linkFocus target).loader = s.loader ∧ (s.linkFocus target).epoch = s.epoch ∧
    (s.linkFocus target).free = s.free ∧ (s.linkFocus target).outs = s.outs := by
  unfold State.linkFocus; (repeat' split) <;> simp

@[simp] theorem State.tableGiven_frame (s : State) :
    s.tableGiven.pending = s.pending ∧ s.tableGiven.clock = s.clock ∧ s.tableGiven.settings = s.settings ∧
    s.tableGiven.fc = s.fc ∧ s.tableGiven.af = s.af ∧ s.tableGiven.store = s.store ∧ s.tableGiven.rq = s.rq ∧
    s.tableGiven.links = s.links ∧ s.tableGiven.loader = s.loader ∧ s.tableGiven.epoch = s.epoch ∧
    s.tableGiven.free = s.free ∧ s.tableGiven.outs = s.outs := by
  simp only [State.tableGiven]; (repeat' split) <;> simp

@[simp] theorem State.loadEnd_frame (s : State) (image : List Byte) :
    (s.loadEnd image).pending = s.pending ∧ (s.loadEnd image).clock = s.clock ∧
    (s.loadEnd image).settings = s.settings ∧ (s.loadEnd image).fc = s.fc ∧ (s.loadEnd image).af = s.af ∧
    (s.loadEnd image).store = s.store ∧ (s.loadEnd image).rq = s.rq ∧ (s.loadEnd image).epoch = s.epoch ∧
    (s.loadEnd image).free = s.free ∧ (s.loadEnd image).outs = s.outs := by
  simp only [State.loadEnd]; (repeat' split) <;> simp

@[simp] theorem State.loadStart_frame (s : State) :
    s.loadStart.pending = s.pending ∧ s.loadStart.clock = s.clock ∧ s.loadStart.settings = s.settings ∧
    s.loadStart.fc = s.fc ∧ s.loadStart.st = s.st ∧ s.loadStart.ep = s.ep ∧ s.loadStart.lens = s.lens ∧
    s.loadStart.af = s.af ∧ s.loadStart.stab = s.stab ∧ s.loadStart.store = s.store ∧ s.loadStart.rq = s.rq ∧
    s.loadStart.links = s.links ∧ s.loadStart.epoch = s.epoch ∧ s.loadStart.free = s.free := by
  unfold State.loadStart; (repeat' split) <;> simp

@[simp] theorem State.activeStep_frame (f : State → State) (s : State) :
    (s.activeStep f).pending = (f s).pending ∧ (s.activeStep f).clock = (f s).clock ∧
    (s.activeStep f).settings = (f s).settings ∧ (s.activeStep f).loader = (f s).loader ∧
    (s.activeStep f).epoch = (f s).epoch := by
  simp [State.activeStep]

@[simp] theorem State.activityOnly_frame (s : State) :
    s.activityOnly.pending = s.pending ∧ s.activityOnly.clock = s.clock ∧ s.activityOnly.settings = s.settings ∧
    s.activityOnly.loader = s.loader ∧ s.activityOnly.epoch = s.epoch := by
  simp [State.activityOnly]

@[simp] theorem State.setPrepare_frame (s : State) (p : Port) (v : Bool) :
    (s.setPrepare p v).pending = s.pending ∧ (s.setPrepare p v).clock = s.clock ∧
    (s.setPrepare p v).settings = s.settings ∧ (s.setPrepare p v).st = s.st ∧ (s.setPrepare p v).ep = s.ep ∧
    (s.setPrepare p v).lens = s.lens ∧ (s.setPrepare p v).af = s.af ∧ (s.setPrepare p v).stab = s.stab ∧
    (s.setPrepare p v).store = s.store ∧ (s.setPrepare p v).rq = s.rq ∧ (s.setPrepare p v).links = s.links ∧
    (s.setPrepare p v).loader = s.loader ∧ (s.setPrepare p v).epoch = s.epoch ∧ (s.setPrepare p v).free = s.free ∧
    (s.setPrepare p v).outs = s.outs := by
  unfold State.setPrepare; (repeat' split) <;> simp

@[simp] theorem State.prepareOn_frame (s : State) (p : Port) :
    (s.prepareOn p).pending = s.pending ∧ (s.prepareOn p).clock = s.clock ∧ (s.prepareOn p).settings = s.settings ∧
    (s.prepareOn p).store = s.store ∧ (s.prepareOn p).rq = s.rq ∧ (s.prepareOn p).loader = s.loader ∧
    (s.prepareOn p).epoch = s.epoch ∧ (s.prepareOn p).free = s.free := by
  unfold State.prepareOn; (repeat' split) <;> simp

@[simp] theorem State.prepareOff_frame (s : State) (p : Port) :
    (s.prepareOff p).pending = s.pending ∧ (s.prepareOff p).clock = s.clock ∧
    (s.prepareOff p).settings = s.settings ∧ (s.prepareOff p).store = s.store ∧ (s.prepareOff p).rq = s.rq ∧
    (s.prepareOff p).links = s.links ∧ (s.prepareOff p).loader = s.loader ∧ (s.prepareOff p).epoch = s.epoch ∧
    (s.prepareOff p).free = s.free := by
  simp only [State.prepareOff]; (repeat' split) <;> simp

@[simp] theorem State.addShots_frame (s : State) (n : Nat) :
    (s.addShots n).pending = s.pending ∧ (s.addShots n).clock = s.clock ∧ (s.addShots n).settings = s.settings ∧
    (s.addShots n).st = s.st ∧ (s.addShots n).ep = s.ep ∧ (s.addShots n).lens = s.lens ∧ (s.addShots n).af = s.af ∧
    (s.addShots n).stab = s.stab ∧ (s.addShots n).store = s.store ∧ (s.addShots n).rq = s.rq ∧
    (s.addShots n).links = s.links ∧ (s.addShots n).loader = s.loader ∧ (s.addShots n).epoch = s.epoch ∧
    (s.addShots n).free = s.free ∧ (s.addShots n).outs = s.outs := by
  unfold State.addShots; (repeat' split) <;> simp

@[simp] theorem State.shoot_frame (s : State) (n : Nat) :
    (s.shoot n).pending = s.pending ∧ (s.shoot n).clock = s.clock ∧ (s.shoot n).settings = s.settings ∧
    (s.shoot n).store = s.store ∧ (s.shoot n).rq = s.rq ∧ (s.shoot n).loader = s.loader ∧
    (s.shoot n).epoch = s.epoch ∧ (s.shoot n).free = s.free := by
  unfold State.shoot; (repeat' split) <;> simp

@[simp] theorem State.setPattern_frame (s : State) (n : Nat) (weights : List Nat) :
    (s.setPattern n weights).pending = s.pending ∧ (s.setPattern n weights).clock = s.clock ∧
    (s.setPattern n weights).settings = s.settings ∧ (s.setPattern n weights).fc = s.fc ∧
    (s.setPattern n weights).ep = s.ep ∧ (s.setPattern n weights).lens = s.lens ∧
    (s.setPattern n weights).af = s.af ∧ (s.setPattern n weights).stab = s.stab ∧
    (s.setPattern n weights).store = s.store ∧ (s.setPattern n weights).rq = s.rq ∧
    (s.setPattern n weights).links = s.links ∧ (s.setPattern n weights).loader = s.loader ∧
    (s.setPattern n weights).epoch = s.epoch ∧ (s.setPattern n weights).free = s.free ∧
    (s.setPattern n weights).outs = s.outs := by
  unfold State.setPattern; (repeat' split) <;> simp

@[simp] theorem State.extend_frame (s : State) :
    s.extend.pending = s.pending ∧ s.extend.clock = s.clock ∧ s.extend.settings = s.settings ∧ s.extend.af = s.af ∧
    s.extend.loader = s.loader ∧ s.extend.epoch = s.epoch ∧ s.extend.free = s.free := by
  unfold State.extend; (repeat' split) <;> simp

@[simp] theorem State.retract_frame (s : State) :
    s.retract.pending = s.pending ∧ s.retract.clock = s.clock ∧ s.retract.settings = s.settings ∧
    s.retract.store = s.store ∧ s.retract.rq = s.rq ∧ s.retract.loader = s.loader ∧ s.retract.epoch = s.epoch ∧
    s.retract.free = s.free := by
  unfold State.retract; (repeat' split) <;> simp

@[simp] theorem State.drainOpen_frame (s : State) (p : Port) (slot : Nat) :
    (s.drainOpen p slot).pending = s.pending ∧ (s.drainOpen p slot).clock = s.clock ∧
    (s.drainOpen p slot).settings = s.settings ∧ (s.drainOpen p slot).fc = s.fc ∧ (s.drainOpen p slot).st = s.st ∧
    (s.drainOpen p slot).ep = s.ep ∧ (s.drainOpen p slot).lens = s.lens ∧ (s.drainOpen p slot).af = s.af ∧
    (s.drainOpen p slot).stab = s.stab ∧ (s.drainOpen p slot).rq = s.rq ∧ (s.drainOpen p slot).loader = s.loader ∧
    (s.drainOpen p slot).epoch = s.epoch ∧ (s.drainOpen p slot).free = s.free ∧
    (s.drainOpen p slot).outs = s.outs := by
  unfold State.drainOpen; (repeat' split) <;> simp

@[simp] theorem State.reviewOpen_frame (s : State) (p : Port) (slot first length : Nat) :
    (s.reviewOpen p slot first length).pending = s.pending ∧ (s.reviewOpen p slot first length).clock = s.clock ∧
    (s.reviewOpen p slot first length).settings = s.settings ∧ (s.reviewOpen p slot first length).fc = s.fc ∧
    (s.reviewOpen p slot first length).st = s.st ∧ (s.reviewOpen p slot first length).ep = s.ep ∧
    (s.reviewOpen p slot first length).lens = s.lens ∧ (s.reviewOpen p slot first length).af = s.af ∧
    (s.reviewOpen p slot first length).stab = s.stab ∧ (s.reviewOpen p slot first length).rq = s.rq ∧
    (s.reviewOpen p slot first length).loader = s.loader ∧ (s.reviewOpen p slot first length).epoch = s.epoch ∧
    (s.reviewOpen p slot first length).free = s.free ∧ (s.reviewOpen p slot first length).outs = s.outs := by
  unfold State.reviewOpen; (repeat' split) <;> simp

@[simp] theorem State.periodChanged_frame (s : State) (old : State) :
    (s.periodChanged old).pending = s.pending ∧ (s.periodChanged old).clock = s.clock ∧
    (s.periodChanged old).settings = s.settings ∧ (s.periodChanged old).af = s.af ∧
    (s.periodChanged old).stab = s.stab ∧ (s.periodChanged old).store = s.store ∧ (s.periodChanged old).rq = s.rq ∧
    (s.periodChanged old).links = s.links ∧ (s.periodChanged old).loader = s.loader ∧
    (s.periodChanged old).epoch = s.epoch ∧ (s.periodChanged old).free = s.free ∧
    (s.periodChanged old).outs = s.outs := by
  unfold State.periodChanged; (repeat' split) <;> simp

@[simp] theorem State.ackKinds_frame (s : State) (p : Port) (k : KindSet) :
    (s.ackKinds p k).pending = s.pending ∧ (s.ackKinds p k).clock = s.clock ∧
    (s.ackKinds p k).settings = s.settings ∧ (s.ackKinds p k).fc = s.fc ∧ (s.ackKinds p k).st = s.st ∧
    (s.ackKinds p k).ep = s.ep ∧ (s.ackKinds p k).lens = s.lens ∧ (s.ackKinds p k).af = s.af ∧
    (s.ackKinds p k).stab = s.stab ∧ (s.ackKinds p k).store = s.store ∧ (s.ackKinds p k).rq = s.rq ∧
    (s.ackKinds p k).loader = s.loader ∧ (s.ackKinds p k).epoch = s.epoch ∧ (s.ackKinds p k).free = s.free ∧
    (s.ackKinds p k).outs = s.outs := by
  unfold State.ackKinds; (repeat' split) <;> simp

@[simp] theorem State.liveTransfer_frame (s : State) :
    s.liveTransfer.pending = s.pending ∧ s.liveTransfer.clock = s.clock ∧ s.liveTransfer.settings = s.settings ∧
    s.liveTransfer.st = s.st ∧ s.liveTransfer.ep = s.ep ∧ s.liveTransfer.lens = s.lens ∧ s.liveTransfer.af = s.af ∧
    s.liveTransfer.stab = s.stab ∧ s.liveTransfer.store = s.store ∧ s.liveTransfer.rq = s.rq ∧
    s.liveTransfer.links = s.links ∧ s.liveTransfer.loader = s.loader ∧ s.liveTransfer.epoch = s.epoch ∧
    s.liveTransfer.free = s.free := by
  unfold State.liveTransfer; (repeat' split) <;> simp

@[simp] theorem State.liveStartNow_frame (s : State) :
    s.liveStartNow.pending = s.pending ∧ s.liveStartNow.clock = s.clock ∧ s.liveStartNow.settings = s.settings ∧
    s.liveStartNow.ep = s.ep ∧ s.liveStartNow.lens = s.lens ∧ s.liveStartNow.af = s.af ∧
    s.liveStartNow.stab = s.stab ∧ s.liveStartNow.store = s.store ∧ s.liveStartNow.rq = s.rq ∧
    s.liveStartNow.loader = s.loader ∧ s.liveStartNow.epoch = s.epoch ∧ s.liveStartNow.free = s.free := by
  unfold State.liveStartNow; (repeat' split) <;> simp

@[simp] theorem State.ingest_frame (bytes : List Byte) (s : State) :
    (bytes.foldl State.ingestByte s).pending = s.pending ∧ (bytes.foldl State.ingestByte s).clock = s.clock ∧
    (bytes.foldl State.ingestByte s).settings = s.settings ∧ (bytes.foldl State.ingestByte s).fc = s.fc ∧
    (bytes.foldl State.ingestByte s).st = s.st ∧ (bytes.foldl State.ingestByte s).ep = s.ep ∧
    (bytes.foldl State.ingestByte s).lens = s.lens ∧ (bytes.foldl State.ingestByte s).af = s.af ∧
    (bytes.foldl State.ingestByte s).stab = s.stab ∧ (bytes.foldl State.ingestByte s).rq = s.rq ∧
    (bytes.foldl State.ingestByte s).loader = s.loader ∧ (bytes.foldl State.ingestByte s).epoch = s.epoch ∧
    (bytes.foldl State.ingestByte s).free = s.free ∧ (bytes.foldl State.ingestByte s).outs = s.outs := by
  refine ⟨?_, ?_, ?_, ?_, ?_, ?_, ?_, ?_, ?_, ?_, ?_, ?_, ?_, ?_⟩
  all_goals
    (first
      | rw [State.foldl_frame (get := State.pending)] | rw [State.foldl_frame (get := State.clock)]
      | rw [State.foldl_frame (get := State.settings)] | rw [State.foldl_frame (get := State.fc)]
      | rw [State.foldl_frame (get := State.st)] | rw [State.foldl_frame (get := State.ep)]
      | rw [State.foldl_frame (get := State.lens)] | rw [State.foldl_frame (get := State.af)]
      | rw [State.foldl_frame (get := State.stab)] | rw [State.foldl_frame (get := State.rq)]
      | rw [State.foldl_frame (get := State.loader)] | rw [State.foldl_frame (get := State.epoch)]
      | rw [State.foldl_frame (get := State.free)] | rw [State.foldl_frame (get := State.outs)]) <;> simp

@[simp] theorem State.pixel_frame (s : State) (v : Sample) (bytes : List Byte) :
    (s.pixel v bytes).pending = s.pending ∧ (s.pixel v bytes).clock = s.clock ∧
    (s.pixel v bytes).settings = s.settings ∧ (s.pixel v bytes).fc = s.fc ∧ (s.pixel v bytes).ep = s.ep ∧
    (s.pixel v bytes).lens = s.lens ∧ (s.pixel v bytes).af = s.af ∧ (s.pixel v bytes).stab = s.stab ∧
    (s.pixel v bytes).rq = s.rq ∧ (s.pixel v bytes).loader = s.loader ∧ (s.pixel v bytes).epoch = s.epoch ∧
    (s.pixel v bytes).free = s.free ∧ (s.pixel v bytes).outs = s.outs := by
  unfold State.pixel; (repeat' split) <;> simp

@[simp] theorem State.endReadout_frame (timedOut : Bool) (s : State) :
    (State.endReadout timedOut s).pending = s.pending ∧ (State.endReadout timedOut s).clock = s.clock ∧
    (State.endReadout timedOut s).settings = s.settings ∧ (State.endReadout timedOut s).loader = s.loader ∧
    (State.endReadout timedOut s).epoch = s.epoch := by
  unfold State.endReadout; (repeat' split) <;> simp

@[simp] theorem State.calTimeout_frame (s : State) :
    s.calTimeout.pending = s.pending ∧ s.calTimeout.clock = s.clock ∧ s.calTimeout.settings = s.settings ∧
    s.calTimeout.fc = s.fc ∧ s.calTimeout.af = s.af ∧ s.calTimeout.store = s.store ∧ s.calTimeout.rq = s.rq ∧
    s.calTimeout.loader = s.loader ∧ s.calTimeout.epoch = s.epoch ∧ s.calTimeout.free = s.free := by
  unfold State.calTimeout; (repeat' split) <;> simp

@[simp] theorem State.replyReady_frame (s : State) (p : Port) :
    (s.replyReady p).pending = s.pending ∧ (s.replyReady p).clock = s.clock ∧
    (s.replyReady p).settings = s.settings ∧ (s.replyReady p).fc = s.fc ∧ (s.replyReady p).st = s.st ∧
    (s.replyReady p).ep = s.ep ∧ (s.replyReady p).lens = s.lens ∧ (s.replyReady p).af = s.af ∧
    (s.replyReady p).stab = s.stab ∧ (s.replyReady p).store = s.store ∧ (s.replyReady p).rq = s.rq ∧
    (s.replyReady p).loader = s.loader ∧ (s.replyReady p).epoch = s.epoch ∧ (s.replyReady p).free = s.free ∧
    (s.replyReady p).outs = s.outs := by
  unfold State.replyReady; (repeat' split) <;> simp

@[simp] theorem State.finishReply_frame (s : State) (p : Port) (r : Reply) :
    (s.finishReply p r).pending = s.pending ∧ (s.finishReply p r).clock = s.clock ∧
    (s.finishReply p r).settings = s.settings ∧ (s.finishReply p r).fc = s.fc ∧ (s.finishReply p r).st = s.st ∧
    (s.finishReply p r).ep = s.ep ∧ (s.finishReply p r).lens = s.lens ∧ (s.finishReply p r).af = s.af ∧
    (s.finishReply p r).stab = s.stab ∧ (s.finishReply p r).store = s.store ∧ (s.finishReply p r).loader = s.loader ∧
    (s.finishReply p r).epoch = s.epoch ∧ (s.finishReply p r).free = s.free ∧ (s.finishReply p r).outs = s.outs := by
  unfold State.finishReply; (repeat' split) <;> simp

@[simp] theorem State.replyEnd_frame (s : State) (p : Port) :
    (s.replyEnd p).pending = s.pending ∧ (s.replyEnd p).clock = s.clock ∧ (s.replyEnd p).settings = s.settings ∧
    (s.replyEnd p).fc = s.fc ∧ (s.replyEnd p).st = s.st ∧ (s.replyEnd p).ep = s.ep ∧ (s.replyEnd p).lens = s.lens ∧
    (s.replyEnd p).af = s.af ∧ (s.replyEnd p).stab = s.stab ∧ (s.replyEnd p).store = s.store ∧
    (s.replyEnd p).loader = s.loader ∧ (s.replyEnd p).epoch = s.epoch ∧ (s.replyEnd p).free = s.free := by
  unfold State.replyEnd; (repeat' split) <;> simp

@[simp] theorem State.replyByte_frame (s : State) (p : Port) (r : Reply) (sent : Nat) :
    (s.replyByte p r sent).pending = s.pending ∧ (s.replyByte p r sent).clock = s.clock ∧
    (s.replyByte p r sent).settings = s.settings ∧ (s.replyByte p r sent).fc = s.fc ∧
    (s.replyByte p r sent).st = s.st ∧ (s.replyByte p r sent).ep = s.ep ∧ (s.replyByte p r sent).lens = s.lens ∧
    (s.replyByte p r sent).af = s.af ∧ (s.replyByte p r sent).stab = s.stab ∧
    (s.replyByte p r sent).store = s.store ∧ (s.replyByte p r sent).loader = s.loader ∧
    (s.replyByte p r sent).epoch = s.epoch ∧ (s.replyByte p r sent).free = s.free := by
  unfold State.replyByte; (repeat' split) <;> simp

end Sys2Proof.Machine
end

