-- ==== Sys2Proof/Laws/Fields.lean ====
section
/-! SUPPORT. Fields: for each operation the fields it leaves as they are within the blocks it touches. -/

namespace Sys2Proof.Machine

@[simp] theorem State.raise_fields (s : State) (k : Kind) :
    (s.raise k).links.mask = s.links.mask ∧ (s.raise k).links.txn = s.links.txn := by
  unfold State.raise; (repeat' split) <;> simp [State.act]

@[simp] theorem State.raiseTo_fields (s : State) (p : Port) (k : Kind) :
    (s.raiseTo p k).links.mask = s.links.mask ∧ (s.raiseTo p k).links.txn = s.links.txn := by
  unfold State.raiseTo; (repeat' split) <;> simp [State.act]

@[simp] theorem State.prepareReply_fields (s : State) (p : Port) (r : Reply) :
    (s.prepareReply p r).links.mask = s.links.mask ∧ (s.prepareReply p r).links.occ = s.links.occ ∧
    (s.prepareReply p r).links.pend = s.links.pend := by
  unfold State.prepareReply; (repeat' split) <;> simp [State.act]

@[simp] theorem State.statOpen_fields (s : State) (n : StartNotice) :
    (s.statOpen n).st.last = s.st.last ∧ (s.statOpen n).st.patterns = s.st.patterns := by
  unfold State.statOpen; (repeat' split) <;> simp [State.act]

@[simp] theorem State.onFrame_fields (s : State) (f : FrameInProgress → FrameInProgress) :
    (s.onFrame f).st.last = s.st.last ∧ (s.onFrame f).st.patterns = s.st.patterns := by
  unfold State.onFrame; (repeat' split) <;> simp [State.act]

@[simp] theorem State.statEndSpan_fields (s : State) :
    s.statEndSpan.st.last = s.st.last ∧ s.statEndSpan.st.patterns = s.st.patterns := by
  unfold State.statEndSpan; (repeat' split) <;> simp [State.act]

@[simp] theorem State.statMove_fields (s : State) (which : Actuator) :
    (s.statMove which).st.last = s.st.last ∧ (s.statMove which).st.patterns = s.st.patterns := by
  unfold State.statMove; (repeat' split) <;> simp [State.act]

@[simp] theorem State.statRecentered_fields (s : State) :
    s.statRecentered.st.last = s.st.last ∧ s.statRecentered.st.patterns = s.st.patterns := by
  unfold State.statRecentered; (repeat' split) <;> simp [State.act]

@[simp] theorem State.statFocusDone_fields (s : State) :
    s.statFocusDone.st.last = s.st.last ∧ s.statFocusDone.st.patterns = s.st.patterns := by
  unfold State.statFocusDone; (repeat' split) <;> simp [State.act]

/-- The weighted mean, with each zone's division written out (R38). -/
theorem weightedMean_eq (table : List Nat) (zones : List Zone) : weightedMean table zones = meanBy table zones := by
  have h : (fun x : Nat × Zone => x.1 * x.2.mean) = fun x => x.1 * if x.2.count = 0 then 0 else x.2.sum / x.2.count := by
    funext x
    by_cases hx : x.2.count = 0 <;> simp [Zone.mean, hx]
  simp only [weightedMean, meanBy, h, List.zip, List.map_zipWith]

/-- What a readout end's record holds (R37, R38). -/
theorem State.statRecord_formed (s : State) (g : FrameInProgress) (timedOut : Bool) :
    s.recordFormed g timedOut (s.statRecord g timedOut) := by
  refine ⟨rfl, rfl, rfl, rfl, rfl, rfl, rfl, rfl, ?_, ?_, rfl, fun w hw => ?_, rfl, rfl, rfl⟩
  · simp [State.statRecord, aeEligible]
  · cases h : s.st.focusStamp <;> simp [State.statRecord, Sys2Proof.Machine.afEligible, laterStamp, h, and_assoc]
  · simp [State.statRecord, List.getD_eq_getElem?_getD, hw, weightedMean_eq]

@[simp] theorem State.statSwap_fields (s : State) (timedOut : Bool) :
    (s.statSwap timedOut).st.patterns = s.st.patterns := by
  unfold State.statSwap; (repeat' split) <;> simp [State.act]

@[simp] theorem State.setAct_fields (s : State) (which : Actuator) (r : ActRecord) :
    (s.setAct which r).lens.state = s.lens.state ∧ (s.setAct which r).lens.cause = s.lens.cause ∧
    (s.setAct which r).lens.slip = s.lens.slip ∧ (s.setAct which r).lens.slips = s.lens.slips ∧
    (s.setAct which r).lens.drive = s.lens.drive ∧ (s.setAct which r).lens.d = s.lens.d := by
  unfold State.setAct; (repeat' split) <;> simp [State.act]

@[simp] theorem State.statMove_act (s : State) (moved which : Actuator) : (s.statMove moved).act which = s.act which := by
  cases which <;> simp [State.statMove, State.onFrame, State.act]

/-- What a target given to an actuator makes of its record: the move to it, in flight unless it is there already (R73, R74). -/
theorem State.drive_movesTo (s : State) (which : Actuator) (m : PendingMove) (x : Int) :
    let r := (s.drive which x m.origin m.speed).1.act which
    r.movesTo m x ∧ r.pos = (s.act which).pos ∧ r.speed = m.speed ∧ r.pending = (s.act which).pending := by
  simp only [State.drive]
  split
  · next h => simp_all [ActRecord.movesTo, ActRecord.rest]
  · next h => split <;> simp_all [ActRecord.movesTo]

/-- It leaves the records of the other actuators. -/
theorem State.drive_other (s : State) {which other : Actuator} (target : Int) (origin : Origin) (speed : Nat)
    (h : other ≠ which) : (s.drive which target origin speed).1.act other = s.act other := by
  simp only [State.drive]
  (repeat' split) <;> simp [State.act_setAct_ne _ _ h]

@[simp] theorem State.drive_fields (s : State) (which : Actuator) (target : Int) (origin : Origin) (speed : Nat) :
    (s.drive which target origin speed).1.st.last = s.st.last ∧
    (s.drive which target origin speed).1.st.patterns = s.st.patterns ∧
    (s.drive which target origin speed).1.lens.state = s.lens.state ∧
    (s.drive which target origin speed).1.lens.cause = s.lens.cause ∧
    (s.drive which target origin speed).1.lens.slip = s.lens.slip ∧
    (s.drive which target origin speed).1.lens.slips = s.lens.slips ∧
    (s.drive which target origin speed).1.lens.drive = s.lens.drive ∧
    (s.drive which target origin speed).1.lens.d = s.lens.d := by
  simp only [State.drive]; (repeat' split) <;> simp [State.act]

@[simp] theorem State.give_fields (s : State) (which : Actuator) (target : Int) (origin : Origin) (speed : Nat) :
    (s.give which target origin speed).1.st.last = s.st.last ∧
    (s.give which target origin speed).1.st.patterns = s.st.patterns ∧
    (s.give which target origin speed).1.lens.state = s.lens.state ∧
    (s.give which target origin speed).1.lens.cause = s.lens.cause ∧
    (s.give which target origin speed).1.lens.slip = s.lens.slip ∧
    (s.give which target origin speed).1.lens.slips = s.lens.slips ∧
    (s.give which target origin speed).1.lens.drive = s.lens.drive ∧
    (s.give which target origin speed).1.lens.d = s.lens.d := by
  unfold State.give; (repeat' split) <;> simp [State.act]

@[simp] theorem State.drive_lens_zoom_pos (s : State) (which : Actuator) (target : Int) (origin : Origin) (speed : Nat) :
    (s.drive which target origin speed).1.lens.zoom.pos = s.lens.zoom.pos := by
  simp only [State.drive]; (repeat' split) <;> cases which <;> simp [State.setAct, State.act]
@[simp] theorem State.give_lens_zoom_pos (s : State) (which : Actuator) (target : Int) (origin : Origin) (speed : Nat) :
    (s.give which target origin speed).1.lens.zoom.pos = s.lens.zoom.pos := by
  simp only [State.give]; split <;> first | (cases which <;> simp [State.setAct, State.act]) | simp
@[simp] theorem State.drive_lens_focus_pos (s : State) (which : Actuator) (target : Int) (origin : Origin) (speed : Nat) :
    (s.drive which target origin speed).1.lens.focus.pos = s.lens.focus.pos := by
  simp only [State.drive]; (repeat' split) <;> cases which <;> simp [State.setAct, State.act]
@[simp] theorem State.give_lens_focus_pos (s : State) (which : Actuator) (target : Int) (origin : Origin) (speed : Nat) :
    (s.give which target origin speed).1.lens.focus.pos = s.lens.focus.pos := by
  simp only [State.give]; split <;> first | (cases which <;> simp [State.setAct, State.act]) | simp
@[simp] theorem State.drive_lens_iris_pos (s : State) (which : Actuator) (target : Int) (origin : Origin) (speed : Nat) :
    (s.drive which target origin speed).1.lens.iris.pos = s.lens.iris.pos := by
  simp only [State.drive]; (repeat' split) <;> cases which <;> simp [State.setAct, State.act]
@[simp] theorem State.give_lens_iris_pos (s : State) (which : Actuator) (target : Int) (origin : Origin) (speed : Nat) :
    (s.give which target origin speed).1.lens.iris.pos = s.lens.iris.pos := by
  simp only [State.give]; split <;> first | (cases which <;> simp [State.setAct, State.act]) | simp

@[simp] theorem State.giveIris_fields (s : State) (target : Int) (origin : Origin) :
    (s.giveIris target origin).st.last = s.st.last ∧ (s.giveIris target origin).st.patterns = s.st.patterns ∧
    (s.giveIris target origin).lens.state = s.lens.state ∧ (s.giveIris target origin).lens.cause = s.lens.cause ∧
    (s.giveIris target origin).lens.slip = s.lens.slip ∧ (s.giveIris target origin).lens.slips = s.lens.slips ∧
    (s.giveIris target origin).lens.drive = s.lens.drive ∧ (s.giveIris target origin).lens.d = s.lens.d ∧
    (s.giveIris target origin).lens.zoom.pos = s.lens.zoom.pos ∧
    (s.giveIris target origin).lens.focus.pos = s.lens.focus.pos ∧
    (s.giveIris target origin).lens.iris.pos = s.lens.iris.pos := by
  unfold State.giveIris; (repeat' split) <;> simp [State.act]

@[simp] theorem State.formPlans_fields (s : State) (amin tlimit : Int) :
    (s.formPlans amin tlimit).ep.lock = s.ep.lock ∧ (s.formPlans amin tlimit).ep.penalty = s.ep.penalty ∧
    (s.formPlans amin tlimit).lens.state = s.lens.state ∧ (s.formPlans amin tlimit).lens.cause = s.lens.cause ∧
    (s.formPlans amin tlimit).lens.zoom = s.lens.zoom ∧ (s.formPlans amin tlimit).lens.slip = s.lens.slip ∧
    (s.formPlans amin tlimit).lens.slips = s.lens.slips ∧ (s.formPlans amin tlimit).lens.drive = s.lens.drive ∧
    (s.formPlans amin tlimit).lens.d = s.lens.d ∧ (s.formPlans amin tlimit).lens.focus.pos = s.lens.focus.pos ∧
    (s.formPlans amin tlimit).lens.iris.pos = s.lens.iris.pos := by
  unfold State.formPlans; (repeat' split) <;> simp [State.act]

@[simp] theorem State.requestIris_fields (s : State) :
    s.requestIris.st.last = s.st.last ∧ s.requestIris.st.patterns = s.st.patterns ∧
    s.requestIris.lens.state = s.lens.state ∧ s.requestIris.lens.cause = s.lens.cause ∧
    s.requestIris.lens.slip = s.lens.slip ∧ s.requestIris.lens.slips = s.lens.slips ∧
    s.requestIris.lens.drive = s.lens.drive ∧ s.requestIris.lens.d = s.lens.d ∧
    s.requestIris.lens.zoom.pos = s.lens.zoom.pos ∧ s.requestIris.lens.focus.pos = s.lens.focus.pos ∧
    s.requestIris.lens.iris.pos = s.lens.iris.pos := by
  unfold State.requestIris; (repeat' split) <;> simp [State.act]

/-- R51: pmax lies in 0..6, is 0 where Amin(z) is above Amax, and is else the largest position that keeps within Amax. -/
theorem pmaxOf_spec (amin amax : Int) :
    0 ≤ pmaxOf amin amax ∧ pmaxOf amin amax ≤ 6 ∧ (amax < amin → pmaxOf amin amax = 0) ∧
      (amin ≤ amax → amin + 8 * pmaxOf amin amax ≤ amax ∧
        (pmaxOf amin amax = 6 ∨ amax < amin + 8 * (pmaxOf amin amax + 1))) := by
  unfold pmaxOf clamp
  omega

/-- R54, R55: the rounding up of an eighth. -/
theorem ceilEighth_spec (x n : Int) (h1 : x ≤ 8 * n) (h2 : 8 * n < x + 8) : ceilEighth x = n := by
  unfold ceilEighth
  omega

@[simp] theorem State.plannerRun_fields (s : State) :
    s.plannerRun.st.last = s.st.last ∧ s.plannerRun.st.patterns = s.st.patterns ∧ s.plannerRun.ep.lock = s.ep.lock ∧
    s.plannerRun.ep.penalty = s.ep.penalty ∧ s.plannerRun.lens.state = s.lens.state ∧
    s.plannerRun.lens.cause = s.lens.cause ∧ s.plannerRun.lens.slip = s.lens.slip ∧
    s.plannerRun.lens.slips = s.lens.slips ∧ s.plannerRun.lens.drive = s.lens.drive ∧
    s.plannerRun.lens.d = s.lens.d ∧ s.plannerRun.lens.zoom.pos = s.lens.zoom.pos ∧
    s.plannerRun.lens.focus.pos = s.lens.focus.pos ∧ s.plannerRun.lens.iris.pos = s.lens.iris.pos := by
  unfold State.plannerRun; (repeat' split) <;> simp [State.act]

@[simp] theorem State.giveLimits_fields (s : State) :
    s.giveLimits.st.last = s.st.last ∧ s.giveLimits.st.patterns = s.st.patterns ∧ s.giveLimits.ep.lock = s.ep.lock ∧
    s.giveLimits.ep.penalty = s.ep.penalty ∧ s.giveLimits.lens.state = s.lens.state ∧
    s.giveLimits.lens.cause = s.lens.cause ∧ s.giveLimits.lens.slip = s.lens.slip ∧
    s.giveLimits.lens.slips = s.lens.slips ∧ s.giveLimits.lens.drive = s.lens.drive ∧
    s.giveLimits.lens.d = s.lens.d ∧ s.giveLimits.lens.zoom.pos = s.lens.zoom.pos ∧
    s.giveLimits.lens.focus.pos = s.lens.focus.pos ∧ s.giveLimits.lens.iris.pos = s.lens.iris.pos := by
  unfold State.giveLimits; (repeat' split) <;> simp [State.act]

@[simp] theorem State.creditWatch_fields (before : Bool) (s : State) :
    (State.creditWatch before s).st.last = s.st.last ∧ (State.creditWatch before s).st.patterns = s.st.patterns ∧
    (State.creditWatch before s).ep.lock = s.ep.lock ∧ (State.creditWatch before s).ep.penalty = s.ep.penalty ∧
    (State.creditWatch before s).lens.state = s.lens.state ∧ (State.creditWatch before s).lens.cause = s.lens.cause ∧
    (State.creditWatch before s).lens.slip = s.lens.slip ∧ (State.creditWatch before s).lens.slips = s.lens.slips ∧
    (State.creditWatch before s).lens.drive = s.lens.drive ∧ (State.creditWatch before s).lens.d = s.lens.d ∧
    (State.creditWatch before s).lens.zoom.pos = s.lens.zoom.pos ∧
    (State.creditWatch before s).lens.focus.pos = s.lens.focus.pos ∧
    (State.creditWatch before s).lens.iris.pos = s.lens.iris.pos := by
  unfold State.creditWatch; (repeat' split) <;> simp [State.act]

@[simp] theorem State.setPenalty_fields (s : State) (v : Bool) :
    (s.setPenalty v).st.last = s.st.last ∧ (s.setPenalty v).st.patterns = s.st.patterns ∧
    (s.setPenalty v).ep.lock = s.ep.lock ∧ (s.setPenalty v).lens.state = s.lens.state ∧
    (s.setPenalty v).lens.cause = s.lens.cause ∧ (s.setPenalty v).lens.slip = s.lens.slip ∧
    (s.setPenalty v).lens.slips = s.lens.slips ∧ (s.setPenalty v).lens.drive = s.lens.drive ∧
    (s.setPenalty v).lens.d = s.lens.d ∧ (s.setPenalty v).lens.zoom.pos = s.lens.zoom.pos ∧
    (s.setPenalty v).lens.focus.pos = s.lens.focus.pos ∧ (s.setPenalty v).lens.iris.pos = s.lens.iris.pos := by
  unfold State.setPenalty; (repeat' split) <;> simp [State.act]

@[simp] theorem State.setLock_fields (s : State) (v : LockSource) :
    (s.setLock v).st.last = s.st.last ∧ (s.setLock v).st.patterns = s.st.patterns ∧
    (s.setLock v).ep.penalty = s.ep.penalty ∧ (s.setLock v).lens.state = s.lens.state ∧
    (s.setLock v).lens.cause = s.lens.cause ∧ (s.setLock v).lens.slip = s.lens.slip ∧
    (s.setLock v).lens.slips = s.lens.slips ∧ (s.setLock v).lens.drive = s.lens.drive ∧
    (s.setLock v).lens.d = s.lens.d ∧ (s.setLock v).lens.zoom.pos = s.lens.zoom.pos ∧
    (s.setLock v).lens.focus.pos = s.lens.focus.pos ∧ (s.setLock v).lens.iris.pos = s.lens.iris.pos := by
  unfold State.setLock; (repeat' split) <;> simp [State.act]

@[simp] theorem State.planPrepareBegins_fields (s : State) :
    s.planPrepareBegins.st.last = s.st.last ∧ s.planPrepareBegins.st.patterns = s.st.patterns ∧
    s.planPrepareBegins.ep.penalty = s.ep.penalty ∧ s.planPrepareBegins.lens.state = s.lens.state ∧
    s.planPrepareBegins.lens.cause = s.lens.cause ∧ s.planPrepareBegins.lens.slip = s.lens.slip ∧
    s.planPrepareBegins.lens.slips = s.lens.slips ∧ s.planPrepareBegins.lens.drive = s.lens.drive ∧
    s.planPrepareBegins.lens.d = s.lens.d ∧ s.planPrepareBegins.lens.zoom.pos = s.lens.zoom.pos ∧
    s.planPrepareBegins.lens.focus.pos = s.lens.focus.pos ∧ s.planPrepareBegins.lens.iris.pos = s.lens.iris.pos := by
  unfold State.planPrepareBegins; (repeat' split) <;> simp [State.act]

@[simp] theorem State.planPrepareEnds_fields (s : State) :
    s.planPrepareEnds.st.last = s.st.last ∧ s.planPrepareEnds.st.patterns = s.st.patterns ∧
    s.planPrepareEnds.ep.penalty = s.ep.penalty ∧ s.planPrepareEnds.lens.state = s.lens.state ∧
    s.planPrepareEnds.lens.cause = s.lens.cause ∧ s.planPrepareEnds.lens.slip = s.lens.slip ∧
    s.planPrepareEnds.lens.slips = s.lens.slips ∧ s.planPrepareEnds.lens.drive = s.lens.drive ∧
    s.planPrepareEnds.lens.d = s.lens.d ∧ s.planPrepareEnds.lens.zoom.pos = s.lens.zoom.pos ∧
    s.planPrepareEnds.lens.focus.pos = s.lens.focus.pos ∧ s.planPrepareEnds.lens.iris.pos = s.lens.iris.pos := by
  unfold State.planPrepareEnds; (repeat' split) <;> simp [State.act]

@[simp] theorem State.setTlive_fields (s : State) (v : Int) :
    (s.setTlive v).fc.prepare = s.fc.prepare ∧ (s.setTlive v).fc.owed = s.fc.owed ∧
    (s.setTlive v).fc.continuous = s.fc.continuous ∧ (s.setTlive v).fc.inEffect = s.fc.inEffect ∧
    (s.setTlive v).fc.fseq = s.fc.fseq ∧ (s.setTlive v).fc.capNo = s.fc.capNo ∧
    (s.setTlive v).fc.burstCount = s.fc.burstCount ∧ (s.setTlive v).fc.cadence = s.fc.cadence ∧
    (s.setTlive v).fc.started = s.fc.started ∧ (s.setTlive v).fc.shutter = s.fc.shutter ∧
    (s.setTlive v).fc.state = s.fc.state ∧ (s.setTlive v).fc.frame = s.fc.frame ∧
    (s.setTlive v).st.last = s.st.last ∧ (s.setTlive v).st.patterns = s.st.patterns ∧
    (s.setTlive v).ep.lock = s.ep.lock ∧ (s.setTlive v).ep.penalty = s.ep.penalty ∧
    (s.setTlive v).lens.state = s.lens.state ∧ (s.setTlive v).lens.cause = s.lens.cause ∧
    (s.setTlive v).lens.slip = s.lens.slip ∧ (s.setTlive v).lens.slips = s.lens.slips ∧
    (s.setTlive v).lens.drive = s.lens.drive ∧ (s.setTlive v).lens.d = s.lens.d ∧
    (s.setTlive v).lens.zoom.pos = s.lens.zoom.pos ∧ (s.setTlive v).lens.focus.pos = s.lens.focus.pos ∧
    (s.setTlive v).lens.iris.pos = s.lens.iris.pos := by
  unfold State.setTlive; (repeat' split) <;> simp [State.act]

@[simp] theorem State.meter_fields (s : State) (r : StatRecord) :
    (s.meter r).st.last = s.st.last ∧ (s.meter r).st.patterns = s.st.patterns ∧ (s.meter r).ep.lock = s.ep.lock ∧
    (s.meter r).ep.penalty = s.ep.penalty ∧ (s.meter r).lens.state = s.lens.state ∧
    (s.meter r).lens.cause = s.lens.cause ∧ (s.meter r).lens.slip = s.lens.slip ∧
    (s.meter r).lens.slips = s.lens.slips ∧ (s.meter r).lens.drive = s.lens.drive ∧ (s.meter r).lens.d = s.lens.d ∧
    (s.meter r).lens.zoom.pos = s.lens.zoom.pos ∧ (s.meter r).lens.focus.pos = s.lens.focus.pos ∧
    (s.meter r).lens.iris.pos = s.lens.iris.pos := by
  unfold State.meter; (repeat' split) <;> simp [State.act]

@[simp] theorem State.giveFocus_fields (s : State) (target : Int) (origin : Origin) :
    (s.giveFocus target origin).1.st.last = s.st.last ∧ (s.giveFocus target origin).1.st.patterns = s.st.patterns ∧
    (s.giveFocus target origin).1.lens.state = s.lens.state ∧
    (s.giveFocus target origin).1.lens.cause = s.lens.cause ∧ (s.giveFocus target origin).1.lens.slip = s.lens.slip ∧
    (s.giveFocus target origin).1.lens.slips = s.lens.slips ∧
    (s.giveFocus target origin).1.lens.drive = s.lens.drive ∧ (s.giveFocus target origin).1.lens.d = s.lens.d ∧
    (s.giveFocus target origin).1.lens.zoom.pos = s.lens.zoom.pos ∧
    (s.giveFocus target origin).1.lens.focus.pos = s.lens.focus.pos ∧
    (s.giveFocus target origin).1.lens.iris.pos = s.lens.iris.pos := by
  simp only [State.giveFocus]; (repeat' split) <;> simp [State.act]

@[simp] theorem State.setDistance_fields (s : State) (pos : Int) :
    (s.setDistance pos).lens.state = s.lens.state ∧ (s.setDistance pos).lens.cause = s.lens.cause ∧
    (s.setDistance pos).lens.zoom = s.lens.zoom ∧ (s.setDistance pos).lens.slip = s.lens.slip ∧
    (s.setDistance pos).lens.slips = s.lens.slips ∧ (s.setDistance pos).lens.drive = s.lens.drive ∧
    (s.setDistance pos).lens.focus.pos = s.lens.focus.pos ∧ (s.setDistance pos).lens.iris.pos = s.lens.iris.pos := by
  unfold State.setDistance; (repeat' split) <;> simp [State.act]

@[simp] theorem State.setDistance32_fields (s : State) :
    s.setDistance32.lens.state = s.lens.state ∧ s.setDistance32.lens.cause = s.lens.cause ∧
    s.setDistance32.lens.zoom = s.lens.zoom ∧ s.setDistance32.lens.slip = s.lens.slip ∧
    s.setDistance32.lens.slips = s.lens.slips ∧ s.setDistance32.lens.drive = s.lens.drive ∧
    s.setDistance32.lens.focus.pos = s.lens.focus.pos ∧ s.setDistance32.lens.iris.pos = s.lens.iris.pos := by
  unfold State.setDistance32; (repeat' split) <;> simp [State.act]

@[simp] theorem State.afLock_fields (s : State) :
    s.afLock.links.mask = s.links.mask ∧ s.afLock.links.txn = s.links.txn := by
  unfold State.afLock; (repeat' split) <;> simp [State.act]

@[simp] theorem State.afFail_fields (s : State) :
    s.afFail.links.mask = s.links.mask ∧ s.afFail.links.txn = s.links.txn := by
  unfold State.afFail; (repeat' split) <;> simp [State.act]

@[simp] theorem State.probeEnd_fields (s : State) :
    s.probeEnd.lens.state = s.lens.state ∧ s.probeEnd.lens.cause = s.lens.cause ∧
    s.probeEnd.lens.zoom = s.lens.zoom ∧ s.probeEnd.lens.slip = s.lens.slip ∧ s.probeEnd.lens.slips = s.lens.slips ∧
    s.probeEnd.lens.drive = s.lens.drive ∧ s.probeEnd.lens.focus.pos = s.lens.focus.pos ∧
    s.probeEnd.lens.iris.pos = s.lens.iris.pos := by
  unfold State.probeEnd; (repeat' split) <;> simp [State.act]

@[simp] theorem State.afAdvance_st_last (n : Nat) (s : State) : (State.afAdvance n s).st.last = s.st.last := by
  induction n generalizing s with
  | zero => simp [State.afAdvance]
  | succ n ih => simp only [State.afAdvance, State.afDecide]; (repeat' split) <;> simp [ih]
@[simp] theorem State.afAdvance_st_patterns (n : Nat) (s : State) :
    (State.afAdvance n s).st.patterns = s.st.patterns := by
  induction n generalizing s with
  | zero => simp [State.afAdvance]
  | succ n ih => simp only [State.afAdvance, State.afDecide]; (repeat' split) <;> simp [ih]
@[simp] theorem State.afAdvance_lens_state (n : Nat) (s : State) :
    (State.afAdvance n s).lens.state = s.lens.state := by
  induction n generalizing s with
  | zero => simp [State.afAdvance]
  | succ n ih => simp only [State.afAdvance, State.afDecide]; (repeat' split) <;> simp [ih]
@[simp] theorem State.afAdvance_lens_cause (n : Nat) (s : State) :
    (State.afAdvance n s).lens.cause = s.lens.cause := by
  induction n generalizing s with
  | zero => simp [State.afAdvance]
  | succ n ih => simp only [State.afAdvance, State.afDecide]; (repeat' split) <;> simp [ih]
@[simp] theorem State.afAdvance_lens_slip (n : Nat) (s : State) : (State.afAdvance n s).lens.slip = s.lens.slip := by
  induction n generalizing s with
  | zero => simp [State.afAdvance]
  | succ n ih => simp only [State.afAdvance, State.afDecide]; (repeat' split) <;> simp [ih]
@[simp] theorem State.afAdvance_lens_slips (n : Nat) (s : State) :
    (State.afAdvance n s).lens.slips = s.lens.slips := by
  induction n generalizing s with
  | zero => simp [State.afAdvance]
  | succ n ih => simp only [State.afAdvance, State.afDecide]; (repeat' split) <;> simp [ih]
@[simp] theorem State.afAdvance_lens_drive (n : Nat) (s : State) :
    (State.afAdvance n s).lens.drive = s.lens.drive := by
  induction n generalizing s with
  | zero => simp [State.afAdvance]
  | succ n ih => simp only [State.afAdvance, State.afDecide]; (repeat' split) <;> simp [ih]
@[simp] theorem State.afAdvance_lens_zoom_pos (n : Nat) (s : State) :
    (State.afAdvance n s).lens.zoom.pos = s.lens.zoom.pos := by
  induction n generalizing s with
  | zero => simp [State.afAdvance]
  | succ n ih => simp only [State.afAdvance, State.afDecide]; (repeat' split) <;> simp [ih]
@[simp] theorem State.afAdvance_lens_focus_pos (n : Nat) (s : State) :
    (State.afAdvance n s).lens.focus.pos = s.lens.focus.pos := by
  induction n generalizing s with
  | zero => simp [State.afAdvance]
  | succ n ih => simp only [State.afAdvance, State.afDecide]; (repeat' split) <;> simp [ih]
@[simp] theorem State.afAdvance_lens_iris_pos (n : Nat) (s : State) :
    (State.afAdvance n s).lens.iris.pos = s.lens.iris.pos := by
  induction n generalizing s with
  | zero => simp [State.afAdvance]
  | succ n ih => simp only [State.afAdvance, State.afDecide]; (repeat' split) <;> simp [ih]
@[simp] theorem State.afAdvance_links_txn (n : Nat) (s : State) : (State.afAdvance n s).links.txn = s.links.txn := by
  induction n generalizing s with
  | zero => simp [State.afAdvance]
  | succ n ih => simp only [State.afAdvance, State.afDecide]; (repeat' split) <;> simp [ih]
@[simp] theorem State.afAdvance_links_mask (n : Nat) (s : State) :
    (State.afAdvance n s).links.mask = s.links.mask := by
  induction n generalizing s with
  | zero => simp [State.afAdvance]
  | succ n ih => simp only [State.afAdvance, State.afDecide]; (repeat' split) <;> simp [ih]

@[simp] theorem State.afMove_fields (s : State) (w : AfWait) (target : Int) :
    (s.afMove w target).st.last = s.st.last ∧ (s.afMove w target).st.patterns = s.st.patterns ∧
    (s.afMove w target).lens.state = s.lens.state ∧ (s.afMove w target).lens.cause = s.lens.cause ∧
    (s.afMove w target).lens.slip = s.lens.slip ∧ (s.afMove w target).lens.slips = s.lens.slips ∧
    (s.afMove w target).lens.drive = s.lens.drive ∧ (s.afMove w target).lens.zoom.pos = s.lens.zoom.pos ∧
    (s.afMove w target).lens.focus.pos = s.lens.focus.pos ∧ (s.afMove w target).lens.iris.pos = s.lens.iris.pos ∧
    (s.afMove w target).links.mask = s.links.mask ∧ (s.afMove w target).links.txn = s.links.txn := by
  simp only [State.afMove]; (repeat' split) <;> simp [State.act]

@[simp] theorem State.afAbort_fields (s : State) :
    s.afAbort.st.last = s.st.last ∧ s.afAbort.st.patterns = s.st.patterns ∧ s.afAbort.lens.state = s.lens.state ∧
    s.afAbort.lens.cause = s.lens.cause ∧ s.afAbort.lens.slip = s.lens.slip ∧ s.afAbort.lens.slips = s.lens.slips ∧
    s.afAbort.lens.drive = s.lens.drive ∧ s.afAbort.lens.d = s.lens.d ∧ s.afAbort.lens.zoom.pos = s.lens.zoom.pos ∧
    s.afAbort.lens.focus.pos = s.lens.focus.pos ∧ s.afAbort.lens.iris.pos = s.lens.iris.pos := by
  simp only [State.afAbort]; (repeat' split) <;> simp [State.act]

@[simp] theorem State.afIdle_fields (s : State) :
    s.afIdle.st.last = s.st.last ∧ s.afIdle.st.patterns = s.st.patterns ∧ s.afIdle.lens.state = s.lens.state ∧
    s.afIdle.lens.cause = s.lens.cause ∧ s.afIdle.lens.slip = s.lens.slip ∧ s.afIdle.lens.slips = s.lens.slips ∧
    s.afIdle.lens.drive = s.lens.drive ∧ s.afIdle.lens.d = s.lens.d ∧ s.afIdle.lens.zoom.pos = s.lens.zoom.pos ∧
    s.afIdle.lens.focus.pos = s.lens.focus.pos ∧ s.afIdle.lens.iris.pos = s.lens.iris.pos := by
  unfold State.afIdle; (repeat' split) <;> simp [State.act]

@[simp] theorem State.afFocusDone_fields (s : State) (origin : Origin) :
    (s.afFocusDone origin).st.last = s.st.last ∧ (s.afFocusDone origin).st.patterns = s.st.patterns ∧
    (s.afFocusDone origin).lens.state = s.lens.state ∧ (s.afFocusDone origin).lens.cause = s.lens.cause ∧
    (s.afFocusDone origin).lens.slip = s.lens.slip ∧ (s.afFocusDone origin).lens.slips = s.lens.slips ∧
    (s.afFocusDone origin).lens.drive = s.lens.drive ∧ (s.afFocusDone origin).lens.zoom.pos = s.lens.zoom.pos ∧
    (s.afFocusDone origin).lens.focus.pos = s.lens.focus.pos ∧
    (s.afFocusDone origin).lens.iris.pos = s.lens.iris.pos ∧ (s.afFocusDone origin).links.mask = s.links.mask ∧
    (s.afFocusDone origin).links.txn = s.links.txn := by
  unfold State.afFocusDone; (repeat' split) <;> simp [State.act]

@[simp] theorem State.afStart_fields (s : State) (origin : SearchOrigin) :
    (s.afStart origin).st.last = s.st.last ∧ (s.afStart origin).st.patterns = s.st.patterns ∧
    (s.afStart origin).lens.state = s.lens.state ∧ (s.afStart origin).lens.cause = s.lens.cause ∧
    (s.afStart origin).lens.slip = s.lens.slip ∧ (s.afStart origin).lens.slips = s.lens.slips ∧
    (s.afStart origin).lens.drive = s.lens.drive ∧ (s.afStart origin).lens.zoom.pos = s.lens.zoom.pos ∧
    (s.afStart origin).lens.focus.pos = s.lens.focus.pos ∧ (s.afStart origin).lens.iris.pos = s.lens.iris.pos ∧
    (s.afStart origin).links.mask = s.links.mask ∧ (s.afStart origin).links.txn = s.links.txn := by
  unfold State.afStart; (repeat' split) <;> simp [State.act]

@[simp] theorem State.coarseEnd_fields (s : State) :
    s.coarseEnd.st.last = s.st.last ∧ s.coarseEnd.st.patterns = s.st.patterns ∧
    s.coarseEnd.lens.state = s.lens.state ∧ s.coarseEnd.lens.cause = s.lens.cause ∧
    s.coarseEnd.lens.slip = s.lens.slip ∧ s.coarseEnd.lens.slips = s.lens.slips ∧
    s.coarseEnd.lens.drive = s.lens.drive ∧ s.coarseEnd.lens.zoom.pos = s.lens.zoom.pos ∧
    s.coarseEnd.lens.focus.pos = s.lens.focus.pos ∧ s.coarseEnd.lens.iris.pos = s.lens.iris.pos ∧
    s.coarseEnd.links.mask = s.links.mask ∧ s.coarseEnd.links.txn = s.links.txn := by
  unfold State.coarseEnd; (repeat' split) <;> simp [State.act]

@[simp] theorem State.coarseSample_fields (s : State) (f : Nat) (pos : Int) :
    (s.coarseSample f pos).st.last = s.st.last ∧ (s.coarseSample f pos).st.patterns = s.st.patterns ∧
    (s.coarseSample f pos).lens.state = s.lens.state ∧ (s.coarseSample f pos).lens.cause = s.lens.cause ∧
    (s.coarseSample f pos).lens.slip = s.lens.slip ∧ (s.coarseSample f pos).lens.slips = s.lens.slips ∧
    (s.coarseSample f pos).lens.drive = s.lens.drive ∧ (s.coarseSample f pos).lens.zoom.pos = s.lens.zoom.pos ∧
    (s.coarseSample f pos).lens.focus.pos = s.lens.focus.pos ∧
    (s.coarseSample f pos).lens.iris.pos = s.lens.iris.pos ∧ (s.coarseSample f pos).links.mask = s.links.mask ∧
    (s.coarseSample f pos).links.txn = s.links.txn := by
  simp only [State.coarseSample]; (repeat' split) <;> simp [State.act]

@[simp] theorem State.settle_fields (s : State) :
    s.settle.st.last = s.st.last ∧ s.settle.st.patterns = s.st.patterns ∧ s.settle.lens.state = s.lens.state ∧
    s.settle.lens.cause = s.lens.cause ∧ s.settle.lens.slip = s.lens.slip ∧ s.settle.lens.slips = s.lens.slips ∧
    s.settle.lens.drive = s.lens.drive ∧ s.settle.lens.zoom.pos = s.lens.zoom.pos ∧
    s.settle.lens.focus.pos = s.lens.focus.pos ∧ s.settle.lens.iris.pos = s.lens.iris.pos ∧
    s.settle.links.mask = s.links.mask ∧ s.settle.links.txn = s.links.txn := by
  simp only [State.settle]; (repeat' split) <;> simp [State.act]

@[simp] theorem State.fineSample_fields (s : State) (f : Nat) (pos : Int) :
    (s.fineSample f pos).st.last = s.st.last ∧ (s.fineSample f pos).st.patterns = s.st.patterns ∧
    (s.fineSample f pos).lens.state = s.lens.state ∧ (s.fineSample f pos).lens.cause = s.lens.cause ∧
    (s.fineSample f pos).lens.slip = s.lens.slip ∧ (s.fineSample f pos).lens.slips = s.lens.slips ∧
    (s.fineSample f pos).lens.drive = s.lens.drive ∧ (s.fineSample f pos).lens.zoom.pos = s.lens.zoom.pos ∧
    (s.fineSample f pos).lens.focus.pos = s.lens.focus.pos ∧ (s.fineSample f pos).lens.iris.pos = s.lens.iris.pos ∧
    (s.fineSample f pos).links.mask = s.links.mask ∧ (s.fineSample f pos).links.txn = s.links.txn := by
  simp only [State.fineSample]; (repeat' split) <;> simp [State.act]

@[simp] theorem State.probeSample_fields (s : State) (f : Nat) (pos : Int) :
    (s.probeSample f pos).st.last = s.st.last ∧ (s.probeSample f pos).st.patterns = s.st.patterns ∧
    (s.probeSample f pos).lens.state = s.lens.state ∧ (s.probeSample f pos).lens.cause = s.lens.cause ∧
    (s.probeSample f pos).lens.slip = s.lens.slip ∧ (s.probeSample f pos).lens.slips = s.lens.slips ∧
    (s.probeSample f pos).lens.drive = s.lens.drive ∧ (s.probeSample f pos).lens.zoom.pos = s.lens.zoom.pos ∧
    (s.probeSample f pos).lens.focus.pos = s.lens.focus.pos ∧ (s.probeSample f pos).lens.iris.pos = s.lens.iris.pos ∧
    (s.probeSample f pos).links.mask = s.links.mask ∧ (s.probeSample f pos).links.txn = s.links.txn := by
  simp only [State.probeSample]; (repeat' split) <;> simp [State.act]

@[simp] theorem State.probeMove_fields (s : State) :
    s.probeMove.st.last = s.st.last ∧ s.probeMove.st.patterns = s.st.patterns ∧
    s.probeMove.lens.state = s.lens.state ∧ s.probeMove.lens.cause = s.lens.cause ∧
    s.probeMove.lens.slip = s.lens.slip ∧ s.probeMove.lens.slips = s.lens.slips ∧
    s.probeMove.lens.drive = s.lens.drive ∧ s.probeMove.lens.zoom.pos = s.lens.zoom.pos ∧
    s.probeMove.lens.focus.pos = s.lens.focus.pos ∧ s.probeMove.lens.iris.pos = s.lens.iris.pos ∧
    s.probeMove.links.mask = s.links.mask ∧ s.probeMove.links.txn = s.links.txn := by
  unfold State.probeMove; (repeat' split) <;> simp [State.act]

@[simp] theorem State.afSample_fields (s : State) (r : StatRecord) :
    (s.afSample r).st.last = s.st.last ∧ (s.afSample r).st.patterns = s.st.patterns ∧
    (s.afSample r).lens.state = s.lens.state ∧ (s.afSample r).lens.cause = s.lens.cause ∧
    (s.afSample r).lens.slip = s.lens.slip ∧ (s.afSample r).lens.slips = s.lens.slips ∧
    (s.afSample r).lens.drive = s.lens.drive ∧ (s.afSample r).lens.zoom.pos = s.lens.zoom.pos ∧
    (s.afSample r).lens.focus.pos = s.lens.focus.pos ∧ (s.afSample r).lens.iris.pos = s.lens.iris.pos ∧
    (s.afSample r).links.mask = s.links.mask ∧ (s.afSample r).links.txn = s.links.txn := by
  unfold State.afSample; (repeat' split) <;> simp [State.act]

@[simp] theorem State.afCompare_fields (s : State) (r : StatRecord) :
    (s.afCompare r).st.last = s.st.last ∧ (s.afCompare r).st.patterns = s.st.patterns ∧
    (s.afCompare r).lens.state = s.lens.state ∧ (s.afCompare r).lens.cause = s.lens.cause ∧
    (s.afCompare r).lens.slip = s.lens.slip ∧ (s.afCompare r).lens.slips = s.lens.slips ∧
    (s.afCompare r).lens.drive = s.lens.drive ∧ (s.afCompare r).lens.zoom.pos = s.lens.zoom.pos ∧
    (s.afCompare r).lens.focus.pos = s.lens.focus.pos ∧ (s.afCompare r).lens.iris.pos = s.lens.iris.pos ∧
    (s.afCompare r).links.mask = s.links.mask ∧ (s.afCompare r).links.txn = s.links.txn := by
  simp only [State.afCompare]; (repeat' split) <;> simp [State.act]

@[simp] theorem State.afRecord_fields (s : State) (r : StatRecord) :
    (s.afRecord r).st.last = s.st.last ∧ (s.afRecord r).st.patterns = s.st.patterns ∧
    (s.afRecord r).lens.state = s.lens.state ∧ (s.afRecord r).lens.cause = s.lens.cause ∧
    (s.afRecord r).lens.slip = s.lens.slip ∧ (s.afRecord r).lens.slips = s.lens.slips ∧
    (s.afRecord r).lens.drive = s.lens.drive ∧ (s.afRecord r).lens.zoom.pos = s.lens.zoom.pos ∧
    (s.afRecord r).lens.focus.pos = s.lens.focus.pos ∧ (s.afRecord r).lens.iris.pos = s.lens.iris.pos ∧
    (s.afRecord r).links.mask = s.links.mask ∧ (s.afRecord r).links.txn = s.links.txn := by
  unfold State.afRecord; (repeat' split) <;> simp [State.act]

@[simp] theorem State.afPrepareBegins_fields (s : State) :
    s.afPrepareBegins.st.last = s.st.last ∧ s.afPrepareBegins.st.patterns = s.st.patterns ∧
    s.afPrepareBegins.lens.state = s.lens.state ∧ s.afPrepareBegins.lens.cause = s.lens.cause ∧
    s.afPrepareBegins.lens.slip = s.lens.slip ∧ s.afPrepareBegins.lens.slips = s.lens.slips ∧
    s.afPrepareBegins.lens.drive = s.lens.drive ∧ s.afPrepareBegins.lens.zoom.pos = s.lens.zoom.pos ∧
    s.afPrepareBegins.lens.focus.pos = s.lens.focus.pos ∧ s.afPrepareBegins.lens.iris.pos = s.lens.iris.pos ∧
    s.afPrepareBegins.links.mask = s.links.mask ∧ s.afPrepareBegins.links.txn = s.links.txn := by
  unfold State.afPrepareBegins; (repeat' split) <;> simp [State.act]

@[simp] theorem State.afPrepareEnds_fields (s : State) :
    s.afPrepareEnds.st.last = s.st.last ∧ s.afPrepareEnds.st.patterns = s.st.patterns ∧
    s.afPrepareEnds.lens.state = s.lens.state ∧ s.afPrepareEnds.lens.cause = s.lens.cause ∧
    s.afPrepareEnds.lens.slip = s.lens.slip ∧ s.afPrepareEnds.lens.slips = s.lens.slips ∧
    s.afPrepareEnds.lens.drive = s.lens.drive ∧ s.afPrepareEnds.lens.d = s.lens.d ∧
    s.afPrepareEnds.lens.zoom.pos = s.lens.zoom.pos ∧ s.afPrepareEnds.lens.focus.pos = s.lens.focus.pos ∧
    s.afPrepareEnds.lens.iris.pos = s.lens.iris.pos := by
  unfold State.afPrepareEnds; (repeat' split) <;> simp [State.act]

@[simp] theorem State.afShoot_fields (s : State) :
    s.afShoot.st.last = s.st.last ∧ s.afShoot.st.patterns = s.st.patterns ∧ s.afShoot.lens.state = s.lens.state ∧
    s.afShoot.lens.cause = s.lens.cause ∧ s.afShoot.lens.slip = s.lens.slip ∧ s.afShoot.lens.slips = s.lens.slips ∧
    s.afShoot.lens.drive = s.lens.drive ∧ s.afShoot.lens.zoom.pos = s.lens.zoom.pos ∧
    s.afShoot.lens.focus.pos = s.lens.focus.pos ∧ s.afShoot.lens.iris.pos = s.lens.iris.pos ∧
    s.afShoot.links.mask = s.links.mask ∧ s.afShoot.links.txn = s.links.txn := by
  unfold State.afShoot; (repeat' split) <;> simp [State.act]

@[simp] theorem State.stabSet_fields (s : State) (new : StabState) :
    (s.stabSet new).st.last = s.st.last ∧ (s.stabSet new).st.patterns = s.st.patterns ∧
    (s.stabSet new).ep.lock = s.ep.lock ∧ (s.stabSet new).ep.penalty = s.ep.penalty ∧
    (s.stabSet new).lens.state = s.lens.state ∧ (s.stabSet new).lens.cause = s.lens.cause ∧
    (s.stabSet new).lens.slip = s.lens.slip ∧ (s.stabSet new).lens.slips = s.lens.slips ∧
    (s.stabSet new).lens.drive = s.lens.drive ∧ (s.stabSet new).lens.d = s.lens.d ∧
    (s.stabSet new).lens.zoom.pos = s.lens.zoom.pos ∧ (s.stabSet new).lens.focus.pos = s.lens.focus.pos ∧
    (s.stabSet new).lens.iris.pos = s.lens.iris.pos := by
  unfold State.stabSet; (repeat' split) <;> simp [State.act]

@[simp] theorem State.derive_fields (s : State) :
    s.derive.st.last = s.st.last ∧ s.derive.st.patterns = s.st.patterns ∧ s.derive.ep.lock = s.ep.lock ∧
    s.derive.ep.penalty = s.ep.penalty ∧ s.derive.lens.state = s.lens.state ∧ s.derive.lens.cause = s.lens.cause ∧
    s.derive.lens.slip = s.lens.slip ∧ s.derive.lens.slips = s.lens.slips ∧ s.derive.lens.drive = s.lens.drive ∧
    s.derive.lens.d = s.lens.d ∧ s.derive.lens.zoom.pos = s.lens.zoom.pos ∧
    s.derive.lens.focus.pos = s.lens.focus.pos ∧ s.derive.lens.iris.pos = s.lens.iris.pos := by
  unfold State.derive; (repeat' split) <;> simp [State.act]

@[simp] theorem State.calEnd_fields (s : State) (status : CalStatus) :
    (s.calEnd status).st.last = s.st.last ∧ (s.calEnd status).st.patterns = s.st.patterns ∧
    (s.calEnd status).ep.lock = s.ep.lock ∧ (s.calEnd status).ep.penalty = s.ep.penalty ∧
    (s.calEnd status).lens.state = s.lens.state ∧ (s.calEnd status).lens.cause = s.lens.cause ∧
    (s.calEnd status).lens.slip = s.lens.slip ∧ (s.calEnd status).lens.slips = s.lens.slips ∧
    (s.calEnd status).lens.drive = s.lens.drive ∧ (s.calEnd status).lens.d = s.lens.d ∧
    (s.calEnd status).lens.zoom.pos = s.lens.zoom.pos ∧ (s.calEnd status).lens.focus.pos = s.lens.focus.pos ∧
    (s.calEnd status).lens.iris.pos = s.lens.iris.pos ∧ (s.calEnd status).links.mask = s.links.mask ∧
    (s.calEnd status).links.txn = s.links.txn := by
  unfold State.calEnd; (repeat' split) <;> simp [State.act]

@[simp] theorem State.calDone_fields (s : State) :
    s.calDone.st.last = s.st.last ∧ s.calDone.st.patterns = s.st.patterns ∧ s.calDone.ep.lock = s.ep.lock ∧
    s.calDone.ep.penalty = s.ep.penalty ∧ s.calDone.lens.state = s.lens.state ∧ s.calDone.lens.cause = s.lens.cause ∧
    s.calDone.lens.slip = s.lens.slip ∧ s.calDone.lens.slips = s.lens.slips ∧ s.calDone.lens.drive = s.lens.drive ∧
    s.calDone.lens.d = s.lens.d ∧ s.calDone.lens.zoom.pos = s.lens.zoom.pos ∧
    s.calDone.lens.focus.pos = s.lens.focus.pos ∧ s.calDone.lens.iris.pos = s.lens.iris.pos ∧
    s.calDone.links.mask = s.links.mask ∧ s.calDone.links.txn = s.links.txn := by
  unfold State.calDone; (repeat' split) <;> simp [State.act]

@[simp] theorem State.calAbort_fields (s : State) :
    s.calAbort.st.last = s.st.last ∧ s.calAbort.st.patterns = s.st.patterns ∧ s.calAbort.ep.lock = s.ep.lock ∧
    s.calAbort.ep.penalty = s.ep.penalty ∧ s.calAbort.lens.state = s.lens.state ∧
    s.calAbort.lens.cause = s.lens.cause ∧ s.calAbort.lens.slip = s.lens.slip ∧
    s.calAbort.lens.slips = s.lens.slips ∧ s.calAbort.lens.drive = s.lens.drive ∧ s.calAbort.lens.d = s.lens.d ∧
    s.calAbort.lens.zoom.pos = s.lens.zoom.pos ∧ s.calAbort.lens.focus.pos = s.lens.focus.pos ∧
    s.calAbort.lens.iris.pos = s.lens.iris.pos ∧ s.calAbort.links.mask = s.links.mask ∧
    s.calAbort.links.txn = s.links.txn := by
  unfold State.calAbort; (repeat' split) <;> simp [State.act]

@[simp] theorem State.calStart_fields (s : State) :
    s.calStart.st.last = s.st.last ∧ s.calStart.st.patterns = s.st.patterns ∧ s.calStart.ep.lock = s.ep.lock ∧
    s.calStart.ep.penalty = s.ep.penalty ∧ s.calStart.lens.state = s.lens.state ∧
    s.calStart.lens.cause = s.lens.cause ∧ s.calStart.lens.slip = s.lens.slip ∧
    s.calStart.lens.slips = s.lens.slips ∧ s.calStart.lens.drive = s.lens.drive ∧ s.calStart.lens.d = s.lens.d ∧
    s.calStart.lens.zoom.pos = s.lens.zoom.pos ∧ s.calStart.lens.focus.pos = s.lens.focus.pos ∧
    s.calStart.lens.iris.pos = s.lens.iris.pos := by
  unfold State.calStart; (repeat' split) <;> simp [State.act]

@[simp] theorem State.calSample_fields (s : State) (x y : Int) :
    (s.calSample x y).st.last = s.st.last ∧ (s.calSample x y).st.patterns = s.st.patterns ∧
    (s.calSample x y).ep.lock = s.ep.lock ∧ (s.calSample x y).ep.penalty = s.ep.penalty ∧
    (s.calSample x y).lens.state = s.lens.state ∧ (s.calSample x y).lens.cause = s.lens.cause ∧
    (s.calSample x y).lens.slip = s.lens.slip ∧ (s.calSample x y).lens.slips = s.lens.slips ∧
    (s.calSample x y).lens.drive = s.lens.drive ∧ (s.calSample x y).lens.d = s.lens.d ∧
    (s.calSample x y).lens.zoom.pos = s.lens.zoom.pos ∧ (s.calSample x y).lens.focus.pos = s.lens.focus.pos ∧
    (s.calSample x y).lens.iris.pos = s.lens.iris.pos ∧ (s.calSample x y).links.mask = s.links.mask ∧
    (s.calSample x y).links.txn = s.links.txn := by
  simp only [State.calSample]; (repeat' split) <;> simp [State.act]

@[simp] theorem State.gyroFault_fields (s : State) (cause : GyroCause) :
    (s.gyroFault cause).st.last = s.st.last ∧ (s.gyroFault cause).st.patterns = s.st.patterns ∧
    (s.gyroFault cause).ep.lock = s.ep.lock ∧ (s.gyroFault cause).ep.penalty = s.ep.penalty ∧
    (s.gyroFault cause).lens.state = s.lens.state ∧ (s.gyroFault cause).lens.cause = s.lens.cause ∧
    (s.gyroFault cause).lens.slip = s.lens.slip ∧ (s.gyroFault cause).lens.slips = s.lens.slips ∧
    (s.gyroFault cause).lens.drive = s.lens.drive ∧ (s.gyroFault cause).lens.d = s.lens.d ∧
    (s.gyroFault cause).lens.zoom.pos = s.lens.zoom.pos ∧ (s.gyroFault cause).lens.focus.pos = s.lens.focus.pos ∧
    (s.gyroFault cause).lens.iris.pos = s.lens.iris.pos ∧ (s.gyroFault cause).links.mask = s.links.mask ∧
    (s.gyroFault cause).links.txn = s.links.txn := by
  simp only [State.gyroFault]; (repeat' split) <;> simp [State.act]

@[simp] theorem State.watchStuck_fields (s : State) (u v : Int) :
    (s.watchStuck u v).st.last = s.st.last ∧ (s.watchStuck u v).st.patterns = s.st.patterns ∧
    (s.watchStuck u v).ep.lock = s.ep.lock ∧ (s.watchStuck u v).ep.penalty = s.ep.penalty ∧
    (s.watchStuck u v).lens.state = s.lens.state ∧ (s.watchStuck u v).lens.cause = s.lens.cause ∧
    (s.watchStuck u v).lens.slip = s.lens.slip ∧ (s.watchStuck u v).lens.slips = s.lens.slips ∧
    (s.watchStuck u v).lens.drive = s.lens.drive ∧ (s.watchStuck u v).lens.d = s.lens.d ∧
    (s.watchStuck u v).lens.zoom.pos = s.lens.zoom.pos ∧ (s.watchStuck u v).lens.focus.pos = s.lens.focus.pos ∧
    (s.watchStuck u v).lens.iris.pos = s.lens.iris.pos ∧ (s.watchStuck u v).links.mask = s.links.mask ∧
    (s.watchStuck u v).links.txn = s.links.txn := by
  simp only [State.watchStuck]; (repeat' split) <;> simp [State.act]

@[simp] theorem State.watchMissed_fields (s : State) :
    s.watchMissed.st.last = s.st.last ∧ s.watchMissed.st.patterns = s.st.patterns ∧
    s.watchMissed.ep.lock = s.ep.lock ∧ s.watchMissed.ep.penalty = s.ep.penalty ∧
    s.watchMissed.lens.state = s.lens.state ∧ s.watchMissed.lens.cause = s.lens.cause ∧
    s.watchMissed.lens.slip = s.lens.slip ∧ s.watchMissed.lens.slips = s.lens.slips ∧
    s.watchMissed.lens.drive = s.lens.drive ∧ s.watchMissed.lens.d = s.lens.d ∧
    s.watchMissed.lens.zoom.pos = s.lens.zoom.pos ∧ s.watchMissed.lens.focus.pos = s.lens.focus.pos ∧
    s.watchMissed.lens.iris.pos = s.lens.iris.pos ∧ s.watchMissed.links.mask = s.links.mask ∧
    s.watchMissed.links.txn = s.links.txn := by
  simp only [State.watchMissed]; (repeat' split) <;> simp [State.act]

@[simp] theorem State.orientNow_fields (s : State) :
    s.orientNow.stab.state = s.stab.state ∧ s.orientNow.stab.gyro = s.stab.gyro ∧
    s.orientNow.stab.cause = s.stab.cause ∧ s.orientNow.stab.last = s.stab.last := by
  unfold State.orientNow; (repeat' split) <;> simp [State.act]

@[simp] theorem State.recenterStep_fields (s : State) :
    s.recenterStep.st.last = s.st.last ∧ s.recenterStep.st.patterns = s.st.patterns ∧
    s.recenterStep.stab.state = s.stab.state ∧ s.recenterStep.stab.gyro = s.stab.gyro ∧
    s.recenterStep.stab.cause = s.stab.cause ∧ s.recenterStep.stab.last = s.stab.last := by
  unfold State.recenterStep; (repeat' split) <;> simp [State.act]

@[simp] theorem State.panSample_fields (s : State) (x y : Int) :
    (s.panSample x y).stab.state = s.stab.state ∧ (s.panSample x y).stab.gyro = s.stab.gyro ∧
    (s.panSample x y).stab.cause = s.stab.cause ∧ (s.panSample x y).stab.last = s.stab.last := by
  unfold State.panSample; (repeat' split) <;> simp [State.act]

@[simp] theorem State.angleSample_fields (s : State) (x y : Int) :
    (s.angleSample x y).stab.state = s.stab.state ∧ (s.angleSample x y).stab.gyro = s.stab.gyro ∧
    (s.angleSample x y).stab.cause = s.stab.cause ∧ (s.angleSample x y).stab.last = s.stab.last := by
  unfold State.angleSample; (repeat' split) <;> simp [State.act]

@[simp] theorem State.shiftSample_fields (s : State) :
    s.shiftSample.stab.state = s.stab.state ∧ s.shiftSample.stab.gyro = s.stab.gyro ∧
    s.shiftSample.stab.cause = s.stab.cause ∧ s.shiftSample.stab.last = s.stab.last := by
  simp only [State.shiftSample]; (repeat' split) <;> simp [State.act]

@[simp] theorem State.useSample_fields (s : State) (u v : Int) :
    (s.useSample u v).st.last = s.st.last ∧ (s.useSample u v).st.patterns = s.st.patterns ∧
    (s.useSample u v).ep.lock = s.ep.lock ∧ (s.useSample u v).ep.penalty = s.ep.penalty ∧
    (s.useSample u v).lens.state = s.lens.state ∧ (s.useSample u v).lens.cause = s.lens.cause ∧
    (s.useSample u v).lens.slip = s.lens.slip ∧ (s.useSample u v).lens.slips = s.lens.slips ∧
    (s.useSample u v).lens.drive = s.lens.drive ∧ (s.useSample u v).lens.d = s.lens.d ∧
    (s.useSample u v).lens.zoom.pos = s.lens.zoom.pos ∧ (s.useSample u v).lens.focus.pos = s.lens.focus.pos ∧
    (s.useSample u v).lens.iris.pos = s.lens.iris.pos ∧ (s.useSample u v).links.mask = s.links.mask ∧
    (s.useSample u v).links.txn = s.links.txn := by
  unfold State.useSample; (repeat' split) <;> simp [State.act]

@[simp] theorem State.askGyro_fields (s : State) :
    s.askGyro.stab.state = s.stab.state ∧ s.askGyro.stab.cause = s.stab.cause ∧ s.askGyro.stab.last = s.stab.last ∧
    s.askGyro.stab.gyro = s.stab.gyro ∧ s.askGyro.stab.cal = s.stab.cal ∧ s.askGyro.stab.x = s.stab.x ∧
    s.askGyro.stab.y = s.stab.y ∧ s.askGyro.stab.backlog = s.stab.backlog ∧ s.askGyro.stab.missed = s.stab.missed ∧
    s.askGyro.stab.rep1 = s.stab.rep1 ∧ s.askGyro.stab.rep2 = s.stab.rep2 := by
  unfold State.askGyro; (repeat' split) <;> simp [State.act]

@[simp] theorem State.askOnce_fields (s : State) :
    s.askOnce.stab.state = s.stab.state ∧ s.askOnce.stab.cause = s.stab.cause ∧ s.askOnce.stab.last = s.stab.last ∧
    s.askOnce.stab.gyro = s.stab.gyro ∧ s.askOnce.stab.cal = s.stab.cal ∧ s.askOnce.stab.x = s.stab.x ∧
    s.askOnce.stab.y = s.stab.y ∧ s.askOnce.stab.backlog = s.stab.backlog ∧ s.askOnce.stab.missed = s.stab.missed ∧
    s.askOnce.stab.rep1 = s.stab.rep1 ∧ s.askOnce.stab.rep2 = s.stab.rep2 := by
  unfold State.askOnce; (repeat' split) <;> simp [State.act]

@[simp] theorem State.nextGyro_fields (s : State) :
    s.nextGyro.stab.state = s.stab.state ∧ s.nextGyro.stab.cause = s.stab.cause ∧ s.nextGyro.stab.last = s.stab.last ∧
    s.nextGyro.stab.cal = s.stab.cal ∧ s.nextGyro.stab.x = s.stab.x ∧ s.nextGyro.stab.y = s.stab.y ∧
    s.nextGyro.stab.backlog = s.stab.backlog ∧ s.nextGyro.stab.missed = s.stab.missed ∧
    s.nextGyro.stab.rep1 = s.stab.rep1 ∧ s.nextGyro.stab.rep2 = s.stab.rep2 := by
  unfold State.nextGyro; (repeat' split) <;> simp [State.act]

@[simp] theorem State.gyroReceived_fields (s : State) (u v : Int) :
    (s.gyroReceived u v).st.last = s.st.last ∧ (s.gyroReceived u v).st.patterns = s.st.patterns ∧
    (s.gyroReceived u v).ep.lock = s.ep.lock ∧ (s.gyroReceived u v).ep.penalty = s.ep.penalty ∧
    (s.gyroReceived u v).lens.state = s.lens.state ∧ (s.gyroReceived u v).lens.cause = s.lens.cause ∧
    (s.gyroReceived u v).lens.slip = s.lens.slip ∧ (s.gyroReceived u v).lens.slips = s.lens.slips ∧
    (s.gyroReceived u v).lens.drive = s.lens.drive ∧ (s.gyroReceived u v).lens.d = s.lens.d ∧
    (s.gyroReceived u v).lens.zoom.pos = s.lens.zoom.pos ∧ (s.gyroReceived u v).lens.focus.pos = s.lens.focus.pos ∧
    (s.gyroReceived u v).lens.iris.pos = s.lens.iris.pos ∧ (s.gyroReceived u v).links.mask = s.links.mask ∧
    (s.gyroReceived u v).links.txn = s.links.txn := by
  simp only [State.gyroReceived]; (repeat' split) <;> simp [State.act]

@[simp] theorem State.gyroMissed_fields (s : State) :
    s.gyroMissed.st.last = s.st.last ∧ s.gyroMissed.st.patterns = s.st.patterns ∧ s.gyroMissed.ep.lock = s.ep.lock ∧
    s.gyroMissed.ep.penalty = s.ep.penalty ∧ s.gyroMissed.lens.state = s.lens.state ∧
    s.gyroMissed.lens.cause = s.lens.cause ∧ s.gyroMissed.lens.slip = s.lens.slip ∧
    s.gyroMissed.lens.slips = s.lens.slips ∧ s.gyroMissed.lens.drive = s.lens.drive ∧
    s.gyroMissed.lens.d = s.lens.d ∧ s.gyroMissed.lens.zoom.pos = s.lens.zoom.pos ∧
    s.gyroMissed.lens.focus.pos = s.lens.focus.pos ∧ s.gyroMissed.lens.iris.pos = s.lens.iris.pos ∧
    s.gyroMissed.links.mask = s.links.mask ∧ s.gyroMissed.links.txn = s.links.txn := by
  unfold State.gyroMissed; (repeat' split) <;> simp [State.act]

@[simp] theorem State.recenterTick_fields (s : State) :
    s.recenterTick.stab.state = s.stab.state ∧ s.recenterTick.stab.gyro = s.stab.gyro ∧
    s.recenterTick.stab.cause = s.stab.cause ∧ s.recenterTick.stab.last = s.stab.last ∧
    s.recenterTick.links.mask = s.links.mask ∧ s.recenterTick.links.txn = s.links.txn := by
  simp only [State.recenterTick]; (repeat' split) <;> simp [State.act]

@[simp] theorem State.residualStart_fields (s : State) :
    s.residualStart.stab.state = s.stab.state ∧ s.residualStart.stab.gyro = s.stab.gyro ∧
    s.residualStart.stab.cause = s.stab.cause ∧ s.residualStart.stab.last = s.stab.last := by
  unfold State.residualStart; (repeat' split) <;> simp [State.act]

@[simp] theorem State.gradeEnd_fields (s : State) :
    s.gradeEnd.st.last = s.st.last ∧ s.gradeEnd.st.patterns = s.st.patterns ∧ s.gradeEnd.ep.lock = s.ep.lock ∧
    s.gradeEnd.lens.state = s.lens.state ∧ s.gradeEnd.lens.cause = s.lens.cause ∧
    s.gradeEnd.lens.slip = s.lens.slip ∧ s.gradeEnd.lens.slips = s.lens.slips ∧
    s.gradeEnd.lens.drive = s.lens.drive ∧ s.gradeEnd.lens.d = s.lens.d ∧
    s.gradeEnd.lens.zoom.pos = s.lens.zoom.pos ∧ s.gradeEnd.lens.focus.pos = s.lens.focus.pos ∧
    s.gradeEnd.lens.iris.pos = s.lens.iris.pos ∧ s.gradeEnd.stab.state = s.stab.state ∧
    s.gradeEnd.stab.gyro = s.stab.gyro ∧ s.gradeEnd.stab.cause = s.stab.cause ∧
    s.gradeEnd.stab.last = s.stab.last := by
  unfold State.gradeEnd; (repeat' split) <;> simp [State.act]

@[simp] theorem State.stopSampling_fields (s : State) :
    s.stopSampling.stab.state = s.stab.state ∧ s.stopSampling.stab.cause = s.stab.cause ∧
    s.stopSampling.stab.last = s.stab.last ∧ s.stopSampling.stab.cal = s.stab.cal ∧ s.stopSampling.stab.x = s.stab.x ∧
    s.stopSampling.stab.y = s.stab.y ∧ s.stopSampling.stab.backlog = s.stab.backlog ∧
    s.stopSampling.stab.gyro = none := by
  unfold State.stopSampling; (repeat' split) <;> simp [State.act]

@[simp] theorem State.resumeSampling_fields (s : State) :
    s.resumeSampling.stab.state = s.stab.state ∧ s.resumeSampling.stab.cause = s.stab.cause ∧
    s.resumeSampling.stab.last = s.stab.last := by
  unfold State.resumeSampling; (repeat' split) <;> simp [State.act]

@[simp] theorem State.stabRestart_fields (s : State) :
    s.stabRestart.st.last = s.st.last ∧ s.stabRestart.st.patterns = s.st.patterns ∧
    s.stabRestart.ep.lock = s.ep.lock ∧ s.stabRestart.ep.penalty = s.ep.penalty ∧
    s.stabRestart.lens.state = s.lens.state ∧ s.stabRestart.lens.cause = s.lens.cause ∧
    s.stabRestart.lens.slip = s.lens.slip ∧ s.stabRestart.lens.slips = s.lens.slips ∧
    s.stabRestart.lens.drive = s.lens.drive ∧ s.stabRestart.lens.d = s.lens.d ∧
    s.stabRestart.lens.zoom.pos = s.lens.zoom.pos ∧ s.stabRestart.lens.focus.pos = s.lens.focus.pos ∧
    s.stabRestart.lens.iris.pos = s.lens.iris.pos := by
  unfold State.stabRestart; (repeat' split) <;> simp [State.act]

@[simp] theorem State.stabSoftReset_fields (s : State) :
    s.stabSoftReset.stab.gyro = s.stab.gyro ∧ s.stabSoftReset.stab.cause = s.stab.cause ∧
    s.stabSoftReset.stab.last = s.stab.last := by
  unfold State.stabSoftReset; (repeat' split) <;> simp [State.act]

@[simp] theorem State.staleRestart_fields (s : State) :
    s.staleRestart.rq.queue = s.rq.queue ∧ s.staleRestart.rq.opened = s.rq.opened := by
  unfold State.staleRestart; (repeat' split) <;> simp [State.act]

@[simp] theorem State.staleThreshold_fields (s : State) (old : Nat) :
    (s.staleThreshold old).rq.queue = s.rq.queue ∧ (s.staleThreshold old).rq.opened = s.rq.opened := by
  unfold State.staleThreshold; (repeat' split) <;> simp [State.act]

@[simp] theorem State.recordOpen_fields (s : State) (slot : Nat) (mode : BurstMode) :
    (s.recordOpen slot mode).rq.queue = s.rq.queue := by
  unfold State.recordOpen; (repeat' split) <;> simp [State.act]

@[simp] theorem State.recordStart_fields (s : State) (part : StartPart) :
    (s.recordStart part).rq.queue = s.rq.queue := by
  unfold State.recordStart; (repeat' split) <;> simp [State.act]

@[simp] theorem State.recordEnd_fields (s : State) :
    s.recordEnd.rq.queue = s.rq.queue := by
  unfold State.recordEnd; (repeat' split) <;> simp [State.act]

@[simp] theorem State.recordAppend_fields (s : State) (r : CaptureRecord) :
    (s.recordAppend r).rq.opened = s.rq.opened ∧ (s.recordAppend r).links.mask = s.links.mask ∧
    (s.recordAppend r).links.txn = s.links.txn := by
  simp only [State.recordAppend]; (repeat' split) <;> simp [State.act]

@[simp] theorem State.recordComplete_fields (s : State) (timedOut : Bool) :
    (s.recordComplete timedOut).links.mask = s.links.mask ∧ (s.recordComplete timedOut).links.txn = s.links.txn := by
  unfold State.recordComplete; (repeat' split) <;> simp [State.act]

@[simp] theorem State.take_fields (s : State) (capNo : Word32) :
    (s.take capNo).rq.opened = s.rq.opened := by
  unfold State.take; (repeat' split) <;> simp [State.act]

@[simp] theorem State.recordSoftReset_fields (s : State) (inFlight : Bool) :
    (s.recordSoftReset inFlight).rq.queue = s.rq.queue := by
  unfold State.recordSoftReset; (repeat' split) <;> simp [State.act]

/-- All that the arbiter can do: nothing, where the DRAM is not free or nothing requests; else the grant and the pointers of its
choice. -/
theorem State.arbitrate_cases (s : State) :
    ((s.dramFree = false ∨ s.arbiterChoice = none) ∧ s.arbitrate = s) ∨
    ∃ who r1 r2, s.dramFree = true ∧ s.arbiterChoice = some (who, r1, r2) ∧
      s.arbitrate = s.withStore (fun b => { b with grant := some (s.grantFor who), ring1 := r1, ring2 := r2 }) := by
  unfold State.arbitrate
  rcases hd : s.dramFree with _ | _
  · exact .inl ⟨.inl rfl, by simp⟩
  · rcases hc : s.arbiterChoice with _ | ⟨who, r1, r2⟩
    · exact .inl ⟨.inr rfl, by simp⟩
    · exact .inr ⟨who, r1, r2, rfl, rfl, by simp⟩

@[simp] theorem State.arbitrate_fields (s : State) :
    s.arbitrate.store.dram = s.store.dram ∧ s.arbitrate.store.backlog = s.store.backlog ∧
    s.arbitrate.store.cut = s.store.cut ∧ s.arbitrate.store.slots = s.store.slots := by
  unfold State.arbitrate; (repeat' split) <;> simp [State.act]

@[simp] theorem State.enterSelfRefresh_fields (s : State) :
    s.enterSelfRefresh.store.dram = s.store.dram ∧ s.enterSelfRefresh.store.backlog = s.store.backlog ∧
    s.enterSelfRefresh.store.cut = s.store.cut ∧ s.enterSelfRefresh.store.slots = s.store.slots := by
  unfold State.enterSelfRefresh; (repeat' split) <;> simp [State.act]

@[simp] theorem State.storeSettle_fields (s : State) :
    s.storeSettle.store.dram = s.store.dram ∧ s.storeSettle.store.backlog = s.store.backlog ∧
    s.storeSettle.store.cut = s.store.cut ∧ s.storeSettle.store.slots = s.store.slots := by
  unfold State.storeSettle; (repeat' split) <;> simp [State.act]

@[simp] theorem State.leaveSelfRefresh_fields (s : State) :
    s.leaveSelfRefresh.store.dram = s.store.dram ∧ s.leaveSelfRefresh.store.cut = s.store.cut ∧
    s.leaveSelfRefresh.store.slots = s.store.slots := by
  unfold State.leaveSelfRefresh; (repeat' split) <;> simp [State.act]

@[simp] theorem State.startupEnd_fields (s : State) :
    s.startupEnd.store.dram = s.store.dram ∧ s.startupEnd.store.cut = s.store.cut ∧
    s.startupEnd.store.slots = s.store.slots := by
  unfold State.startupEnd; (repeat' split) <;> simp [State.act]

@[simp] theorem State.trickleEnd_fields (s : State) :
    s.trickleEnd.store.dram = s.store.dram ∧ s.trickleEnd.store.cut = s.store.cut ∧
    s.trickleEnd.store.slots = s.store.slots := by
  unfold State.trickleEnd; (repeat' split) <;> simp [State.act]

@[simp] theorem State.slotFill_fields (s : State) (slot : Nat) :
    (s.slotFill slot).store.dram = s.store.dram ∧ (s.slotFill slot).store.backlog = s.store.backlog ∧
    (s.slotFill slot).store.cut = s.store.cut := by
  unfold State.slotFill; (repeat' split) <;> simp [State.act]

@[simp] theorem State.ingestByte_fields (s : State) (v : Byte) :
    (s.ingestByte v).store.dram = s.store.dram ∧ (s.ingestByte v).store.backlog = s.store.backlog ∧
    (s.ingestByte v).store.cut = s.store.cut ∧ (s.ingestByte v).links.mask = s.links.mask ∧
    (s.ingestByte v).links.txn = s.links.txn := by
  simp only [State.ingestByte]; (repeat' split) <;> simp [State.act]

@[simp] theorem State.slotFull_fields (s : State) (timedOut : Bool) :
    (s.slotFull timedOut).store.dram = s.store.dram ∧ (s.slotFull timedOut).store.backlog = s.store.backlog ∧
    (s.slotFull timedOut).store.cut = s.store.cut := by
  unfold State.slotFull; (repeat' split) <;> simp [State.act]

@[simp] theorem State.stallUpdate_fields (s : State) (p : Port) :
    (s.stallUpdate p).store.dram = s.store.dram ∧ (s.stallUpdate p).store.backlog = s.store.backlog ∧
    (s.stallUpdate p).store.cut = s.store.cut ∧ (s.stallUpdate p).store.slots = s.store.slots := by
  unfold State.stallUpdate; (repeat' split) <;> simp [State.act]

@[simp] theorem State.streamClose_fields (s : State) (p : Port) (reason : EndReason) (drained : SlotState) :
    (s.streamClose p reason drained).store.dram = s.store.dram ∧
    (s.streamClose p reason drained).store.backlog = s.store.backlog ∧
    (s.streamClose p reason drained).store.cut = s.store.cut := by
  unfold State.streamClose; (repeat' split) <;> simp [State.act]

@[simp] theorem State.streamDone_fields (s : State) (p : Port) :
    (s.streamDone p).store.dram = s.store.dram ∧ (s.streamDone p).store.backlog = s.store.backlog ∧
    (s.streamDone p).store.cut = s.store.cut ∧ (s.streamDone p).links.mask = s.links.mask ∧
    (s.streamDone p).links.txn = s.links.txn := by
  unfold State.streamDone; (repeat' split) <;> simp [State.act]

@[simp] theorem State.streamOpen_fields (s : State) (p : Port) (kind : StreamKind) (slot first endOff : Nat) :
    (s.streamOpen p kind slot first endOff).store.dram = s.store.dram ∧
    (s.streamOpen p kind slot first endOff).store.cut = s.store.cut ∧
    (s.streamOpen p kind slot first endOff).links.mask = s.links.mask ∧
    (s.streamOpen p kind slot first endOff).links.txn = s.links.txn := by
  unfold State.streamOpen; (repeat' split) <;> simp [State.act]

@[simp] theorem State.streamByteOut_fields (s : State) (p : Port) :
    (s.streamByteOut p).store.dram = s.store.dram ∧ (s.streamByteOut p).store.backlog = s.store.backlog ∧
    (s.streamByteOut p).store.cut = s.store.cut ∧ (s.streamByteOut p).links.mask = s.links.mask ∧
    (s.streamByteOut p).links.txn = s.links.txn := by
  unfold State.streamByteOut; (repeat' split) <;> simp [State.act]

@[simp] theorem State.streamCut_fields (s : State) (p : Port) :
    (s.streamCut p).store.dram = s.store.dram ∧ (s.streamCut p).store.backlog = s.store.backlog ∧
    (s.streamCut p).links.mask = s.links.mask ∧ (s.streamCut p).links.txn = s.links.txn := by
  unfold State.streamCut; (repeat' split) <;> simp [State.act]

@[simp] theorem State.streamData_fields (s : State) (p : Port) (n : Nat) :
    (s.streamData p n).store.dram = s.store.dram ∧ (s.streamData p n).store.backlog = s.store.backlog ∧
    (s.streamData p n).store.cut = s.store.cut ∧ (s.streamData p n).store.slots = s.store.slots := by
  unfold State.streamData; (repeat' split) <;> simp [State.act]

@[simp] theorem State.slotRelease_fields (s : State) (slot : Nat) :
    (s.slotRelease slot).store.dram = s.store.dram ∧ (s.slotRelease slot).store.backlog = s.store.backlog ∧
    (s.slotRelease slot).store.cut = s.store.cut ∧ (s.slotRelease slot).links.mask = s.links.mask ∧
    (s.slotRelease slot).links.txn = s.links.txn := by
  simp only [State.slotRelease]; (repeat' split) <;> simp [State.act]

@[simp] theorem State.clearStream_fields (l : List Nat) (s : State) (p : Port) :
    (State.clearStream l s p).store.dram = s.store.dram ∧ (State.clearStream l s p).store.backlog = s.store.backlog ∧
    (State.clearStream l s p).store.cut = s.store.cut ∧ (State.clearStream l s p).links.mask = s.links.mask ∧
    (State.clearStream l s p).links.txn = s.links.txn := by
  unfold State.clearStream; (repeat' split) <;> simp [State.act]

@[simp] theorem State.reinterpolate_fields (s : State) :
    s.reinterpolate.st.last = s.st.last ∧ s.reinterpolate.st.patterns = s.st.patterns ∧
    s.reinterpolate.ep.lock = s.ep.lock ∧ s.reinterpolate.ep.penalty = s.ep.penalty ∧
    s.reinterpolate.lens.state = s.lens.state ∧ s.reinterpolate.lens.cause = s.lens.cause ∧
    s.reinterpolate.lens.slip = s.lens.slip ∧ s.reinterpolate.lens.slips = s.lens.slips ∧
    s.reinterpolate.lens.drive = s.lens.drive ∧ s.reinterpolate.lens.d = s.lens.d ∧
    s.reinterpolate.lens.zoom.pos = s.lens.zoom.pos ∧ s.reinterpolate.lens.focus.pos = s.lens.focus.pos ∧
    s.reinterpolate.lens.iris.pos = s.lens.iris.pos ∧ s.reinterpolate.stab.state = s.stab.state ∧
    s.reinterpolate.stab.gyro = s.stab.gyro ∧ s.reinterpolate.stab.cause = s.stab.cause ∧
    s.reinterpolate.stab.last = s.stab.last := by
  unfold State.reinterpolate; (repeat' split) <;> simp [State.act]

@[simp] theorem State.requestFocus_fields (s : State) (target : Int) (origin : Origin) :
    (s.requestFocus target origin).st.last = s.st.last ∧ (s.requestFocus target origin).st.patterns = s.st.patterns ∧
    (s.requestFocus target origin).lens.state = s.lens.state ∧
    (s.requestFocus target origin).lens.cause = s.lens.cause ∧
    (s.requestFocus target origin).lens.slip = s.lens.slip ∧
    (s.requestFocus target origin).lens.slips = s.lens.slips ∧
    (s.requestFocus target origin).lens.drive = s.lens.drive ∧
    (s.requestFocus target origin).lens.zoom.pos = s.lens.zoom.pos ∧
    (s.requestFocus target origin).lens.focus.pos = s.lens.focus.pos ∧
    (s.requestFocus target origin).lens.iris.pos = s.lens.iris.pos ∧
    (s.requestFocus target origin).links.mask = s.links.mask ∧
    (s.requestFocus target origin).links.txn = s.links.txn := by
  simp only [State.requestFocus]; (repeat' split) <;> simp [State.act]

@[simp] theorem State.trackFocus_fields (s : State) :
    s.trackFocus.st.last = s.st.last ∧ s.trackFocus.st.patterns = s.st.patterns ∧
    s.trackFocus.lens.state = s.lens.state ∧ s.trackFocus.lens.cause = s.lens.cause ∧
    s.trackFocus.lens.slip = s.lens.slip ∧ s.trackFocus.lens.slips = s.lens.slips ∧
    s.trackFocus.lens.drive = s.lens.drive ∧ s.trackFocus.lens.zoom.pos = s.lens.zoom.pos ∧
    s.trackFocus.lens.focus.pos = s.lens.focus.pos ∧ s.trackFocus.lens.iris.pos = s.lens.iris.pos ∧
    s.trackFocus.links.mask = s.links.mask ∧ s.trackFocus.links.txn = s.links.txn := by
  unfold State.trackFocus; (repeat' split) <;> simp [State.act]

@[simp] theorem State.trackIris_fields (s : State) :
    s.trackIris.st.last = s.st.last ∧ s.trackIris.st.patterns = s.st.patterns ∧
    s.trackIris.lens.state = s.lens.state ∧ s.trackIris.lens.cause = s.lens.cause ∧
    s.trackIris.lens.slip = s.lens.slip ∧ s.trackIris.lens.slips = s.lens.slips ∧
    s.trackIris.lens.drive = s.lens.drive ∧ s.trackIris.lens.d = s.lens.d ∧
    s.trackIris.lens.zoom.pos = s.lens.zoom.pos ∧ s.trackIris.lens.focus.pos = s.lens.focus.pos ∧
    s.trackIris.lens.iris.pos = s.lens.iris.pos := by
  unfold State.trackIris; (repeat' split) <;> simp [State.act]

@[simp] theorem State.trackingPoint_fields (s : State) :
    s.trackingPoint.st.last = s.st.last ∧ s.trackingPoint.st.patterns = s.st.patterns ∧
    s.trackingPoint.lens.state = s.lens.state ∧ s.trackingPoint.lens.cause = s.lens.cause ∧
    s.trackingPoint.lens.slip = s.lens.slip ∧ s.trackingPoint.lens.slips = s.lens.slips ∧
    s.trackingPoint.lens.drive = s.lens.drive ∧ s.trackingPoint.lens.zoom.pos = s.lens.zoom.pos ∧
    s.trackingPoint.lens.focus.pos = s.lens.focus.pos ∧ s.trackingPoint.lens.iris.pos = s.lens.iris.pos ∧
    s.trackingPoint.links.mask = s.links.mask ∧ s.trackingPoint.links.txn = s.links.txn := by
  unfold State.trackingPoint; (repeat' split) <;> simp [State.act]

@[simp] theorem State.zoomDone_fields (s : State) (origin : Origin) :
    (s.zoomDone origin).st.last = s.st.last ∧ (s.zoomDone origin).st.patterns = s.st.patterns ∧
    (s.zoomDone origin).lens.state = s.lens.state ∧ (s.zoomDone origin).lens.cause = s.lens.cause ∧
    (s.zoomDone origin).lens.slip = s.lens.slip ∧ (s.zoomDone origin).lens.slips = s.lens.slips ∧
    (s.zoomDone origin).lens.drive = s.lens.drive ∧ (s.zoomDone origin).lens.zoom.pos = s.lens.zoom.pos ∧
    (s.zoomDone origin).lens.focus.pos = s.lens.focus.pos ∧ (s.zoomDone origin).lens.iris.pos = s.lens.iris.pos ∧
    (s.zoomDone origin).links.mask = s.links.mask ∧ (s.zoomDone origin).links.txn = s.links.txn := by
  unfold State.zoomDone; (repeat' split) <;> simp [State.act]

@[simp] theorem State.requestZoom_fields (s : State) (target : Int) (origin : Origin) (speed : Nat) :
    (s.requestZoom target origin speed).st.last = s.st.last ∧
    (s.requestZoom target origin speed).st.patterns = s.st.patterns ∧
    (s.requestZoom target origin speed).lens.state = s.lens.state ∧
    (s.requestZoom target origin speed).lens.cause = s.lens.cause ∧
    (s.requestZoom target origin speed).lens.slip = s.lens.slip ∧
    (s.requestZoom target origin speed).lens.slips = s.lens.slips ∧
    (s.requestZoom target origin speed).lens.drive = s.lens.drive ∧
    (s.requestZoom target origin speed).lens.zoom.pos = s.lens.zoom.pos ∧
    (s.requestZoom target origin speed).lens.focus.pos = s.lens.focus.pos ∧
    (s.requestZoom target origin speed).lens.iris.pos = s.lens.iris.pos ∧
    (s.requestZoom target origin speed).links.mask = s.links.mask ∧
    (s.requestZoom target origin speed).links.txn = s.links.txn := by
  simp only [State.requestZoom]; (repeat' split) <;> simp [State.act]

@[simp] theorem State.zoomHalt_fields (s : State) :
    s.zoomHalt.st.last = s.st.last ∧ s.zoomHalt.st.patterns = s.st.patterns ∧ s.zoomHalt.lens.state = s.lens.state ∧
    s.zoomHalt.lens.cause = s.lens.cause ∧ s.zoomHalt.lens.slip = s.lens.slip ∧
    s.zoomHalt.lens.slips = s.lens.slips ∧ s.zoomHalt.lens.drive = s.lens.drive ∧
    s.zoomHalt.links.mask = s.links.mask ∧ s.zoomHalt.links.txn = s.links.txn := by
  simp only [State.zoomHalt]; (repeat' split) <;> simp [State.act]

@[simp] theorem State.startPending_fields (s : State) (which : Actuator) :
    (s.startPending which).st.last = s.st.last ∧ (s.startPending which).st.patterns = s.st.patterns ∧
    (s.startPending which).lens.state = s.lens.state ∧ (s.startPending which).lens.cause = s.lens.cause ∧
    (s.startPending which).lens.slip = s.lens.slip ∧ (s.startPending which).lens.slips = s.lens.slips ∧
    (s.startPending which).lens.drive = s.lens.drive ∧ (s.startPending which).links.mask = s.links.mask ∧
    (s.startPending which).links.txn = s.links.txn := by
  unfold State.startPending; (repeat' split) <;> simp [State.act]

@[simp] theorem State.startAllPending_fields (s : State) :
    s.startAllPending.st.last = s.st.last ∧ s.startAllPending.st.patterns = s.st.patterns ∧
    s.startAllPending.lens.state = s.lens.state ∧ s.startAllPending.lens.cause = s.lens.cause ∧
    s.startAllPending.lens.slip = s.lens.slip ∧ s.startAllPending.lens.slips = s.lens.slips ∧
    s.startAllPending.lens.drive = s.lens.drive ∧ s.startAllPending.links.mask = s.links.mask ∧
    s.startAllPending.links.txn = s.links.txn := by
  unfold State.startAllPending; (repeat' split) <;> simp [State.act]

@[simp] theorem State.stopMoves_fields (s : State) :
    s.stopMoves.st.last = s.st.last ∧ s.stopMoves.st.patterns = s.st.patterns ∧
    s.stopMoves.lens.state = s.lens.state ∧ s.stopMoves.lens.cause = s.lens.cause ∧
    s.stopMoves.lens.slip = s.lens.slip ∧ s.stopMoves.lens.slips = s.lens.slips ∧
    s.stopMoves.lens.drive = s.lens.drive ∧ s.stopMoves.lens.d = s.lens.d ∧
    s.stopMoves.lens.zoom.pos = s.lens.zoom.pos ∧ s.stopMoves.lens.focus.pos = s.lens.focus.pos ∧
    s.stopMoves.lens.iris.pos = s.lens.iris.pos := by
  unfold State.stopMoves; (repeat' split) <;> simp [State.act]

@[simp] theorem State.lensSoftReset_fields (s : State) :
    s.lensSoftReset.st.last = s.st.last ∧ s.lensSoftReset.st.patterns = s.st.patterns ∧
    s.lensSoftReset.lens.cause = s.lens.cause ∧ s.lensSoftReset.lens.slip = s.lens.slip ∧
    s.lensSoftReset.lens.slips = s.lens.slips ∧ s.lensSoftReset.lens.d = s.lens.d ∧
    s.lensSoftReset.lens.zoom.pos = s.lens.zoom.pos ∧ s.lensSoftReset.lens.focus.pos = s.lens.focus.pos ∧
    s.lensSoftReset.lens.iris.pos = s.lens.iris.pos := by
  unfold State.lensSoftReset; (repeat' split) <;> simp [State.act]

@[simp] theorem State.quietRestart_fields (s : State) :
    s.quietRestart.fc.prepare = s.fc.prepare ∧ s.quietRestart.fc.owed = s.fc.owed ∧
    s.quietRestart.fc.continuous = s.fc.continuous ∧ s.quietRestart.fc.inEffect = s.fc.inEffect ∧
    s.quietRestart.fc.fseq = s.fc.fseq ∧ s.quietRestart.fc.capNo = s.fc.capNo ∧
    s.quietRestart.fc.burstCount = s.fc.burstCount ∧ s.quietRestart.fc.cadence = s.fc.cadence ∧
    s.quietRestart.fc.started = s.fc.started ∧ s.quietRestart.fc.shutter = s.fc.shutter ∧
    s.quietRestart.fc.state = s.fc.state ∧ s.quietRestart.fc.frame = s.fc.frame := by
  unfold State.quietRestart; (repeat' split) <;> simp [State.act]

@[simp] theorem State.quietSync_fields (was : Bool) (s : State) :
    (State.quietSync was s).fc.prepare = s.fc.prepare ∧ (State.quietSync was s).fc.owed = s.fc.owed ∧
    (State.quietSync was s).fc.continuous = s.fc.continuous ∧ (State.quietSync was s).fc.inEffect = s.fc.inEffect ∧
    (State.quietSync was s).fc.fseq = s.fc.fseq ∧ (State.quietSync was s).fc.capNo = s.fc.capNo ∧
    (State.quietSync was s).fc.burstCount = s.fc.burstCount ∧ (State.quietSync was s).fc.cadence = s.fc.cadence ∧
    (State.quietSync was s).fc.started = s.fc.started ∧ (State.quietSync was s).fc.shutter = s.fc.shutter ∧
    (State.quietSync was s).fc.state = s.fc.state ∧ (State.quietSync was s).fc.frame = s.fc.frame := by
  unfold State.quietSync; (repeat' split) <;> simp [State.act]

@[simp] theorem State.burstCheck_fields (was : Bool) (s : State) :
    (State.burstCheck was s).fc.prepare = s.fc.prepare ∧ (State.burstCheck was s).fc.owed = s.fc.owed ∧
    (State.burstCheck was s).fc.continuous = s.fc.continuous ∧ (State.burstCheck was s).fc.inEffect = s.fc.inEffect ∧
    (State.burstCheck was s).fc.fseq = s.fc.fseq ∧ (State.burstCheck was s).fc.capNo = s.fc.capNo ∧
    (State.burstCheck was s).fc.cadence = s.fc.cadence ∧ (State.burstCheck was s).fc.started = s.fc.started ∧
    (State.burstCheck was s).fc.shutter = s.fc.shutter ∧ (State.burstCheck was s).fc.state = s.fc.state ∧
    (State.burstCheck was s).fc.frame = s.fc.frame ∧ (State.burstCheck was s).st.last = s.st.last ∧
    (State.burstCheck was s).st.patterns = s.st.patterns ∧ (State.burstCheck was s).ep.lock = s.ep.lock ∧
    (State.burstCheck was s).lens.state = s.lens.state ∧ (State.burstCheck was s).lens.cause = s.lens.cause ∧
    (State.burstCheck was s).lens.slip = s.lens.slip ∧ (State.burstCheck was s).lens.slips = s.lens.slips ∧
    (State.burstCheck was s).lens.drive = s.lens.drive ∧ (State.burstCheck was s).lens.d = s.lens.d ∧
    (State.burstCheck was s).lens.zoom.pos = s.lens.zoom.pos ∧
    (State.burstCheck was s).lens.focus.pos = s.lens.focus.pos ∧
    (State.burstCheck was s).lens.iris.pos = s.lens.iris.pos ∧ (State.burstCheck was s).links.mask = s.links.mask ∧
    (State.burstCheck was s).links.txn = s.links.txn := by
  unfold State.burstCheck; (repeat' split) <;> simp [State.act]

@[simp] theorem State.clearShots_fields (s : State) :
    s.clearShots.fc.prepare = s.fc.prepare ∧ s.clearShots.fc.inEffect = s.fc.inEffect ∧
    s.clearShots.fc.fseq = s.fc.fseq ∧ s.clearShots.fc.capNo = s.fc.capNo ∧ s.clearShots.fc.cadence = s.fc.cadence ∧
    s.clearShots.fc.started = s.fc.started ∧ s.clearShots.fc.shutter = s.fc.shutter ∧
    s.clearShots.fc.state = s.fc.state ∧ s.clearShots.fc.frame = s.fc.frame ∧ s.clearShots.st.last = s.st.last ∧
    s.clearShots.st.patterns = s.st.patterns ∧ s.clearShots.ep.lock = s.ep.lock ∧
    s.clearShots.lens.state = s.lens.state ∧ s.clearShots.lens.cause = s.lens.cause ∧
    s.clearShots.lens.slip = s.lens.slip ∧ s.clearShots.lens.slips = s.lens.slips ∧
    s.clearShots.lens.drive = s.lens.drive ∧ s.clearShots.lens.d = s.lens.d ∧
    s.clearShots.lens.zoom.pos = s.lens.zoom.pos ∧ s.clearShots.lens.focus.pos = s.lens.focus.pos ∧
    s.clearShots.lens.iris.pos = s.lens.iris.pos ∧ s.clearShots.links.mask = s.links.mask ∧
    s.clearShots.links.txn = s.links.txn := by
  unfold State.clearShots; (repeat' split) <;> simp [State.act]

@[simp] theorem State.beginTransfer_fields (s : State) (v : InEffect) :
    (s.beginTransfer v).fc.prepare = s.fc.prepare ∧ (s.beginTransfer v).fc.owed = s.fc.owed ∧
    (s.beginTransfer v).fc.continuous = s.fc.continuous ∧ (s.beginTransfer v).fc.inEffect = s.fc.inEffect ∧
    (s.beginTransfer v).fc.fseq = s.fc.fseq ∧ (s.beginTransfer v).fc.capNo = s.fc.capNo ∧
    (s.beginTransfer v).fc.burstCount = s.fc.burstCount ∧ (s.beginTransfer v).fc.cadence = s.fc.cadence ∧
    (s.beginTransfer v).fc.started = s.fc.started ∧ (s.beginTransfer v).fc.shutter = s.fc.shutter ∧
    (s.beginTransfer v).fc.state = s.fc.state ∧ (s.beginTransfer v).fc.frame = s.fc.frame := by
  unfold State.beginTransfer; (repeat' split) <;> simp [State.act]

@[simp] theorem State.beginLive_fields (s : State) (start : Nat) :
    (s.beginLive start).fc.prepare = s.fc.prepare ∧ (s.beginLive start).fc.owed = s.fc.owed ∧
    (s.beginLive start).fc.continuous = s.fc.continuous ∧ (s.beginLive start).fc.inEffect = s.fc.inEffect ∧
    (s.beginLive start).fc.fseq = s.fc.fseq ∧ (s.beginLive start).fc.capNo = s.fc.capNo ∧
    (s.beginLive start).fc.burstCount = s.fc.burstCount ∧ (s.beginLive start).fc.cadence = s.fc.cadence ∧
    (s.beginLive start).fc.started = s.fc.started ∧ (s.beginLive start).fc.shutter = s.fc.shutter ∧
    (s.beginLive start).fc.state = s.fc.state ∧ (s.beginLive start).fc.frame = s.fc.frame := by
  unfold State.beginLive; (repeat' split) <;> simp [State.act]

@[simp] theorem State.planFirst_fields (s : State) :
    s.planFirst.fc.prepare = s.fc.prepare ∧ s.planFirst.fc.owed = s.fc.owed ∧
    s.planFirst.fc.continuous = s.fc.continuous ∧ s.planFirst.fc.inEffect = s.fc.inEffect ∧
    s.planFirst.fc.fseq = s.fc.fseq ∧ s.planFirst.fc.capNo = s.fc.capNo ∧
    s.planFirst.fc.burstCount = s.fc.burstCount ∧ s.planFirst.fc.cadence = s.fc.cadence ∧
    s.planFirst.fc.started = s.fc.started ∧ s.planFirst.fc.shutter = s.fc.shutter ∧
    s.planFirst.fc.state = s.fc.state ∧ s.planFirst.fc.frame = s.fc.frame := by
  unfold State.planFirst; (repeat' split) <;> simp [State.act]

@[simp] theorem State.planNext_fields (s : State) :
    s.planNext.fc.prepare = s.fc.prepare ∧ s.planNext.fc.owed = s.fc.owed ∧
    s.planNext.fc.continuous = s.fc.continuous ∧ s.planNext.fc.inEffect = s.fc.inEffect ∧
    s.planNext.fc.fseq = s.fc.fseq ∧ s.planNext.fc.capNo = s.fc.capNo ∧ s.planNext.fc.burstCount = s.fc.burstCount ∧
    s.planNext.fc.cadence = s.fc.cadence ∧ s.planNext.fc.started = s.fc.started ∧
    s.planNext.fc.shutter = s.fc.shutter ∧ s.planNext.fc.state = s.fc.state ∧ s.planNext.fc.frame = s.fc.frame := by
  unfold State.planNext; (repeat' split) <;> simp [State.act]

@[simp] theorem State.enterLive_fields (s : State) :
    s.enterLive.fc.prepare = s.fc.prepare ∧ s.enterLive.fc.owed = s.fc.owed ∧
    s.enterLive.fc.continuous = s.fc.continuous ∧ s.enterLive.fc.inEffect = s.fc.inEffect ∧
    s.enterLive.fc.fseq = s.fc.fseq ∧ s.enterLive.fc.capNo = s.fc.capNo ∧
    s.enterLive.fc.burstCount = s.fc.burstCount ∧ s.enterLive.fc.cadence = s.fc.cadence ∧
    s.enterLive.fc.started = s.fc.started ∧ s.enterLive.fc.shutter = s.fc.shutter ∧
    s.enterLive.fc.frame = s.fc.frame := by
  unfold State.enterLive; (repeat' split) <;> simp [State.act]

@[simp] theorem State.countCapture_fields (s : State) :
    s.countCapture.fc.prepare = s.fc.prepare ∧ s.countCapture.fc.owed = s.fc.owed ∧
    s.countCapture.fc.continuous = s.fc.continuous ∧ s.countCapture.fc.inEffect = s.fc.inEffect ∧
    s.countCapture.fc.fseq = s.fc.fseq ∧ s.countCapture.fc.cadence = s.fc.cadence ∧
    s.countCapture.fc.started = s.fc.started ∧ s.countCapture.fc.shutter = s.fc.shutter ∧
    s.countCapture.fc.state = s.fc.state ∧ s.countCapture.fc.frame = s.fc.frame := by
  unfold State.countCapture; (repeat' split) <;> simp [State.act]

@[simp] theorem State.gatePass_fields (s : State) :
    s.gatePass.fc.prepare = s.fc.prepare ∧ s.gatePass.fc.owed = s.fc.owed ∧
    s.gatePass.fc.continuous = s.fc.continuous ∧ s.gatePass.fc.inEffect = s.fc.inEffect ∧
    s.gatePass.fc.fseq = s.fc.fseq ∧ s.gatePass.fc.cadence = s.fc.cadence ∧ s.gatePass.fc.started = s.fc.started ∧
    s.gatePass.fc.shutter = s.fc.shutter ∧ s.gatePass.fc.frame = s.fc.frame ∧ s.gatePass.st.last = s.st.last ∧
    s.gatePass.st.patterns = s.st.patterns ∧ s.gatePass.ep.lock = s.ep.lock ∧ s.gatePass.ep.penalty = s.ep.penalty ∧
    s.gatePass.lens.state = s.lens.state ∧ s.gatePass.lens.cause = s.lens.cause ∧
    s.gatePass.lens.slip = s.lens.slip ∧ s.gatePass.lens.slips = s.lens.slips ∧
    s.gatePass.lens.drive = s.lens.drive ∧ s.gatePass.lens.d = s.lens.d ∧
    s.gatePass.lens.zoom.pos = s.lens.zoom.pos ∧ s.gatePass.lens.focus.pos = s.lens.focus.pos ∧
    s.gatePass.lens.iris.pos = s.lens.iris.pos ∧ s.gatePass.store.dram = s.store.dram ∧
    s.gatePass.store.backlog = s.store.backlog ∧ s.gatePass.store.cut = s.store.cut ∧
    s.gatePass.rq.queue = s.rq.queue := by
  unfold State.gatePass; (repeat' split) <;> simp [State.act]

@[simp] theorem State.gateFailed_fields (s : State) :
    s.gateFailed.fc.prepare = s.fc.prepare ∧ s.gateFailed.fc.owed = s.fc.owed ∧
    s.gateFailed.fc.continuous = s.fc.continuous ∧ s.gateFailed.fc.inEffect = s.fc.inEffect ∧
    s.gateFailed.fc.fseq = s.fc.fseq ∧ s.gateFailed.fc.capNo = s.fc.capNo ∧
    s.gateFailed.fc.burstCount = s.fc.burstCount ∧ s.gateFailed.fc.cadence = s.fc.cadence ∧
    s.gateFailed.fc.started = s.fc.started ∧ s.gateFailed.fc.shutter = s.fc.shutter ∧
    s.gateFailed.fc.frame = s.fc.frame := by
  unfold State.gateFailed; (repeat' split) <;> simp [State.act]

@[simp] theorem State.evaluateGate_fields (s : State) :
    s.evaluateGate.fc.prepare = s.fc.prepare ∧ s.evaluateGate.fc.owed = s.fc.owed ∧
    s.evaluateGate.fc.continuous = s.fc.continuous ∧ s.evaluateGate.fc.inEffect = s.fc.inEffect ∧
    s.evaluateGate.fc.fseq = s.fc.fseq ∧ s.evaluateGate.fc.cadence = s.fc.cadence ∧
    s.evaluateGate.fc.started = s.fc.started ∧ s.evaluateGate.fc.shutter = s.fc.shutter ∧
    s.evaluateGate.fc.frame = s.fc.frame ∧ s.evaluateGate.st.last = s.st.last ∧
    s.evaluateGate.st.patterns = s.st.patterns ∧ s.evaluateGate.ep.lock = s.ep.lock ∧
    s.evaluateGate.ep.penalty = s.ep.penalty ∧ s.evaluateGate.lens.state = s.lens.state ∧
    s.evaluateGate.lens.cause = s.lens.cause ∧ s.evaluateGate.lens.slip = s.lens.slip ∧
    s.evaluateGate.lens.slips = s.lens.slips ∧ s.evaluateGate.lens.drive = s.lens.drive ∧
    s.evaluateGate.lens.d = s.lens.d ∧ s.evaluateGate.lens.zoom.pos = s.lens.zoom.pos ∧
    s.evaluateGate.lens.focus.pos = s.lens.focus.pos ∧ s.evaluateGate.lens.iris.pos = s.lens.iris.pos ∧
    s.evaluateGate.store.dram = s.store.dram ∧ s.evaluateGate.store.backlog = s.store.backlog ∧
    s.evaluateGate.store.cut = s.store.cut ∧ s.evaluateGate.rq.queue = s.rq.queue := by
  unfold State.evaluateGate; (repeat' split) <;> simp [State.act]

@[simp] theorem State.liveBoundary_fields (s : State) :
    s.liveBoundary.fc.prepare = s.fc.prepare ∧ s.liveBoundary.fc.owed = s.fc.owed ∧
    s.liveBoundary.fc.continuous = s.fc.continuous ∧ s.liveBoundary.fc.inEffect = s.fc.inEffect ∧
    s.liveBoundary.fc.fseq = s.fc.fseq ∧ s.liveBoundary.fc.cadence = s.fc.cadence ∧
    s.liveBoundary.fc.started = s.fc.started ∧ s.liveBoundary.fc.shutter = s.fc.shutter ∧
    s.liveBoundary.fc.frame = s.fc.frame ∧ s.liveBoundary.st.last = s.st.last ∧
    s.liveBoundary.st.patterns = s.st.patterns ∧ s.liveBoundary.ep.lock = s.ep.lock ∧
    s.liveBoundary.ep.penalty = s.ep.penalty ∧ s.liveBoundary.lens.state = s.lens.state ∧
    s.liveBoundary.lens.cause = s.lens.cause ∧ s.liveBoundary.lens.slip = s.lens.slip ∧
    s.liveBoundary.lens.slips = s.lens.slips ∧ s.liveBoundary.lens.drive = s.lens.drive ∧
    s.liveBoundary.lens.d = s.lens.d ∧ s.liveBoundary.lens.zoom.pos = s.lens.zoom.pos ∧
    s.liveBoundary.lens.focus.pos = s.lens.focus.pos ∧ s.liveBoundary.lens.iris.pos = s.lens.iris.pos ∧
    s.liveBoundary.store.dram = s.store.dram ∧ s.liveBoundary.store.backlog = s.store.backlog ∧
    s.liveBoundary.store.cut = s.store.cut ∧ s.liveBoundary.rq.queue = s.rq.queue := by
  unfold State.liveBoundary; (repeat' split) <;> simp [State.act]

@[simp] theorem State.leaveIdle_fields (s : State) :
    s.leaveIdle.fc.prepare = s.fc.prepare ∧ s.leaveIdle.fc.owed = s.fc.owed ∧
    s.leaveIdle.fc.continuous = s.fc.continuous ∧ s.leaveIdle.fc.inEffect = s.fc.inEffect ∧
    s.leaveIdle.fc.fseq = s.fc.fseq ∧ s.leaveIdle.fc.cadence = s.fc.cadence ∧ s.leaveIdle.fc.started = s.fc.started ∧
    s.leaveIdle.fc.shutter = s.fc.shutter ∧ s.leaveIdle.fc.frame = s.fc.frame ∧ s.leaveIdle.st.last = s.st.last ∧
    s.leaveIdle.st.patterns = s.st.patterns ∧ s.leaveIdle.ep.lock = s.ep.lock ∧
    s.leaveIdle.ep.penalty = s.ep.penalty ∧ s.leaveIdle.lens.state = s.lens.state ∧
    s.leaveIdle.lens.cause = s.lens.cause ∧ s.leaveIdle.lens.slip = s.lens.slip ∧
    s.leaveIdle.lens.slips = s.lens.slips ∧ s.leaveIdle.lens.drive = s.lens.drive ∧ s.leaveIdle.lens.d = s.lens.d ∧
    s.leaveIdle.lens.zoom.pos = s.lens.zoom.pos ∧ s.leaveIdle.lens.focus.pos = s.lens.focus.pos ∧
    s.leaveIdle.lens.iris.pos = s.lens.iris.pos ∧ s.leaveIdle.store.dram = s.store.dram ∧
    s.leaveIdle.store.backlog = s.store.backlog ∧ s.leaveIdle.store.cut = s.store.cut ∧
    s.leaveIdle.rq.queue = s.rq.queue := by
  unfold State.leaveIdle; (repeat' split) <;> simp [State.act]

@[simp] theorem State.stopLoop_fields (s : State) :
    s.stopLoop.fc.prepare = s.fc.prepare ∧ s.stopLoop.fc.owed = s.fc.owed ∧
    s.stopLoop.fc.continuous = s.fc.continuous ∧ s.stopLoop.fc.inEffect = s.fc.inEffect ∧
    s.stopLoop.fc.fseq = s.fc.fseq ∧ s.stopLoop.fc.capNo = s.fc.capNo ∧ s.stopLoop.fc.burstCount = s.fc.burstCount ∧
    s.stopLoop.fc.cadence = s.fc.cadence ∧ s.stopLoop.fc.started = s.fc.started ∧
    s.stopLoop.fc.shutter = s.fc.shutter ∧ s.stopLoop.fc.frame = s.fc.frame := by
  unfold State.stopLoop; (repeat' split) <;> simp [State.act]

@[simp] theorem State.renewTlive_fields (s : State) :
    s.renewTlive.fc.prepare = s.fc.prepare ∧ s.renewTlive.fc.owed = s.fc.owed ∧
    s.renewTlive.fc.continuous = s.fc.continuous ∧ s.renewTlive.fc.inEffect = s.fc.inEffect ∧
    s.renewTlive.fc.fseq = s.fc.fseq ∧ s.renewTlive.fc.capNo = s.fc.capNo ∧
    s.renewTlive.fc.burstCount = s.fc.burstCount ∧ s.renewTlive.fc.cadence = s.fc.cadence ∧
    s.renewTlive.fc.started = s.fc.started ∧ s.renewTlive.fc.shutter = s.fc.shutter ∧
    s.renewTlive.fc.state = s.fc.state ∧ s.renewTlive.fc.frame = s.fc.frame ∧ s.renewTlive.st.last = s.st.last ∧
    s.renewTlive.st.patterns = s.st.patterns ∧ s.renewTlive.ep.lock = s.ep.lock ∧
    s.renewTlive.ep.penalty = s.ep.penalty ∧ s.renewTlive.lens.state = s.lens.state ∧
    s.renewTlive.lens.cause = s.lens.cause ∧ s.renewTlive.lens.slip = s.lens.slip ∧
    s.renewTlive.lens.slips = s.lens.slips ∧ s.renewTlive.lens.drive = s.lens.drive ∧
    s.renewTlive.lens.d = s.lens.d ∧ s.renewTlive.lens.zoom.pos = s.lens.zoom.pos ∧
    s.renewTlive.lens.focus.pos = s.lens.focus.pos ∧ s.renewTlive.lens.iris.pos = s.lens.iris.pos := by
  unfold State.renewTlive; (repeat' split) <;> simp [State.act]

@[simp] theorem State.goStill_fields (s : State) :
    s.goStill.fc.prepare = s.fc.prepare ∧ s.goStill.fc.owed = s.fc.owed ∧ s.goStill.fc.continuous = s.fc.continuous ∧
    s.goStill.fc.inEffect = s.fc.inEffect ∧ s.goStill.fc.fseq = s.fc.fseq ∧ s.goStill.fc.capNo = s.fc.capNo ∧
    s.goStill.fc.burstCount = s.fc.burstCount ∧ s.goStill.fc.started = s.fc.started ∧
    s.goStill.fc.shutter = s.fc.shutter ∧ s.goStill.fc.frame = s.fc.frame ∧ s.goStill.st.last = s.st.last ∧
    s.goStill.st.patterns = s.st.patterns ∧ s.goStill.ep.lock = s.ep.lock ∧ s.goStill.ep.penalty = s.ep.penalty ∧
    s.goStill.lens.state = s.lens.state ∧ s.goStill.lens.cause = s.lens.cause ∧ s.goStill.lens.slip = s.lens.slip ∧
    s.goStill.lens.slips = s.lens.slips ∧ s.goStill.lens.drive = s.lens.drive ∧ s.goStill.lens.d = s.lens.d ∧
    s.goStill.lens.zoom.pos = s.lens.zoom.pos ∧ s.goStill.lens.focus.pos = s.lens.focus.pos ∧
    s.goStill.lens.iris.pos = s.lens.iris.pos ∧ s.goStill.store.dram = s.store.dram ∧
    s.goStill.store.backlog = s.store.backlog ∧ s.goStill.store.cut = s.store.cut ∧
    s.goStill.store.slots = s.store.slots ∧ s.goStill.links.mask = s.links.mask ∧
    s.goStill.links.txn = s.links.txn := by
  unfold State.goStill; (repeat' split) <;> simp [State.act]

@[simp] theorem State.wakeBoth_fields (s : State) :
    s.wakeBoth.fc.prepare = s.fc.prepare ∧ s.wakeBoth.fc.owed = s.fc.owed ∧
    s.wakeBoth.fc.continuous = s.fc.continuous ∧ s.wakeBoth.fc.inEffect = s.fc.inEffect ∧
    s.wakeBoth.fc.fseq = s.fc.fseq ∧ s.wakeBoth.fc.cadence = s.fc.cadence ∧ s.wakeBoth.fc.started = s.fc.started ∧
    s.wakeBoth.fc.shutter = s.fc.shutter ∧ s.wakeBoth.fc.frame = s.fc.frame ∧ s.wakeBoth.st.last = s.st.last ∧
    s.wakeBoth.st.patterns = s.st.patterns ∧ s.wakeBoth.ep.lock = s.ep.lock ∧ s.wakeBoth.ep.penalty = s.ep.penalty ∧
    s.wakeBoth.lens.state = s.lens.state ∧ s.wakeBoth.lens.cause = s.lens.cause ∧
    s.wakeBoth.lens.slip = s.lens.slip ∧ s.wakeBoth.lens.slips = s.lens.slips ∧
    s.wakeBoth.lens.drive = s.lens.drive ∧ s.wakeBoth.lens.d = s.lens.d ∧
    s.wakeBoth.lens.zoom.pos = s.lens.zoom.pos ∧ s.wakeBoth.lens.focus.pos = s.lens.focus.pos ∧
    s.wakeBoth.lens.iris.pos = s.lens.iris.pos ∧ s.wakeBoth.store.dram = s.store.dram ∧
    s.wakeBoth.store.cut = s.store.cut ∧ s.wakeBoth.rq.queue = s.rq.queue := by
  unfold State.wakeBoth; (repeat' split) <;> simp [State.act]

@[simp] theorem State.goLive_fields (s : State) (level : Cadence) :
    (s.goLive level).fc.prepare = s.fc.prepare ∧ (s.goLive level).fc.owed = s.fc.owed ∧
    (s.goLive level).fc.continuous = s.fc.continuous ∧ (s.goLive level).fc.inEffect = s.fc.inEffect ∧
    (s.goLive level).fc.fseq = s.fc.fseq ∧ (s.goLive level).fc.started = s.fc.started ∧
    (s.goLive level).fc.shutter = s.fc.shutter ∧ (s.goLive level).fc.frame = s.fc.frame ∧
    (s.goLive level).st.last = s.st.last ∧ (s.goLive level).st.patterns = s.st.patterns ∧
    (s.goLive level).ep.lock = s.ep.lock ∧ (s.goLive level).ep.penalty = s.ep.penalty ∧
    (s.goLive level).lens.state = s.lens.state ∧ (s.goLive level).lens.cause = s.lens.cause ∧
    (s.goLive level).lens.slip = s.lens.slip ∧ (s.goLive level).lens.slips = s.lens.slips ∧
    (s.goLive level).lens.drive = s.lens.drive ∧ (s.goLive level).lens.d = s.lens.d ∧
    (s.goLive level).lens.zoom.pos = s.lens.zoom.pos ∧ (s.goLive level).lens.focus.pos = s.lens.focus.pos ∧
    (s.goLive level).lens.iris.pos = s.lens.iris.pos ∧ (s.goLive level).store.dram = s.store.dram ∧
    (s.goLive level).store.cut = s.store.cut ∧ (s.goLive level).rq.queue = s.rq.queue := by
  unfold State.goLive; (repeat' split) <;> simp [State.act]

@[simp] theorem State.setCadence_fields (s : State) (level : Cadence) :
    (s.setCadence level).fc.prepare = s.fc.prepare ∧ (s.setCadence level).fc.owed = s.fc.owed ∧
    (s.setCadence level).fc.continuous = s.fc.continuous ∧ (s.setCadence level).fc.inEffect = s.fc.inEffect ∧
    (s.setCadence level).fc.fseq = s.fc.fseq ∧ (s.setCadence level).fc.started = s.fc.started ∧
    (s.setCadence level).fc.shutter = s.fc.shutter ∧ (s.setCadence level).fc.frame = s.fc.frame ∧
    (s.setCadence level).st.last = s.st.last ∧ (s.setCadence level).st.patterns = s.st.patterns ∧
    (s.setCadence level).ep.lock = s.ep.lock ∧ (s.setCadence level).ep.penalty = s.ep.penalty ∧
    (s.setCadence level).lens.state = s.lens.state ∧ (s.setCadence level).lens.cause = s.lens.cause ∧
    (s.setCadence level).lens.slip = s.lens.slip ∧ (s.setCadence level).lens.slips = s.lens.slips ∧
    (s.setCadence level).lens.drive = s.lens.drive ∧ (s.setCadence level).lens.d = s.lens.d ∧
    (s.setCadence level).lens.zoom.pos = s.lens.zoom.pos ∧ (s.setCadence level).lens.focus.pos = s.lens.focus.pos ∧
    (s.setCadence level).lens.iris.pos = s.lens.iris.pos ∧ (s.setCadence level).store.dram = s.store.dram ∧
    (s.setCadence level).store.cut = s.store.cut ∧ (s.setCadence level).rq.queue = s.rq.queue ∧
    (s.setCadence level).links.mask = s.links.mask ∧ (s.setCadence level).links.txn = s.links.txn := by
  unfold State.setCadence; (repeat' split) <;> simp [State.act]

@[simp] theorem State.setCadence_live_links (s : State) : (s.setCadence .liveFast).links = s.links := by
  simp only [State.setCadence]; split <;> simp
@[simp] theorem State.setCadence_live_af (s : State) : (s.setCadence .liveFast).af = s.af := by
  simp only [State.setCadence]; split <;> simp
@[simp] theorem State.activity_links (s : State) : s.activity.links = s.links := by
  simp only [State.activity]; split <;> simp
@[simp] theorem State.activity_af (s : State) : s.activity.af = s.af := by
  simp only [State.activity]; split <;> simp

@[simp] theorem State.activity_fields (s : State) :
    s.activity.fc.prepare = s.fc.prepare ∧ s.activity.fc.owed = s.fc.owed ∧
    s.activity.fc.continuous = s.fc.continuous ∧ s.activity.fc.inEffect = s.fc.inEffect ∧
    s.activity.fc.fseq = s.fc.fseq ∧ s.activity.fc.started = s.fc.started ∧ s.activity.fc.shutter = s.fc.shutter ∧
    s.activity.fc.frame = s.fc.frame ∧ s.activity.st.last = s.st.last ∧ s.activity.st.patterns = s.st.patterns ∧
    s.activity.ep.lock = s.ep.lock ∧ s.activity.ep.penalty = s.ep.penalty ∧ s.activity.lens.state = s.lens.state ∧
    s.activity.lens.cause = s.lens.cause ∧ s.activity.lens.slip = s.lens.slip ∧
    s.activity.lens.slips = s.lens.slips ∧ s.activity.lens.drive = s.lens.drive ∧ s.activity.lens.d = s.lens.d ∧
    s.activity.lens.zoom.pos = s.lens.zoom.pos ∧ s.activity.lens.focus.pos = s.lens.focus.pos ∧
    s.activity.lens.iris.pos = s.lens.iris.pos ∧ s.activity.af.state = s.af.state ∧
    s.activity.store.dram = s.store.dram ∧ s.activity.store.cut = s.store.cut ∧ s.activity.rq.queue = s.rq.queue ∧
    s.activity.links.mask = s.links.mask ∧ s.activity.links.txn = s.links.txn ∧ s.activity.links.occ = s.links.occ ∧
    s.activity.links.pend = s.links.pend := by
  simp only [State.activity]; (repeat' split) <;> simp [State.act]

@[simp] theorem State.startFrame_fields (s : State) (v : InEffect) (late : Bool) :
    (s.startFrame v late).fc.prepare = s.fc.prepare ∧ (s.startFrame v late).fc.owed = s.fc.owed ∧
    (s.startFrame v late).fc.continuous = s.fc.continuous ∧ (s.startFrame v late).fc.inEffect = s.fc.inEffect ∧
    (s.startFrame v late).fc.capNo = s.fc.capNo ∧ (s.startFrame v late).fc.burstCount = s.fc.burstCount ∧
    (s.startFrame v late).fc.cadence = s.fc.cadence ∧ (s.startFrame v late).fc.started = s.fc.started ∧
    (s.startFrame v late).fc.shutter = s.fc.shutter ∧ (s.startFrame v late).fc.state = s.fc.state ∧
    (s.startFrame v late).fc.cap = s.fc.cap ∧ (s.startFrame v late).st.last = s.st.last ∧
    (s.startFrame v late).st.patterns = s.st.patterns := by
  simp only [State.startFrame]; (repeat' split) <;> simp [State.act]

@[simp] theorem State.liveStart_fields (s : State) (x : Transfer) (acked : Bool) :
    (s.liveStart x acked).fc.prepare = s.fc.prepare ∧ (s.liveStart x acked).fc.owed = s.fc.owed ∧
    (s.liveStart x acked).fc.continuous = s.fc.continuous ∧ (s.liveStart x acked).fc.inEffect = s.fc.inEffect ∧
    (s.liveStart x acked).fc.capNo = s.fc.capNo ∧ (s.liveStart x acked).fc.burstCount = s.fc.burstCount ∧
    (s.liveStart x acked).fc.cadence = s.fc.cadence ∧ (s.liveStart x acked).fc.started = s.fc.started ∧
    (s.liveStart x acked).fc.shutter = s.fc.shutter ∧ (s.liveStart x acked).fc.state = s.fc.state ∧
    (s.liveStart x acked).st.last = s.st.last ∧ (s.liveStart x acked).st.patterns = s.st.patterns ∧
    (s.liveStart x acked).links.mask = s.links.mask ∧ (s.liveStart x acked).links.txn = s.links.txn := by
  simp only [State.liveStart]; (repeat' split) <;> simp [State.act]

@[simp] theorem State.liveEnd_fields (s : State) :
    s.liveEnd.fc.prepare = s.fc.prepare ∧ s.liveEnd.fc.owed = s.fc.owed ∧ s.liveEnd.fc.continuous = s.fc.continuous ∧
    s.liveEnd.fc.inEffect = s.fc.inEffect ∧ s.liveEnd.fc.fseq = s.fc.fseq ∧ s.liveEnd.fc.capNo = s.fc.capNo ∧
    s.liveEnd.fc.burstCount = s.fc.burstCount ∧ s.liveEnd.fc.cadence = s.fc.cadence ∧
    s.liveEnd.fc.started = s.fc.started ∧ s.liveEnd.fc.shutter = s.fc.shutter ∧ s.liveEnd.fc.state = s.fc.state ∧
    s.liveEnd.st.last = s.st.last ∧ s.liveEnd.st.patterns = s.st.patterns := by
  unfold State.liveEnd; (repeat' split) <;> simp [State.act]

@[simp] theorem State.onCap_fields (s : State) (f : Capture → Capture) :
    (s.onCap f).fc.prepare = s.fc.prepare ∧ (s.onCap f).fc.owed = s.fc.owed ∧
    (s.onCap f).fc.continuous = s.fc.continuous ∧ (s.onCap f).fc.inEffect = s.fc.inEffect ∧
    (s.onCap f).fc.fseq = s.fc.fseq ∧ (s.onCap f).fc.capNo = s.fc.capNo ∧
    (s.onCap f).fc.burstCount = s.fc.burstCount ∧ (s.onCap f).fc.cadence = s.fc.cadence ∧
    (s.onCap f).fc.started = s.fc.started ∧ (s.onCap f).fc.shutter = s.fc.shutter ∧
    (s.onCap f).fc.state = s.fc.state ∧ (s.onCap f).fc.frame = s.fc.frame := by
  unfold State.onCap; (repeat' split) <;> simp [State.act]

@[simp] theorem State.issueClose_fields (s : State) :
    s.issueClose.fc.prepare = s.fc.prepare ∧ s.issueClose.fc.owed = s.fc.owed ∧
    s.issueClose.fc.continuous = s.fc.continuous ∧ s.issueClose.fc.inEffect = s.fc.inEffect ∧
    s.issueClose.fc.fseq = s.fc.fseq ∧ s.issueClose.fc.capNo = s.fc.capNo ∧
    s.issueClose.fc.burstCount = s.fc.burstCount ∧ s.issueClose.fc.cadence = s.fc.cadence ∧
    s.issueClose.fc.started = s.fc.started ∧ s.issueClose.fc.state = s.fc.state ∧
    s.issueClose.fc.frame = s.fc.frame := by
  unfold State.issueClose; (repeat' split) <;> simp [State.act]

@[simp] theorem State.captureStart_fields (s : State) (c : Capture) :
    (s.captureStart c).fc.prepare = s.fc.prepare ∧ (s.captureStart c).fc.owed = s.fc.owed ∧
    (s.captureStart c).fc.continuous = s.fc.continuous ∧ (s.captureStart c).fc.inEffect = s.fc.inEffect ∧
    (s.captureStart c).fc.capNo = s.fc.capNo ∧ (s.captureStart c).fc.burstCount = s.fc.burstCount ∧
    (s.captureStart c).fc.cadence = s.fc.cadence ∧ (s.captureStart c).fc.started = s.fc.started ∧
    (s.captureStart c).fc.shutter = s.fc.shutter ∧ (s.captureStart c).st.last = s.st.last ∧
    (s.captureStart c).st.patterns = s.st.patterns ∧ (s.captureStart c).stab.state = s.stab.state ∧
    (s.captureStart c).stab.gyro = s.stab.gyro ∧ (s.captureStart c).stab.cause = s.stab.cause ∧
    (s.captureStart c).stab.last = s.stab.last ∧ (s.captureStart c).rq.queue = s.rq.queue ∧
    (s.captureStart c).links.mask = s.links.mask ∧ (s.captureStart c).links.txn = s.links.txn := by
  simp only [State.captureStart]; (repeat' split) <;> simp [State.act]

@[simp] theorem State.release_fields (s : State) (c : Capture) :
    (s.release c).fc.prepare = s.fc.prepare ∧ (s.release c).fc.owed = s.fc.owed ∧
    (s.release c).fc.continuous = s.fc.continuous ∧ (s.release c).fc.inEffect = s.fc.inEffect ∧
    (s.release c).fc.capNo = s.fc.capNo ∧ (s.release c).fc.burstCount = s.fc.burstCount ∧
    (s.release c).fc.cadence = s.fc.cadence ∧ (s.release c).fc.started = s.fc.started ∧
    (s.release c).st.last = s.st.last ∧ (s.release c).st.patterns = s.st.patterns ∧
    (s.release c).stab.state = s.stab.state ∧ (s.release c).stab.gyro = s.stab.gyro ∧
    (s.release c).stab.cause = s.stab.cause ∧ (s.release c).stab.last = s.stab.last ∧
    (s.release c).rq.queue = s.rq.queue ∧ (s.release c).links.mask = s.links.mask ∧
    (s.release c).links.txn = s.links.txn := by
  simp only [State.release]; (repeat' split) <;> simp [State.act]

@[simp] theorem State.releaseDue_fields (s : State) (c : Capture) :
    (s.releaseDue c).fc.prepare = s.fc.prepare ∧ (s.releaseDue c).fc.owed = s.fc.owed ∧
    (s.releaseDue c).fc.continuous = s.fc.continuous ∧ (s.releaseDue c).fc.inEffect = s.fc.inEffect ∧
    (s.releaseDue c).fc.capNo = s.fc.capNo ∧ (s.releaseDue c).fc.burstCount = s.fc.burstCount ∧
    (s.releaseDue c).fc.cadence = s.fc.cadence ∧ (s.releaseDue c).fc.started = s.fc.started ∧
    (s.releaseDue c).st.last = s.st.last ∧ (s.releaseDue c).st.patterns = s.st.patterns ∧
    (s.releaseDue c).stab.state = s.stab.state ∧ (s.releaseDue c).stab.gyro = s.stab.gyro ∧
    (s.releaseDue c).stab.cause = s.stab.cause ∧ (s.releaseDue c).stab.last = s.stab.last ∧
    (s.releaseDue c).rq.queue = s.rq.queue ∧ (s.releaseDue c).links.mask = s.links.mask ∧
    (s.releaseDue c).links.txn = s.links.txn := by
  unfold State.releaseDue; (repeat' split) <;> simp [State.act]

@[simp] theorem State.secondTimeout_fields (s : State) (c : Capture) :
    (s.secondTimeout c).fc.prepare = s.fc.prepare ∧ (s.secondTimeout c).fc.owed = s.fc.owed ∧
    (s.secondTimeout c).fc.continuous = s.fc.continuous ∧ (s.secondTimeout c).fc.inEffect = s.fc.inEffect ∧
    (s.secondTimeout c).fc.capNo = s.fc.capNo ∧ (s.secondTimeout c).fc.burstCount = s.fc.burstCount ∧
    (s.secondTimeout c).fc.cadence = s.fc.cadence ∧ (s.secondTimeout c).fc.started = s.fc.started ∧
    (s.secondTimeout c).st.last = s.st.last ∧ (s.secondTimeout c).st.patterns = s.st.patterns ∧
    (s.secondTimeout c).stab.state = s.stab.state ∧ (s.secondTimeout c).stab.gyro = s.stab.gyro ∧
    (s.secondTimeout c).stab.cause = s.stab.cause ∧ (s.secondTimeout c).stab.last = s.stab.last ∧
    (s.secondTimeout c).rq.queue = s.rq.queue ∧ (s.secondTimeout c).links.mask = s.links.mask ∧
    (s.secondTimeout c).links.txn = s.links.txn := by
  unfold State.secondTimeout; (repeat' split) <;> simp [State.act]

@[simp] theorem State.triggerDue_fields (s : State) (c : Capture) :
    (s.triggerDue c).fc.prepare = s.fc.prepare ∧ (s.triggerDue c).fc.owed = s.fc.owed ∧
    (s.triggerDue c).fc.continuous = s.fc.continuous ∧ (s.triggerDue c).fc.inEffect = s.fc.inEffect ∧
    (s.triggerDue c).fc.capNo = s.fc.capNo ∧ (s.triggerDue c).fc.burstCount = s.fc.burstCount ∧
    (s.triggerDue c).fc.cadence = s.fc.cadence ∧ (s.triggerDue c).fc.started = s.fc.started ∧
    (s.triggerDue c).fc.shutter = s.fc.shutter ∧ (s.triggerDue c).st.last = s.st.last ∧
    (s.triggerDue c).st.patterns = s.st.patterns ∧ (s.triggerDue c).stab.state = s.stab.state ∧
    (s.triggerDue c).stab.gyro = s.stab.gyro ∧ (s.triggerDue c).stab.cause = s.stab.cause ∧
    (s.triggerDue c).stab.last = s.stab.last ∧ (s.triggerDue c).rq.queue = s.rq.queue ∧
    (s.triggerDue c).links.mask = s.links.mask ∧ (s.triggerDue c).links.txn = s.links.txn := by
  unfold State.triggerDue; (repeat' split) <;> simp [State.act]

@[simp] theorem State.acknowledge_fields (s : State) (x : Transfer) :
    (s.acknowledge x).fc.prepare = s.fc.prepare ∧ (s.acknowledge x).fc.owed = s.fc.owed ∧
    (s.acknowledge x).fc.continuous = s.fc.continuous ∧ (s.acknowledge x).fc.capNo = s.fc.capNo ∧
    (s.acknowledge x).fc.burstCount = s.fc.burstCount ∧ (s.acknowledge x).fc.cadence = s.fc.cadence ∧
    (s.acknowledge x).fc.started = s.fc.started ∧ (s.acknowledge x).st.last = s.st.last ∧
    (s.acknowledge x).st.patterns = s.st.patterns ∧ (s.acknowledge x).stab.state = s.stab.state ∧
    (s.acknowledge x).stab.gyro = s.stab.gyro ∧ (s.acknowledge x).stab.cause = s.stab.cause ∧
    (s.acknowledge x).stab.last = s.stab.last ∧ (s.acknowledge x).rq.queue = s.rq.queue ∧
    (s.acknowledge x).links.mask = s.links.mask ∧ (s.acknowledge x).links.txn = s.links.txn := by
  simp only [State.acknowledge]; (repeat' split) <;> simp [State.act]

@[simp] theorem State.captureEnd_fields (s : State) :
    s.captureEnd.fc.prepare = s.fc.prepare ∧ s.captureEnd.fc.owed = s.fc.owed ∧
    s.captureEnd.fc.continuous = s.fc.continuous ∧ s.captureEnd.fc.inEffect = s.fc.inEffect ∧
    s.captureEnd.fc.fseq = s.fc.fseq ∧ s.captureEnd.fc.capNo = s.fc.capNo ∧
    s.captureEnd.fc.burstCount = s.fc.burstCount ∧ s.captureEnd.fc.cadence = s.fc.cadence ∧
    s.captureEnd.fc.started = s.fc.started ∧ s.captureEnd.st.last = s.st.last ∧
    s.captureEnd.st.patterns = s.st.patterns ∧ s.captureEnd.ep.lock = s.ep.lock ∧
    s.captureEnd.lens.state = s.lens.state ∧ s.captureEnd.lens.cause = s.lens.cause ∧
    s.captureEnd.lens.slip = s.lens.slip ∧ s.captureEnd.lens.slips = s.lens.slips ∧
    s.captureEnd.lens.drive = s.lens.drive ∧ s.captureEnd.rq.queue = s.rq.queue ∧
    s.captureEnd.links.mask = s.links.mask ∧ s.captureEnd.links.txn = s.links.txn := by
  unfold State.captureEnd; (repeat' split) <;> simp [State.act]

@[simp] theorem State.movesProbe_fields (s t : State) :
    (s.movesProbe t).st.last = t.st.last ∧ (s.movesProbe t).st.patterns = t.st.patterns ∧
    (s.movesProbe t).lens.state = t.lens.state ∧ (s.movesProbe t).lens.cause = t.lens.cause ∧
    (s.movesProbe t).lens.slip = t.lens.slip ∧ (s.movesProbe t).lens.slips = t.lens.slips ∧
    (s.movesProbe t).lens.drive = t.lens.drive ∧ (s.movesProbe t).lens.zoom.pos = t.lens.zoom.pos ∧
    (s.movesProbe t).lens.focus.pos = t.lens.focus.pos ∧ (s.movesProbe t).lens.iris.pos = t.lens.iris.pos ∧
    (s.movesProbe t).links.mask = t.links.mask ∧ (s.movesProbe t).links.txn = t.links.txn := by
  unfold State.movesProbe; (repeat' split) <;> simp [State.act]

@[simp] theorem State.takeRecord_fields (s : State) :
    s.takeRecord.st.last = s.st.last ∧ s.takeRecord.st.patterns = s.st.patterns ∧ s.takeRecord.ep.lock = s.ep.lock ∧
    s.takeRecord.ep.penalty = s.ep.penalty ∧ s.takeRecord.lens.state = s.lens.state ∧
    s.takeRecord.lens.cause = s.lens.cause ∧ s.takeRecord.lens.slip = s.lens.slip ∧
    s.takeRecord.lens.slips = s.lens.slips ∧ s.takeRecord.lens.drive = s.lens.drive ∧
    s.takeRecord.lens.zoom.pos = s.lens.zoom.pos ∧ s.takeRecord.lens.focus.pos = s.lens.focus.pos ∧
    s.takeRecord.lens.iris.pos = s.lens.iris.pos ∧ s.takeRecord.links.mask = s.links.mask ∧
    s.takeRecord.links.txn = s.links.txn := by
  unfold State.takeRecord; (repeat' split) <;> simp [State.act]

@[simp] theorem State.handRecord_fields (s : State) :
    s.handRecord.st.last = s.st.last ∧ s.handRecord.st.patterns = s.st.patterns ∧ s.handRecord.ep.lock = s.ep.lock ∧
    s.handRecord.ep.penalty = s.ep.penalty ∧ s.handRecord.lens.state = s.lens.state ∧
    s.handRecord.lens.cause = s.lens.cause ∧ s.handRecord.lens.slip = s.lens.slip ∧
    s.handRecord.lens.slips = s.lens.slips ∧ s.handRecord.lens.drive = s.lens.drive ∧
    s.handRecord.lens.zoom.pos = s.lens.zoom.pos ∧ s.handRecord.lens.focus.pos = s.lens.focus.pos ∧
    s.handRecord.lens.iris.pos = s.lens.iris.pos ∧ s.handRecord.links.mask = s.links.mask ∧
    s.handRecord.links.txn = s.links.txn := by
  unfold State.handRecord; (repeat' split) <;> simp [State.act]

@[simp] theorem State.reopen_fields (s : State) :
    s.reopen.fc.prepare = s.fc.prepare ∧ s.reopen.fc.owed = s.fc.owed ∧ s.reopen.fc.continuous = s.fc.continuous ∧
    s.reopen.fc.inEffect = s.fc.inEffect ∧ s.reopen.fc.fseq = s.fc.fseq ∧ s.reopen.fc.capNo = s.fc.capNo ∧
    s.reopen.fc.burstCount = s.fc.burstCount ∧ s.reopen.fc.cadence = s.fc.cadence ∧
    s.reopen.fc.started = s.fc.started ∧ s.reopen.fc.frame = s.fc.frame := by
  unfold State.reopen; (repeat' split) <;> simp [State.act]

@[simp] theorem State.afterReadout_fields (s : State) (kind : FrameKind) :
    (s.afterReadout kind).fc.prepare = s.fc.prepare ∧ (s.afterReadout kind).fc.owed = s.fc.owed ∧
    (s.afterReadout kind).fc.continuous = s.fc.continuous ∧ (s.afterReadout kind).fc.inEffect = s.fc.inEffect ∧
    (s.afterReadout kind).fc.fseq = s.fc.fseq ∧ (s.afterReadout kind).fc.cadence = s.fc.cadence ∧
    (s.afterReadout kind).fc.started = s.fc.started ∧ (s.afterReadout kind).fc.frame = s.fc.frame ∧
    (s.afterReadout kind).st.last = s.st.last ∧ (s.afterReadout kind).st.patterns = s.st.patterns ∧
    (s.afterReadout kind).ep.lock = s.ep.lock ∧ (s.afterReadout kind).ep.penalty = s.ep.penalty ∧
    (s.afterReadout kind).lens.state = s.lens.state ∧ (s.afterReadout kind).lens.cause = s.lens.cause ∧
    (s.afterReadout kind).lens.slip = s.lens.slip ∧ (s.afterReadout kind).lens.slips = s.lens.slips ∧
    (s.afterReadout kind).lens.drive = s.lens.drive ∧ (s.afterReadout kind).lens.d = s.lens.d ∧
    (s.afterReadout kind).lens.zoom.pos = s.lens.zoom.pos ∧ (s.afterReadout kind).lens.focus.pos = s.lens.focus.pos ∧
    (s.afterReadout kind).lens.iris.pos = s.lens.iris.pos ∧ (s.afterReadout kind).store.dram = s.store.dram ∧
    (s.afterReadout kind).store.backlog = s.store.backlog ∧ (s.afterReadout kind).store.cut = s.store.cut ∧
    (s.afterReadout kind).rq.queue = s.rq.queue := by
  unfold State.afterReadout; (repeat' split) <;> simp [State.act]

@[simp] theorem State.captureReadout_fields (s : State) (timedOut : Bool) :
    (s.captureReadout timedOut).fc.prepare = s.fc.prepare ∧
    (s.captureReadout timedOut).fc.continuous = s.fc.continuous ∧
    (s.captureReadout timedOut).fc.inEffect = s.fc.inEffect ∧ (s.captureReadout timedOut).fc.fseq = s.fc.fseq ∧
    (s.captureReadout timedOut).fc.capNo = s.fc.capNo ∧ (s.captureReadout timedOut).fc.cadence = s.fc.cadence ∧
    (s.captureReadout timedOut).fc.started = s.fc.started ∧ (s.captureReadout timedOut).fc.shutter = s.fc.shutter ∧
    (s.captureReadout timedOut).fc.state = s.fc.state ∧ (s.captureReadout timedOut).fc.frame = s.fc.frame ∧
    (s.captureReadout timedOut).st.last = s.st.last ∧ (s.captureReadout timedOut).st.patterns = s.st.patterns ∧
    (s.captureReadout timedOut).ep.lock = s.ep.lock ∧ (s.captureReadout timedOut).lens.state = s.lens.state ∧
    (s.captureReadout timedOut).lens.cause = s.lens.cause ∧ (s.captureReadout timedOut).lens.slip = s.lens.slip ∧
    (s.captureReadout timedOut).lens.slips = s.lens.slips ∧ (s.captureReadout timedOut).lens.drive = s.lens.drive ∧
    (s.captureReadout timedOut).lens.d = s.lens.d ∧ (s.captureReadout timedOut).lens.zoom.pos = s.lens.zoom.pos ∧
    (s.captureReadout timedOut).lens.focus.pos = s.lens.focus.pos ∧
    (s.captureReadout timedOut).lens.iris.pos = s.lens.iris.pos ∧
    (s.captureReadout timedOut).store.dram = s.store.dram ∧
    (s.captureReadout timedOut).store.backlog = s.store.backlog ∧
    (s.captureReadout timedOut).store.cut = s.store.cut ∧ (s.captureReadout timedOut).links.mask = s.links.mask ∧
    (s.captureReadout timedOut).links.txn = s.links.txn := by
  unfold State.captureReadout; (repeat' split) <;> simp [State.act]

@[simp] theorem State.recordFirst_fields (s : State) (kind : FrameKind) :
    (s.recordFirst kind).fc.prepare = s.fc.prepare ∧ (s.recordFirst kind).fc.owed = s.fc.owed ∧
    (s.recordFirst kind).fc.continuous = s.fc.continuous ∧ (s.recordFirst kind).fc.inEffect = s.fc.inEffect ∧
    (s.recordFirst kind).fc.fseq = s.fc.fseq ∧ (s.recordFirst kind).fc.cadence = s.fc.cadence ∧
    (s.recordFirst kind).fc.started = s.fc.started ∧ (s.recordFirst kind).st.last = s.st.last ∧
    (s.recordFirst kind).st.patterns = s.st.patterns ∧ (s.recordFirst kind).ep.lock = s.ep.lock ∧
    (s.recordFirst kind).lens.state = s.lens.state ∧ (s.recordFirst kind).lens.cause = s.lens.cause ∧
    (s.recordFirst kind).lens.slip = s.lens.slip ∧ (s.recordFirst kind).lens.slips = s.lens.slips ∧
    (s.recordFirst kind).lens.drive = s.lens.drive ∧ (s.recordFirst kind).lens.zoom.pos = s.lens.zoom.pos ∧
    (s.recordFirst kind).lens.focus.pos = s.lens.focus.pos ∧ (s.recordFirst kind).lens.iris.pos = s.lens.iris.pos ∧
    (s.recordFirst kind).store.dram = s.store.dram ∧ (s.recordFirst kind).store.backlog = s.store.backlog ∧
    (s.recordFirst kind).store.cut = s.store.cut ∧ (s.recordFirst kind).rq.queue = s.rq.queue ∧
    (s.recordFirst kind).links.mask = s.links.mask ∧ (s.recordFirst kind).links.txn = s.links.txn := by
  unfold State.recordFirst; (repeat' split) <;> simp [State.act]

@[simp] theorem State.readoutEnd_fields (s : State) (f : InputFrame) (timedOut : Bool) :
    (s.readoutEnd f timedOut).fc.prepare = s.fc.prepare ∧ (s.readoutEnd f timedOut).fc.continuous = s.fc.continuous ∧
    (s.readoutEnd f timedOut).fc.inEffect = s.fc.inEffect ∧ (s.readoutEnd f timedOut).fc.fseq = s.fc.fseq ∧
    (s.readoutEnd f timedOut).fc.cadence = s.fc.cadence ∧ (s.readoutEnd f timedOut).fc.started = s.fc.started ∧
    (s.readoutEnd f timedOut).st.patterns = s.st.patterns ∧ (s.readoutEnd f timedOut).ep.lock = s.ep.lock ∧
    (s.readoutEnd f timedOut).lens.state = s.lens.state ∧ (s.readoutEnd f timedOut).lens.cause = s.lens.cause ∧
    (s.readoutEnd f timedOut).lens.slip = s.lens.slip ∧ (s.readoutEnd f timedOut).lens.slips = s.lens.slips ∧
    (s.readoutEnd f timedOut).lens.drive = s.lens.drive ∧ (s.readoutEnd f timedOut).lens.zoom.pos = s.lens.zoom.pos ∧
    (s.readoutEnd f timedOut).lens.focus.pos = s.lens.focus.pos ∧
    (s.readoutEnd f timedOut).lens.iris.pos = s.lens.iris.pos ∧ (s.readoutEnd f timedOut).store.dram = s.store.dram ∧
    (s.readoutEnd f timedOut).store.backlog = s.store.backlog ∧ (s.readoutEnd f timedOut).store.cut = s.store.cut ∧
    (s.readoutEnd f timedOut).links.mask = s.links.mask ∧ (s.readoutEnd f timedOut).links.txn = s.links.txn := by
  simp only [State.readoutEnd]; (repeat' split) <;> simp [State.act]

@[simp] theorem State.settleEnd_fields (s : State) :
    s.settleEnd.fc.prepare = s.fc.prepare ∧ s.settleEnd.fc.owed = s.fc.owed ∧
    s.settleEnd.fc.continuous = s.fc.continuous ∧ s.settleEnd.fc.inEffect = s.fc.inEffect ∧
    s.settleEnd.fc.fseq = s.fc.fseq ∧ s.settleEnd.fc.cadence = s.fc.cadence ∧ s.settleEnd.fc.started = s.fc.started ∧
    s.settleEnd.fc.frame = s.fc.frame ∧ s.settleEnd.st.last = s.st.last ∧ s.settleEnd.st.patterns = s.st.patterns ∧
    s.settleEnd.ep.lock = s.ep.lock ∧ s.settleEnd.ep.penalty = s.ep.penalty ∧ s.settleEnd.lens.state = s.lens.state ∧
    s.settleEnd.lens.cause = s.lens.cause ∧ s.settleEnd.lens.slip = s.lens.slip ∧
    s.settleEnd.lens.slips = s.lens.slips ∧ s.settleEnd.lens.drive = s.lens.drive ∧ s.settleEnd.lens.d = s.lens.d ∧
    s.settleEnd.lens.zoom.pos = s.lens.zoom.pos ∧ s.settleEnd.lens.focus.pos = s.lens.focus.pos ∧
    s.settleEnd.lens.iris.pos = s.lens.iris.pos ∧ s.settleEnd.store.dram = s.store.dram ∧
    s.settleEnd.store.backlog = s.store.backlog ∧ s.settleEnd.store.cut = s.store.cut ∧
    s.settleEnd.rq.queue = s.rq.queue := by
  simp only [State.settleEnd]; (repeat' split) <;> simp [State.act]

@[simp] theorem State.abortReopen_fields (s : State) :
    s.abortReopen.fc.prepare = s.fc.prepare ∧ s.abortReopen.fc.owed = s.fc.owed ∧
    s.abortReopen.fc.continuous = s.fc.continuous ∧ s.abortReopen.fc.inEffect = s.fc.inEffect ∧
    s.abortReopen.fc.fseq = s.fc.fseq ∧ s.abortReopen.fc.capNo = s.fc.capNo ∧
    s.abortReopen.fc.burstCount = s.fc.burstCount ∧ s.abortReopen.fc.cadence = s.fc.cadence ∧
    s.abortReopen.fc.started = s.fc.started ∧ s.abortReopen.fc.state = s.fc.state ∧
    s.abortReopen.fc.frame = s.fc.frame := by
  unfold State.abortReopen; (repeat' split) <;> simp [State.act]

@[simp] theorem State.abortCapture_fields (s : State) :
    s.abortCapture.fc.prepare = s.fc.prepare ∧ s.abortCapture.fc.owed = s.fc.owed ∧
    s.abortCapture.fc.continuous = s.fc.continuous ∧ s.abortCapture.fc.inEffect = s.fc.inEffect ∧
    s.abortCapture.fc.fseq = s.fc.fseq ∧ s.abortCapture.fc.capNo = s.fc.capNo ∧
    s.abortCapture.fc.burstCount = s.fc.burstCount ∧ s.abortCapture.fc.cadence = s.fc.cadence ∧
    s.abortCapture.fc.started = s.fc.started ∧ s.abortCapture.fc.state = s.fc.state ∧
    s.abortCapture.fc.frame = s.fc.frame := by
  simp only [State.abortCapture]; (repeat' split) <;> simp [State.act]

@[simp] theorem State.fcSoftReset_fields (s : State) :
    s.fcSoftReset.fc.inEffect = s.fc.inEffect ∧ s.fcSoftReset.fc.fseq = s.fc.fseq ∧
    s.fcSoftReset.fc.capNo = s.fc.capNo ∧ s.fcSoftReset.fc.started = s.fc.started := by
  unfold State.fcSoftReset; (repeat' split) <;> simp [State.act]

@[simp] theorem State.softReset_fields (s : State) :
    s.softReset.fc.inEffect = s.fc.inEffect ∧ s.softReset.fc.fseq = s.fc.fseq ∧ s.softReset.fc.capNo = s.fc.capNo ∧
    s.softReset.fc.started = s.fc.started ∧ s.softReset.lens.cause = s.lens.cause ∧
    s.softReset.lens.slip = s.lens.slip ∧ s.softReset.lens.slips = s.lens.slips ∧ s.softReset.lens.d = s.lens.d ∧
    s.softReset.lens.zoom.pos = s.lens.zoom.pos ∧ s.softReset.lens.focus.pos = s.lens.focus.pos ∧
    s.softReset.lens.iris.pos = s.lens.iris.pos ∧ s.softReset.rq.queue = s.rq.queue ∧
    s.softReset.links.mask = s.links.mask ∧ s.softReset.links.txn = s.links.txn ∧
    s.softReset.links.occ = s.links.occ := by
  simp only [State.softReset]; (repeat' split) <;> simp [State.act]

@[simp] theorem State.watchBusy_fc_prepare (f : State → State) (s : State) :
    (s.watchBusy f).fc.prepare = (f s).fc.prepare := by
  simp [State.watchBusy]
@[simp] theorem State.watchBusy_fc_owed (f : State → State) (s : State) :
    (s.watchBusy f).fc.owed = (f s).fc.owed := by
  simp [State.watchBusy]
@[simp] theorem State.watchBusy_fc_continuous (f : State → State) (s : State) :
    (s.watchBusy f).fc.continuous = (f s).fc.continuous := by
  simp [State.watchBusy]
@[simp] theorem State.watchBusy_fc_inEffect (f : State → State) (s : State) :
    (s.watchBusy f).fc.inEffect = (f s).fc.inEffect := by
  simp [State.watchBusy]
@[simp] theorem State.watchBusy_fc_fseq (f : State → State) (s : State) :
    (s.watchBusy f).fc.fseq = (f s).fc.fseq := by
  simp [State.watchBusy]
@[simp] theorem State.watchBusy_fc_capNo (f : State → State) (s : State) :
    (s.watchBusy f).fc.capNo = (f s).fc.capNo := by
  simp [State.watchBusy]
@[simp] theorem State.watchBusy_fc_burstCount (f : State → State) (s : State) :
    (s.watchBusy f).fc.burstCount = (f s).fc.burstCount := by
  simp [State.watchBusy]
@[simp] theorem State.watchBusy_fc_cadence (f : State → State) (s : State) :
    (s.watchBusy f).fc.cadence = (f s).fc.cadence := by
  simp [State.watchBusy]
@[simp] theorem State.watchBusy_fc_started (f : State → State) (s : State) :
    (s.watchBusy f).fc.started = (f s).fc.started := by
  simp [State.watchBusy]
@[simp] theorem State.watchBusy_fc_shutter (f : State → State) (s : State) :
    (s.watchBusy f).fc.shutter = (f s).fc.shutter := by
  simp [State.watchBusy]
@[simp] theorem State.watchBusy_fc_state (f : State → State) (s : State) :
    (s.watchBusy f).fc.state = (f s).fc.state := by
  simp [State.watchBusy]
@[simp] theorem State.watchBusy_fc_frame (f : State → State) (s : State) :
    (s.watchBusy f).fc.frame = (f s).fc.frame := by
  simp [State.watchBusy]

@[simp] theorem State.startTimers_fields (s : State) :
    s.startTimers.fc.prepare = s.fc.prepare ∧ s.startTimers.fc.owed = s.fc.owed ∧
    s.startTimers.fc.continuous = s.fc.continuous ∧ s.startTimers.fc.inEffect = s.fc.inEffect ∧
    s.startTimers.fc.fseq = s.fc.fseq ∧ s.startTimers.fc.capNo = s.fc.capNo ∧
    s.startTimers.fc.burstCount = s.fc.burstCount ∧ s.startTimers.fc.cadence = s.fc.cadence ∧
    s.startTimers.fc.shutter = s.fc.shutter ∧ s.startTimers.fc.state = s.fc.state ∧
    s.startTimers.fc.frame = s.fc.frame := by
  simp only [State.startTimers]; (repeat' split) <;> simp [State.act]

@[simp] theorem State.becomeReady_fields (s : State) :
    s.becomeReady.fc.prepare = s.fc.prepare ∧ s.becomeReady.fc.owed = s.fc.owed ∧
    s.becomeReady.fc.continuous = s.fc.continuous ∧ s.becomeReady.fc.inEffect = s.fc.inEffect ∧
    s.becomeReady.fc.fseq = s.fc.fseq ∧ s.becomeReady.fc.cadence = s.fc.cadence ∧
    s.becomeReady.fc.shutter = s.fc.shutter ∧ s.becomeReady.fc.frame = s.fc.frame ∧
    s.becomeReady.st.last = s.st.last ∧ s.becomeReady.st.patterns = s.st.patterns ∧
    s.becomeReady.ep.lock = s.ep.lock ∧ s.becomeReady.ep.penalty = s.ep.penalty ∧
    s.becomeReady.lens.cause = s.lens.cause ∧ s.becomeReady.lens.slip = s.lens.slip ∧
    s.becomeReady.lens.slips = s.lens.slips ∧ s.becomeReady.lens.d = s.lens.d ∧
    s.becomeReady.lens.zoom.pos = s.lens.zoom.pos ∧ s.becomeReady.lens.focus.pos = s.lens.focus.pos ∧
    s.becomeReady.lens.iris.pos = s.lens.iris.pos ∧ s.becomeReady.store.dram = s.store.dram ∧
    s.becomeReady.store.backlog = s.store.backlog ∧ s.becomeReady.store.cut = s.store.cut ∧
    s.becomeReady.rq.queue = s.rq.queue ∧ s.becomeReady.links.mask = s.links.mask ∧
    s.becomeReady.links.txn = s.links.txn := by
  unfold State.becomeReady; (repeat' split) <;> simp [State.act]

@[simp] theorem State.leaveReady_fields (s : State) :
    s.leaveReady.fc.prepare = s.fc.prepare ∧ s.leaveReady.fc.inEffect = s.fc.inEffect ∧
    s.leaveReady.fc.fseq = s.fc.fseq ∧ s.leaveReady.fc.capNo = s.fc.capNo ∧ s.leaveReady.fc.cadence = s.fc.cadence ∧
    s.leaveReady.fc.started = s.fc.started ∧ s.leaveReady.fc.shutter = s.fc.shutter ∧
    s.leaveReady.fc.frame = s.fc.frame ∧ s.leaveReady.st.last = s.st.last ∧
    s.leaveReady.st.patterns = s.st.patterns ∧ s.leaveReady.ep.lock = s.ep.lock ∧
    s.leaveReady.lens.cause = s.lens.cause ∧ s.leaveReady.lens.slip = s.lens.slip ∧
    s.leaveReady.lens.slips = s.lens.slips ∧ s.leaveReady.lens.drive = s.lens.drive ∧
    s.leaveReady.lens.d = s.lens.d ∧ s.leaveReady.lens.zoom.pos = s.lens.zoom.pos ∧
    s.leaveReady.lens.focus.pos = s.lens.focus.pos ∧ s.leaveReady.lens.iris.pos = s.lens.iris.pos ∧
    s.leaveReady.links.mask = s.links.mask ∧ s.leaveReady.links.txn = s.links.txn := by
  unfold State.leaveReady; (repeat' split) <;> simp [State.act]

@[simp] theorem State.becomeStowed_fields (s : State) :
    s.becomeStowed.lens.cause = s.lens.cause ∧ s.becomeStowed.lens.zoom = s.lens.zoom ∧
    s.becomeStowed.lens.slip = s.lens.slip ∧ s.becomeStowed.lens.slips = s.lens.slips ∧
    s.becomeStowed.lens.d = s.lens.d ∧ s.becomeStowed.lens.focus.pos = s.lens.focus.pos ∧
    s.becomeStowed.lens.iris.pos = s.lens.iris.pos ∧ s.becomeStowed.links.mask = s.links.mask ∧
    s.becomeStowed.links.txn = s.links.txn := by
  unfold State.becomeStowed; (repeat' split) <;> simp [State.act]

@[simp] theorem State.lensFault_fields (s : State) (cause : LensCause) :
    (s.lensFault cause).lens.slip = s.lens.slip ∧ (s.lensFault cause).lens.slips = s.lens.slips ∧
    (s.lensFault cause).lens.d = s.lens.d ∧ (s.lensFault cause).lens.zoom.pos = s.lens.zoom.pos ∧
    (s.lensFault cause).lens.focus.pos = s.lens.focus.pos ∧ (s.lensFault cause).lens.iris.pos = s.lens.iris.pos ∧
    (s.lensFault cause).links.mask = s.links.mask ∧ (s.lensFault cause).links.txn = s.links.txn := by
  unfold State.lensFault; (repeat' split) <;> simp [State.act]

@[simp] theorem State.driveLens_fields (s : State) (which : Actuator) (target : Int) (speed : Nat) :
    (s.driveLens which target speed).st.last = s.st.last ∧
    (s.driveLens which target speed).st.patterns = s.st.patterns ∧
    (s.driveLens which target speed).lens.state = s.lens.state ∧
    (s.driveLens which target speed).lens.cause = s.lens.cause ∧
    (s.driveLens which target speed).lens.slip = s.lens.slip ∧
    (s.driveLens which target speed).lens.slips = s.lens.slips ∧
    (s.driveLens which target speed).lens.drive = s.lens.drive ∧ (s.driveLens which target speed).lens.d = s.lens.d ∧
    (s.driveLens which target speed).lens.zoom.pos = s.lens.zoom.pos ∧
    (s.driveLens which target speed).lens.focus.pos = s.lens.focus.pos ∧
    (s.driveLens which target speed).lens.iris.pos = s.lens.iris.pos := by
  simp only [State.driveLens]; (repeat' split) <;> simp [State.act]

@[simp] theorem State.driveBlind_fields (s : State) (which : Actuator) (speed : Nat) :
    (s.driveBlind which speed).st.last = s.st.last ∧ (s.driveBlind which speed).st.patterns = s.st.patterns ∧
    (s.driveBlind which speed).lens.state = s.lens.state ∧ (s.driveBlind which speed).lens.cause = s.lens.cause ∧
    (s.driveBlind which speed).lens.slip = s.lens.slip ∧ (s.driveBlind which speed).lens.slips = s.lens.slips ∧
    (s.driveBlind which speed).lens.drive = s.lens.drive ∧ (s.driveBlind which speed).lens.d = s.lens.d := by
  unfold State.driveBlind; (repeat' split) <;> simp [State.act]

@[simp] theorem State.nextStep_fields (s : State) (which : Actuator) :
    (s.nextStep which).lens.state = s.lens.state ∧ (s.nextStep which).lens.cause = s.lens.cause ∧
    (s.nextStep which).lens.slip = s.lens.slip ∧ (s.nextStep which).lens.slips = s.lens.slips ∧
    (s.nextStep which).lens.drive = s.lens.drive ∧ (s.nextStep which).lens.d = s.lens.d := by
  unfold State.nextStep; (repeat' split) <;> simp [State.act]

@[simp] theorem State.setDrive_fields (s : State) (d : Drive) :
    (s.setDrive d).lens.state = s.lens.state ∧ (s.setDrive d).lens.cause = s.lens.cause ∧
    (s.setDrive d).lens.zoom = s.lens.zoom ∧ (s.setDrive d).lens.slip = s.lens.slip ∧
    (s.setDrive d).lens.slips = s.lens.slips ∧ (s.setDrive d).lens.d = s.lens.d ∧
    (s.setDrive d).lens.focus.pos = s.lens.focus.pos ∧ (s.setDrive d).lens.iris.pos = s.lens.iris.pos := by
  unfold State.setDrive; (repeat' split) <;> simp [State.act]

@[simp] theorem State.homeStart_fields (s : State) :
    s.homeStart.st.last = s.st.last ∧ s.homeStart.st.patterns = s.st.patterns ∧
    s.homeStart.lens.state = s.lens.state ∧ s.homeStart.lens.cause = s.lens.cause ∧
    s.homeStart.lens.slip = s.lens.slip ∧ s.homeStart.lens.slips = s.lens.slips ∧ s.homeStart.lens.d = s.lens.d := by
  unfold State.homeStart; (repeat' split) <;> simp [State.act]

@[simp] theorem State.homeZoom_fields (s : State) :
    s.homeZoom.st.last = s.st.last ∧ s.homeZoom.st.patterns = s.st.patterns ∧ s.homeZoom.lens.state = s.lens.state ∧
    s.homeZoom.lens.cause = s.lens.cause ∧ s.homeZoom.lens.slip = s.lens.slip ∧
    s.homeZoom.lens.slips = s.lens.slips ∧ s.homeZoom.lens.d = s.lens.d := by
  unfold State.homeZoom; (repeat' split) <;> simp [State.act]

@[simp] theorem State.homeStopStep_fields (s : State) (which : Actuator) (focusLeft irisLeft : Nat) :
    (s.homeStopStep which focusLeft irisLeft).st.last = s.st.last ∧
    (s.homeStopStep which focusLeft irisLeft).st.patterns = s.st.patterns ∧
    (s.homeStopStep which focusLeft irisLeft).lens.state = s.lens.state ∧
    (s.homeStopStep which focusLeft irisLeft).lens.cause = s.lens.cause ∧
    (s.homeStopStep which focusLeft irisLeft).lens.slip = s.lens.slip ∧
    (s.homeStopStep which focusLeft irisLeft).lens.slips = s.lens.slips ∧
    (s.homeStopStep which focusLeft irisLeft).lens.d = s.lens.d := by
  simp only [State.homeStopStep]; (repeat' split) <;> simp [State.act]

@[simp] theorem State.homeOutStep_fields (s : State) (level : HomeLevel) (steps : Nat) :
    (s.homeOutStep level steps).lens.slip = s.lens.slip ∧ (s.homeOutStep level steps).lens.slips = s.lens.slips ∧
    (s.homeOutStep level steps).lens.d = s.lens.d ∧ (s.homeOutStep level steps).links.mask = s.links.mask ∧
    (s.homeOutStep level steps).links.txn = s.links.txn := by
  unfold State.homeOutStep; (repeat' split) <;> simp [State.act]

@[simp] theorem State.homeFound_fields (s : State) :
    s.homeFound.st.last = s.st.last ∧ s.homeFound.st.patterns = s.st.patterns ∧ s.homeFound.ep.lock = s.ep.lock ∧
    s.homeFound.ep.penalty = s.ep.penalty ∧ s.homeFound.lens.cause = s.lens.cause ∧
    s.homeFound.lens.slip = s.lens.slip ∧ s.homeFound.lens.slips = s.lens.slips ∧ s.homeFound.lens.d = s.lens.d ∧
    s.homeFound.stab.state = s.stab.state ∧ s.homeFound.stab.gyro = s.stab.gyro ∧
    s.homeFound.stab.cause = s.stab.cause ∧ s.homeFound.stab.last = s.stab.last ∧
    s.homeFound.links.mask = s.links.mask ∧ s.homeFound.links.txn = s.links.txn := by
  simp only [State.homeFound]; (repeat' split) <;> simp [State.act]

@[simp] theorem State.homeInStep_fields (s : State) (level : HomeLevel) (steps : Nat) :
    (s.homeInStep level steps).st.last = s.st.last ∧ (s.homeInStep level steps).st.patterns = s.st.patterns ∧
    (s.homeInStep level steps).ep.lock = s.ep.lock ∧ (s.homeInStep level steps).ep.penalty = s.ep.penalty ∧
    (s.homeInStep level steps).lens.slip = s.lens.slip ∧ (s.homeInStep level steps).lens.slips = s.lens.slips ∧
    (s.homeInStep level steps).lens.d = s.lens.d ∧ (s.homeInStep level steps).stab.state = s.stab.state ∧
    (s.homeInStep level steps).stab.gyro = s.stab.gyro ∧ (s.homeInStep level steps).stab.cause = s.stab.cause ∧
    (s.homeInStep level steps).stab.last = s.stab.last ∧ (s.homeInStep level steps).links.mask = s.links.mask ∧
    (s.homeInStep level steps).links.txn = s.links.txn := by
  unfold State.homeInStep; (repeat' split) <;> simp [State.act]

@[simp] theorem State.extendFocus_fields (s : State) :
    s.extendFocus.fc.prepare = s.fc.prepare ∧ s.extendFocus.fc.owed = s.fc.owed ∧
    s.extendFocus.fc.continuous = s.fc.continuous ∧ s.extendFocus.fc.inEffect = s.fc.inEffect ∧
    s.extendFocus.fc.fseq = s.fc.fseq ∧ s.extendFocus.fc.cadence = s.fc.cadence ∧
    s.extendFocus.fc.shutter = s.fc.shutter ∧ s.extendFocus.fc.frame = s.fc.frame ∧
    s.extendFocus.st.last = s.st.last ∧ s.extendFocus.st.patterns = s.st.patterns ∧
    s.extendFocus.ep.lock = s.ep.lock ∧ s.extendFocus.ep.penalty = s.ep.penalty ∧
    s.extendFocus.lens.cause = s.lens.cause ∧ s.extendFocus.lens.slip = s.lens.slip ∧
    s.extendFocus.lens.slips = s.lens.slips ∧ s.extendFocus.lens.zoom.pos = s.lens.zoom.pos ∧
    s.extendFocus.lens.focus.pos = s.lens.focus.pos ∧ s.extendFocus.lens.iris.pos = s.lens.iris.pos ∧
    s.extendFocus.store.dram = s.store.dram ∧ s.extendFocus.store.backlog = s.store.backlog ∧
    s.extendFocus.store.cut = s.store.cut ∧ s.extendFocus.rq.queue = s.rq.queue ∧
    s.extendFocus.links.mask = s.links.mask ∧ s.extendFocus.links.txn = s.links.txn := by
  simp only [State.extendFocus]; (repeat' split) <;> simp [State.act]

@[simp] theorem State.extendCheck_fields (s : State) :
    s.extendCheck.fc.prepare = s.fc.prepare ∧ s.extendCheck.fc.owed = s.fc.owed ∧
    s.extendCheck.fc.continuous = s.fc.continuous ∧ s.extendCheck.fc.inEffect = s.fc.inEffect ∧
    s.extendCheck.fc.fseq = s.fc.fseq ∧ s.extendCheck.fc.cadence = s.fc.cadence ∧
    s.extendCheck.fc.shutter = s.fc.shutter ∧ s.extendCheck.fc.frame = s.fc.frame ∧
    s.extendCheck.st.last = s.st.last ∧ s.extendCheck.st.patterns = s.st.patterns ∧
    s.extendCheck.ep.lock = s.ep.lock ∧ s.extendCheck.ep.penalty = s.ep.penalty ∧
    s.extendCheck.lens.cause = s.lens.cause ∧ s.extendCheck.lens.slip = s.lens.slip ∧
    s.extendCheck.lens.slips = s.lens.slips ∧ s.extendCheck.lens.zoom.pos = s.lens.zoom.pos ∧
    s.extendCheck.lens.focus.pos = s.lens.focus.pos ∧ s.extendCheck.lens.iris.pos = s.lens.iris.pos ∧
    s.extendCheck.store.dram = s.store.dram ∧ s.extendCheck.store.backlog = s.store.backlog ∧
    s.extendCheck.store.cut = s.store.cut ∧ s.extendCheck.rq.queue = s.rq.queue ∧
    s.extendCheck.links.mask = s.links.mask ∧ s.extendCheck.links.txn = s.links.txn := by
  unfold State.extendCheck; (repeat' split) <;> simp [State.act]

@[simp] theorem State.extendStart_fields (s : State) :
    s.extendStart.fc.prepare = s.fc.prepare ∧ s.extendStart.fc.owed = s.fc.owed ∧
    s.extendStart.fc.continuous = s.fc.continuous ∧ s.extendStart.fc.inEffect = s.fc.inEffect ∧
    s.extendStart.fc.fseq = s.fc.fseq ∧ s.extendStart.fc.cadence = s.fc.cadence ∧
    s.extendStart.fc.shutter = s.fc.shutter ∧ s.extendStart.fc.frame = s.fc.frame ∧
    s.extendStart.st.last = s.st.last ∧ s.extendStart.st.patterns = s.st.patterns ∧
    s.extendStart.ep.lock = s.ep.lock ∧ s.extendStart.ep.penalty = s.ep.penalty ∧
    s.extendStart.lens.cause = s.lens.cause ∧ s.extendStart.lens.slip = s.lens.slip ∧
    s.extendStart.lens.slips = s.lens.slips ∧ s.extendStart.lens.zoom.pos = s.lens.zoom.pos ∧
    s.extendStart.lens.focus.pos = s.lens.focus.pos ∧ s.extendStart.lens.iris.pos = s.lens.iris.pos ∧
    s.extendStart.store.dram = s.store.dram ∧ s.extendStart.store.backlog = s.store.backlog ∧
    s.extendStart.store.cut = s.store.cut ∧ s.extendStart.rq.queue = s.rq.queue ∧
    s.extendStart.links.mask = s.links.mask ∧ s.extendStart.links.txn = s.links.txn := by
  unfold State.extendStart; (repeat' split) <;> simp [State.act]

@[simp] theorem State.retractCheck_fields (s : State) :
    s.retractCheck.lens.cause = s.lens.cause ∧ s.retractCheck.lens.zoom = s.lens.zoom ∧
    s.retractCheck.lens.slip = s.lens.slip ∧ s.retractCheck.lens.slips = s.lens.slips ∧
    s.retractCheck.lens.d = s.lens.d ∧ s.retractCheck.lens.focus.pos = s.lens.focus.pos ∧
    s.retractCheck.lens.iris.pos = s.lens.iris.pos ∧ s.retractCheck.links.mask = s.links.mask ∧
    s.retractCheck.links.txn = s.links.txn := by
  unfold State.retractCheck; (repeat' split) <;> simp [State.act]

@[simp] theorem State.watchBegin_fields (s : State) (level : HomeLevel) :
    (s.watchBegin level).lens.state = s.lens.state ∧ (s.watchBegin level).lens.cause = s.lens.cause ∧
    (s.watchBegin level).lens.zoom = s.lens.zoom ∧ (s.watchBegin level).lens.slip = s.lens.slip ∧
    (s.watchBegin level).lens.slips = s.lens.slips ∧ (s.watchBegin level).lens.d = s.lens.d ∧
    (s.watchBegin level).lens.focus.pos = s.lens.focus.pos ∧
    (s.watchBegin level).lens.iris.pos = s.lens.iris.pos := by
  unfold State.watchBegin; (repeat' split) <;> simp [State.act]

@[simp] theorem State.retractZoom_fields (s : State) :
    s.retractZoom.st.last = s.st.last ∧ s.retractZoom.st.patterns = s.st.patterns ∧
    s.retractZoom.lens.state = s.lens.state ∧ s.retractZoom.lens.cause = s.lens.cause ∧
    s.retractZoom.lens.slip = s.lens.slip ∧ s.retractZoom.lens.slips = s.lens.slips ∧
    s.retractZoom.lens.drive = s.lens.drive ∧ s.retractZoom.lens.d = s.lens.d := by
  simp only [State.retractZoom]; (repeat' split) <;> simp [State.act]

@[simp] theorem State.retractStart_fields (s : State) :
    s.retractStart.fc.prepare = s.fc.prepare ∧ s.retractStart.fc.inEffect = s.fc.inEffect ∧
    s.retractStart.fc.fseq = s.fc.fseq ∧ s.retractStart.fc.capNo = s.fc.capNo ∧
    s.retractStart.fc.cadence = s.fc.cadence ∧ s.retractStart.fc.started = s.fc.started ∧
    s.retractStart.fc.shutter = s.fc.shutter ∧ s.retractStart.fc.frame = s.fc.frame ∧
    s.retractStart.st.last = s.st.last ∧ s.retractStart.st.patterns = s.st.patterns ∧
    s.retractStart.ep.lock = s.ep.lock ∧ s.retractStart.lens.cause = s.lens.cause ∧
    s.retractStart.lens.slip = s.lens.slip ∧ s.retractStart.lens.slips = s.lens.slips ∧
    s.retractStart.lens.d = s.lens.d ∧ s.retractStart.links.mask = s.links.mask ∧
    s.retractStart.links.txn = s.links.txn := by
  simp only [State.retractStart]; (repeat' split) <;> simp [State.act]

@[simp] theorem State.zoomBy_fields (s : State) (delta : Int) :
    (s.zoomBy delta).st.last = s.st.last ∧ (s.zoomBy delta).st.patterns = s.st.patterns ∧
    (s.zoomBy delta).ep.lock = s.ep.lock ∧ (s.zoomBy delta).ep.penalty = s.ep.penalty ∧
    (s.zoomBy delta).lens.state = s.lens.state ∧ (s.zoomBy delta).lens.cause = s.lens.cause ∧
    (s.zoomBy delta).lens.slip = s.lens.slip ∧ (s.zoomBy delta).lens.slips = s.lens.slips ∧
    (s.zoomBy delta).lens.drive = s.lens.drive ∧ (s.zoomBy delta).lens.d = s.lens.d ∧
    (s.zoomBy delta).stab.state = s.stab.state ∧ (s.zoomBy delta).stab.gyro = s.stab.gyro ∧
    (s.zoomBy delta).stab.cause = s.stab.cause ∧ (s.zoomBy delta).stab.last = s.stab.last := by
  unfold State.zoomBy; (repeat' split) <;> simp [State.act]

@[simp] theorem State.rebase_fields (s : State) :
    s.rebase.st.last = s.st.last ∧ s.rebase.st.patterns = s.st.patterns ∧ s.rebase.ep.lock = s.ep.lock ∧
    s.rebase.ep.penalty = s.ep.penalty ∧ s.rebase.stab.state = s.stab.state ∧ s.rebase.stab.gyro = s.stab.gyro ∧
    s.rebase.stab.cause = s.stab.cause ∧ s.rebase.stab.last = s.stab.last ∧ s.rebase.links.mask = s.links.mask ∧
    s.rebase.links.txn = s.links.txn := by
  unfold State.rebase; (repeat' split) <;> simp [State.act]

@[simp] theorem State.retractZoomStep_fields (s : State) (level : HomeLevel) :
    (s.retractZoomStep level).st.last = s.st.last ∧ (s.retractZoomStep level).st.patterns = s.st.patterns ∧
    (s.retractZoomStep level).ep.lock = s.ep.lock ∧ (s.retractZoomStep level).ep.penalty = s.ep.penalty ∧
    (s.retractZoomStep level).stab.state = s.stab.state ∧ (s.retractZoomStep level).stab.gyro = s.stab.gyro ∧
    (s.retractZoomStep level).stab.cause = s.stab.cause ∧ (s.retractZoomStep level).stab.last = s.stab.last ∧
    (s.retractZoomStep level).links.mask = s.links.mask ∧ (s.retractZoomStep level).links.txn = s.links.txn := by
  simp only [State.retractZoomStep]; (repeat' split) <;> simp [State.act]

@[simp] theorem State.plainStep_fields (s : State) (which : Actuator) :
    (s.plainStep which).lens.state = s.lens.state ∧ (s.plainStep which).lens.cause = s.lens.cause ∧
    (s.plainStep which).lens.slip = s.lens.slip ∧ (s.plainStep which).lens.slips = s.lens.slips ∧
    (s.plainStep which).lens.drive = s.lens.drive ∧ (s.plainStep which).lens.d = s.lens.d := by
  simp only [State.plainStep]; (repeat' split) <;> simp [State.act]

@[simp] theorem State.zoomStep_fields (s : State) :
    s.zoomStep.fc.prepare = s.fc.prepare ∧ s.zoomStep.fc.owed = s.fc.owed ∧
    s.zoomStep.fc.continuous = s.fc.continuous ∧ s.zoomStep.fc.inEffect = s.fc.inEffect ∧
    s.zoomStep.fc.fseq = s.fc.fseq ∧ s.zoomStep.fc.cadence = s.fc.cadence ∧ s.zoomStep.fc.shutter = s.fc.shutter ∧
    s.zoomStep.fc.frame = s.fc.frame ∧ s.zoomStep.st.last = s.st.last ∧ s.zoomStep.st.patterns = s.st.patterns ∧
    s.zoomStep.ep.lock = s.ep.lock ∧ s.zoomStep.ep.penalty = s.ep.penalty ∧ s.zoomStep.lens.cause = s.lens.cause ∧
    s.zoomStep.lens.slip = s.lens.slip ∧ s.zoomStep.lens.slips = s.lens.slips ∧
    s.zoomStep.store.dram = s.store.dram ∧ s.zoomStep.store.backlog = s.store.backlog ∧
    s.zoomStep.store.cut = s.store.cut ∧ s.zoomStep.rq.queue = s.rq.queue ∧ s.zoomStep.links.mask = s.links.mask ∧
    s.zoomStep.links.txn = s.links.txn := by
  simp only [State.zoomStep]; (repeat' split) <;> simp [State.act]

@[simp] theorem State.focusDriven_fields (s : State) :
    s.focusDriven.fc.prepare = s.fc.prepare ∧ s.focusDriven.fc.owed = s.fc.owed ∧
    s.focusDriven.fc.continuous = s.fc.continuous ∧ s.focusDriven.fc.inEffect = s.fc.inEffect ∧
    s.focusDriven.fc.fseq = s.fc.fseq ∧ s.focusDriven.fc.cadence = s.fc.cadence ∧
    s.focusDriven.fc.shutter = s.fc.shutter ∧ s.focusDriven.fc.frame = s.fc.frame ∧
    s.focusDriven.st.last = s.st.last ∧ s.focusDriven.st.patterns = s.st.patterns ∧
    s.focusDriven.ep.lock = s.ep.lock ∧ s.focusDriven.ep.penalty = s.ep.penalty ∧
    s.focusDriven.lens.cause = s.lens.cause ∧ s.focusDriven.lens.slip = s.lens.slip ∧
    s.focusDriven.lens.slips = s.lens.slips ∧ s.focusDriven.lens.d = s.lens.d ∧
    s.focusDriven.lens.zoom.pos = s.lens.zoom.pos ∧ s.focusDriven.lens.focus.pos = s.lens.focus.pos ∧
    s.focusDriven.lens.iris.pos = s.lens.iris.pos ∧ s.focusDriven.store.dram = s.store.dram ∧
    s.focusDriven.store.backlog = s.store.backlog ∧ s.focusDriven.store.cut = s.store.cut ∧
    s.focusDriven.rq.queue = s.rq.queue ∧ s.focusDriven.links.mask = s.links.mask ∧
    s.focusDriven.links.txn = s.links.txn := by
  unfold State.focusDriven; (repeat' split) <;> simp [State.act]

@[simp] theorem State.focusStep_fields (s : State) :
    s.focusStep.fc.prepare = s.fc.prepare ∧ s.focusStep.fc.owed = s.fc.owed ∧
    s.focusStep.fc.continuous = s.fc.continuous ∧ s.focusStep.fc.inEffect = s.fc.inEffect ∧
    s.focusStep.fc.fseq = s.fc.fseq ∧ s.focusStep.fc.cadence = s.fc.cadence ∧ s.focusStep.fc.shutter = s.fc.shutter ∧
    s.focusStep.fc.frame = s.fc.frame ∧ s.focusStep.st.last = s.st.last ∧ s.focusStep.st.patterns = s.st.patterns ∧
    s.focusStep.ep.lock = s.ep.lock ∧ s.focusStep.ep.penalty = s.ep.penalty ∧ s.focusStep.lens.cause = s.lens.cause ∧
    s.focusStep.lens.slip = s.lens.slip ∧ s.focusStep.lens.slips = s.lens.slips ∧
    s.focusStep.store.dram = s.store.dram ∧ s.focusStep.store.backlog = s.store.backlog ∧
    s.focusStep.store.cut = s.store.cut ∧ s.focusStep.rq.queue = s.rq.queue ∧ s.focusStep.links.mask = s.links.mask ∧
    s.focusStep.links.txn = s.links.txn := by
  simp only [State.focusStep]; (repeat' split) <;> simp [State.act]

@[simp] theorem State.irisStep_fields (s : State) :
    s.irisStep.fc.prepare = s.fc.prepare ∧ s.irisStep.fc.owed = s.fc.owed ∧
    s.irisStep.fc.continuous = s.fc.continuous ∧ s.irisStep.fc.inEffect = s.fc.inEffect ∧
    s.irisStep.fc.fseq = s.fc.fseq ∧ s.irisStep.fc.cadence = s.fc.cadence ∧ s.irisStep.fc.shutter = s.fc.shutter ∧
    s.irisStep.fc.frame = s.fc.frame ∧ s.irisStep.st.last = s.st.last ∧ s.irisStep.st.patterns = s.st.patterns ∧
    s.irisStep.ep.lock = s.ep.lock ∧ s.irisStep.ep.penalty = s.ep.penalty ∧ s.irisStep.lens.cause = s.lens.cause ∧
    s.irisStep.lens.slip = s.lens.slip ∧ s.irisStep.lens.slips = s.lens.slips ∧
    s.irisStep.store.dram = s.store.dram ∧ s.irisStep.store.backlog = s.store.backlog ∧
    s.irisStep.store.cut = s.store.cut ∧ s.irisStep.rq.queue = s.rq.queue ∧ s.irisStep.links.mask = s.links.mask ∧
    s.irisStep.links.txn = s.links.txn := by
  simp only [State.irisStep]; (repeat' split) <;> simp [State.act]

@[simp] theorem State.actuatorStep_fields (s : State) (which : Actuator) (level : HomeLevel) :
    (s.actuatorStep which level).fc.prepare = s.fc.prepare ∧ (s.actuatorStep which level).fc.owed = s.fc.owed ∧
    (s.actuatorStep which level).fc.continuous = s.fc.continuous ∧
    (s.actuatorStep which level).fc.inEffect = s.fc.inEffect ∧ (s.actuatorStep which level).fc.fseq = s.fc.fseq ∧
    (s.actuatorStep which level).fc.cadence = s.fc.cadence ∧ (s.actuatorStep which level).fc.shutter = s.fc.shutter ∧
    (s.actuatorStep which level).fc.frame = s.fc.frame ∧ (s.actuatorStep which level).st.last = s.st.last ∧
    (s.actuatorStep which level).st.patterns = s.st.patterns ∧ (s.actuatorStep which level).ep.lock = s.ep.lock ∧
    (s.actuatorStep which level).ep.penalty = s.ep.penalty ∧ (s.actuatorStep which level).store.dram = s.store.dram ∧
    (s.actuatorStep which level).store.backlog = s.store.backlog ∧
    (s.actuatorStep which level).store.cut = s.store.cut ∧ (s.actuatorStep which level).rq.queue = s.rq.queue ∧
    (s.actuatorStep which level).links.mask = s.links.mask ∧
    (s.actuatorStep which level).links.txn = s.links.txn := by
  simp only [State.actuatorStep]; (repeat' split) <;> simp [State.act]

@[simp] theorem State.linkZoom_fields (s : State) (target : Int) (speed : Nat) :
    (s.linkZoom target speed).st.last = s.st.last ∧ (s.linkZoom target speed).st.patterns = s.st.patterns ∧
    (s.linkZoom target speed).lens.state = s.lens.state ∧ (s.linkZoom target speed).lens.cause = s.lens.cause ∧
    (s.linkZoom target speed).lens.slip = s.lens.slip ∧ (s.linkZoom target speed).lens.slips = s.lens.slips ∧
    (s.linkZoom target speed).lens.drive = s.lens.drive ∧ (s.linkZoom target speed).lens.zoom.pos = s.lens.zoom.pos ∧
    (s.linkZoom target speed).lens.focus.pos = s.lens.focus.pos ∧
    (s.linkZoom target speed).lens.iris.pos = s.lens.iris.pos ∧ (s.linkZoom target speed).links.mask = s.links.mask ∧
    (s.linkZoom target speed).links.txn = s.links.txn := by
  unfold State.linkZoom; (repeat' split) <;> simp [State.act]

@[simp] theorem State.linkFocus_fields (s : State) (target : Int) :
    (s.linkFocus target).st.last = s.st.last ∧ (s.linkFocus target).st.patterns = s.st.patterns ∧
    (s.linkFocus target).lens.state = s.lens.state ∧ (s.linkFocus target).lens.cause = s.lens.cause ∧
    (s.linkFocus target).lens.slip = s.lens.slip ∧ (s.linkFocus target).lens.slips = s.lens.slips ∧
    (s.linkFocus target).lens.drive = s.lens.drive ∧ (s.linkFocus target).lens.zoom.pos = s.lens.zoom.pos ∧
    (s.linkFocus target).lens.focus.pos = s.lens.focus.pos ∧ (s.linkFocus target).lens.iris.pos = s.lens.iris.pos ∧
    (s.linkFocus target).links.mask = s.links.mask ∧ (s.linkFocus target).links.txn = s.links.txn := by
  unfold State.linkFocus; (repeat' split) <;> simp [State.act]

@[simp] theorem State.tableGiven_fields (s : State) :
    s.tableGiven.st.last = s.st.last ∧ s.tableGiven.st.patterns = s.st.patterns ∧ s.tableGiven.ep.lock = s.ep.lock ∧
    s.tableGiven.ep.penalty = s.ep.penalty ∧ s.tableGiven.lens.state = s.lens.state ∧
    s.tableGiven.lens.cause = s.lens.cause ∧ s.tableGiven.lens.slip = s.lens.slip ∧
    s.tableGiven.lens.slips = s.lens.slips ∧ s.tableGiven.lens.d = s.lens.d ∧
    s.tableGiven.stab.state = s.stab.state ∧ s.tableGiven.stab.gyro = s.stab.gyro ∧
    s.tableGiven.stab.cause = s.stab.cause ∧ s.tableGiven.stab.last = s.stab.last := by
  simp only [State.tableGiven]; (repeat' split) <;> simp [State.act]

@[simp] theorem State.loadEnd_fields (s : State) (image : List Byte) :
    (s.loadEnd image).st.last = s.st.last ∧ (s.loadEnd image).st.patterns = s.st.patterns ∧
    (s.loadEnd image).ep.lock = s.ep.lock ∧ (s.loadEnd image).ep.penalty = s.ep.penalty ∧
    (s.loadEnd image).lens.state = s.lens.state ∧ (s.loadEnd image).lens.cause = s.lens.cause ∧
    (s.loadEnd image).lens.slip = s.lens.slip ∧ (s.loadEnd image).lens.slips = s.lens.slips ∧
    (s.loadEnd image).lens.d = s.lens.d ∧ (s.loadEnd image).stab.state = s.stab.state ∧
    (s.loadEnd image).stab.gyro = s.stab.gyro ∧ (s.loadEnd image).stab.cause = s.stab.cause ∧
    (s.loadEnd image).stab.last = s.stab.last ∧ (s.loadEnd image).links.mask = s.links.mask ∧
    (s.loadEnd image).links.txn = s.links.txn := by
  simp only [State.loadEnd]; (repeat' split) <;> simp [State.act]

@[simp] theorem State.loadStart_fields (s : State) :
    s.loadStart.loader.table = s.loader.table := by
  unfold State.loadStart; (repeat' split) <;> simp [State.act]

@[simp] theorem State.activeStep_fc_prepare (f : State → State) (s : State) :
    (s.activeStep f).fc.prepare = (f s).fc.prepare := by
  simp [State.activeStep]
@[simp] theorem State.activeStep_fc_owed (f : State → State) (s : State) :
    (s.activeStep f).fc.owed = (f s).fc.owed := by
  simp [State.activeStep]
@[simp] theorem State.activeStep_fc_continuous (f : State → State) (s : State) :
    (s.activeStep f).fc.continuous = (f s).fc.continuous := by
  simp [State.activeStep]
@[simp] theorem State.activeStep_fc_inEffect (f : State → State) (s : State) :
    (s.activeStep f).fc.inEffect = (f s).fc.inEffect := by
  simp [State.activeStep]
@[simp] theorem State.activeStep_fc_fseq (f : State → State) (s : State) :
    (s.activeStep f).fc.fseq = (f s).fc.fseq := by
  simp [State.activeStep]
@[simp] theorem State.activeStep_fc_started (f : State → State) (s : State) :
    (s.activeStep f).fc.started = (f s).fc.started := by
  simp [State.activeStep]
@[simp] theorem State.activeStep_fc_shutter (f : State → State) (s : State) :
    (s.activeStep f).fc.shutter = (f s).fc.shutter := by
  simp [State.activeStep]
@[simp] theorem State.activeStep_fc_frame (f : State → State) (s : State) :
    (s.activeStep f).fc.frame = (f s).fc.frame := by
  simp [State.activeStep]
@[simp] theorem State.activeStep_st_last (f : State → State) (s : State) :
    (s.activeStep f).st.last = (f s).st.last := by
  simp [State.activeStep]
@[simp] theorem State.activeStep_st_patterns (f : State → State) (s : State) :
    (s.activeStep f).st.patterns = (f s).st.patterns := by
  simp [State.activeStep]
@[simp] theorem State.activeStep_ep_lock (f : State → State) (s : State) :
    (s.activeStep f).ep.lock = (f s).ep.lock := by
  simp [State.activeStep]
@[simp] theorem State.activeStep_ep_penalty (f : State → State) (s : State) :
    (s.activeStep f).ep.penalty = (f s).ep.penalty := by
  simp [State.activeStep]
@[simp] theorem State.activeStep_lens_state (f : State → State) (s : State) :
    (s.activeStep f).lens.state = (f s).lens.state := by
  simp [State.activeStep]
@[simp] theorem State.activeStep_lens_cause (f : State → State) (s : State) :
    (s.activeStep f).lens.cause = (f s).lens.cause := by
  simp [State.activeStep]
@[simp] theorem State.activeStep_lens_slip (f : State → State) (s : State) :
    (s.activeStep f).lens.slip = (f s).lens.slip := by
  simp [State.activeStep]
@[simp] theorem State.activeStep_lens_slips (f : State → State) (s : State) :
    (s.activeStep f).lens.slips = (f s).lens.slips := by
  simp [State.activeStep]
@[simp] theorem State.activeStep_lens_drive (f : State → State) (s : State) :
    (s.activeStep f).lens.drive = (f s).lens.drive := by
  simp [State.activeStep]
@[simp] theorem State.activeStep_lens_d (f : State → State) (s : State) : (s.activeStep f).lens.d = (f s).lens.d := by
  simp [State.activeStep]
@[simp] theorem State.activeStep_lens_zoom_pos (f : State → State) (s : State) :
    (s.activeStep f).lens.zoom.pos = (f s).lens.zoom.pos := by
  simp [State.activeStep]
@[simp] theorem State.activeStep_lens_focus_pos (f : State → State) (s : State) :
    (s.activeStep f).lens.focus.pos = (f s).lens.focus.pos := by
  simp [State.activeStep]
@[simp] theorem State.activeStep_lens_iris_pos (f : State → State) (s : State) :
    (s.activeStep f).lens.iris.pos = (f s).lens.iris.pos := by
  simp [State.activeStep]
@[simp] theorem State.activeStep_store_dram (f : State → State) (s : State) :
    (s.activeStep f).store.dram = (f s).store.dram := by
  simp [State.activeStep]
@[simp] theorem State.activeStep_store_cut (f : State → State) (s : State) :
    (s.activeStep f).store.cut = (f s).store.cut := by
  simp [State.activeStep]
@[simp] theorem State.activeStep_rq_queue (f : State → State) (s : State) :
    (s.activeStep f).rq.queue = (f s).rq.queue := by
  simp [State.activeStep]
@[simp] theorem State.activeStep_links (f : State → State) (s : State) : (s.activeStep f).links = (f s).links := by
  simp [State.activeStep]
@[simp] theorem State.activeStep_af (f : State → State) (s : State) : (s.activeStep f).af = (f s).af := by
  simp [State.activeStep]

@[simp] theorem State.setPrepare_fields (s : State) (p : Port) (v : Bool) :
    (s.setPrepare p v).fc.owed = s.fc.owed ∧ (s.setPrepare p v).fc.continuous = s.fc.continuous ∧
    (s.setPrepare p v).fc.inEffect = s.fc.inEffect ∧ (s.setPrepare p v).fc.fseq = s.fc.fseq ∧
    (s.setPrepare p v).fc.capNo = s.fc.capNo ∧ (s.setPrepare p v).fc.burstCount = s.fc.burstCount ∧
    (s.setPrepare p v).fc.cadence = s.fc.cadence ∧ (s.setPrepare p v).fc.started = s.fc.started ∧
    (s.setPrepare p v).fc.shutter = s.fc.shutter ∧ (s.setPrepare p v).fc.state = s.fc.state ∧
    (s.setPrepare p v).fc.frame = s.fc.frame := by
  unfold State.setPrepare; (repeat' split) <;> simp [State.act]

@[simp] theorem State.prepareOn_fields (s : State) (p : Port) :
    (s.prepareOn p).fc.owed = s.fc.owed ∧ (s.prepareOn p).fc.continuous = s.fc.continuous ∧
    (s.prepareOn p).fc.inEffect = s.fc.inEffect ∧ (s.prepareOn p).fc.fseq = s.fc.fseq ∧
    (s.prepareOn p).fc.capNo = s.fc.capNo ∧ (s.prepareOn p).fc.burstCount = s.fc.burstCount ∧
    (s.prepareOn p).fc.cadence = s.fc.cadence ∧ (s.prepareOn p).fc.started = s.fc.started ∧
    (s.prepareOn p).fc.shutter = s.fc.shutter ∧ (s.prepareOn p).fc.state = s.fc.state ∧
    (s.prepareOn p).fc.frame = s.fc.frame ∧ (s.prepareOn p).st.last = s.st.last ∧
    (s.prepareOn p).st.patterns = s.st.patterns ∧ (s.prepareOn p).ep.penalty = s.ep.penalty ∧
    (s.prepareOn p).lens.state = s.lens.state ∧ (s.prepareOn p).lens.cause = s.lens.cause ∧
    (s.prepareOn p).lens.slip = s.lens.slip ∧ (s.prepareOn p).lens.slips = s.lens.slips ∧
    (s.prepareOn p).lens.drive = s.lens.drive ∧ (s.prepareOn p).lens.zoom.pos = s.lens.zoom.pos ∧
    (s.prepareOn p).lens.focus.pos = s.lens.focus.pos ∧ (s.prepareOn p).lens.iris.pos = s.lens.iris.pos ∧
    (s.prepareOn p).links.mask = s.links.mask ∧ (s.prepareOn p).links.txn = s.links.txn := by
  unfold State.prepareOn; (repeat' split) <;> simp [State.act]

@[simp] theorem State.prepareOff_fields (s : State) (p : Port) :
    (s.prepareOff p).fc.owed = s.fc.owed ∧ (s.prepareOff p).fc.continuous = s.fc.continuous ∧
    (s.prepareOff p).fc.inEffect = s.fc.inEffect ∧ (s.prepareOff p).fc.fseq = s.fc.fseq ∧
    (s.prepareOff p).fc.capNo = s.fc.capNo ∧ (s.prepareOff p).fc.burstCount = s.fc.burstCount ∧
    (s.prepareOff p).fc.cadence = s.fc.cadence ∧ (s.prepareOff p).fc.started = s.fc.started ∧
    (s.prepareOff p).fc.shutter = s.fc.shutter ∧ (s.prepareOff p).fc.state = s.fc.state ∧
    (s.prepareOff p).fc.frame = s.fc.frame ∧ (s.prepareOff p).st.last = s.st.last ∧
    (s.prepareOff p).st.patterns = s.st.patterns ∧ (s.prepareOff p).ep.penalty = s.ep.penalty ∧
    (s.prepareOff p).lens.state = s.lens.state ∧ (s.prepareOff p).lens.cause = s.lens.cause ∧
    (s.prepareOff p).lens.slip = s.lens.slip ∧ (s.prepareOff p).lens.slips = s.lens.slips ∧
    (s.prepareOff p).lens.drive = s.lens.drive ∧ (s.prepareOff p).lens.d = s.lens.d ∧
    (s.prepareOff p).lens.zoom.pos = s.lens.zoom.pos ∧ (s.prepareOff p).lens.focus.pos = s.lens.focus.pos ∧
    (s.prepareOff p).lens.iris.pos = s.lens.iris.pos := by
  simp only [State.prepareOff]; (repeat' split) <;> simp [State.act]

@[simp] theorem State.addShots_fields (s : State) (n : Nat) :
    (s.addShots n).fc.prepare = s.fc.prepare ∧ (s.addShots n).fc.inEffect = s.fc.inEffect ∧
    (s.addShots n).fc.fseq = s.fc.fseq ∧ (s.addShots n).fc.capNo = s.fc.capNo ∧
    (s.addShots n).fc.burstCount = s.fc.burstCount ∧ (s.addShots n).fc.cadence = s.fc.cadence ∧
    (s.addShots n).fc.started = s.fc.started ∧ (s.addShots n).fc.shutter = s.fc.shutter ∧
    (s.addShots n).fc.state = s.fc.state ∧ (s.addShots n).fc.frame = s.fc.frame := by
  unfold State.addShots; (repeat' split) <;> simp [State.act]

@[simp] theorem State.shoot_fields (s : State) (n : Nat) :
    (s.shoot n).fc.prepare = s.fc.prepare ∧ (s.shoot n).fc.inEffect = s.fc.inEffect ∧
    (s.shoot n).fc.fseq = s.fc.fseq ∧ (s.shoot n).fc.capNo = s.fc.capNo ∧
    (s.shoot n).fc.burstCount = s.fc.burstCount ∧ (s.shoot n).fc.cadence = s.fc.cadence ∧
    (s.shoot n).fc.started = s.fc.started ∧ (s.shoot n).fc.shutter = s.fc.shutter ∧
    (s.shoot n).fc.state = s.fc.state ∧ (s.shoot n).fc.frame = s.fc.frame ∧ (s.shoot n).st.last = s.st.last ∧
    (s.shoot n).st.patterns = s.st.patterns ∧ (s.shoot n).ep.lock = s.ep.lock ∧
    (s.shoot n).ep.penalty = s.ep.penalty ∧ (s.shoot n).lens.state = s.lens.state ∧
    (s.shoot n).lens.cause = s.lens.cause ∧ (s.shoot n).lens.slip = s.lens.slip ∧
    (s.shoot n).lens.slips = s.lens.slips ∧ (s.shoot n).lens.drive = s.lens.drive ∧
    (s.shoot n).lens.zoom.pos = s.lens.zoom.pos ∧ (s.shoot n).lens.focus.pos = s.lens.focus.pos ∧
    (s.shoot n).lens.iris.pos = s.lens.iris.pos ∧ (s.shoot n).links.mask = s.links.mask ∧
    (s.shoot n).links.txn = s.links.txn := by
  unfold State.shoot; (repeat' split) <;> simp [State.act]

@[simp] theorem State.setPattern_fields (s : State) (n : Nat) (weights : List Nat) :
    (s.setPattern n weights).st.last = s.st.last := by
  unfold State.setPattern; (repeat' split) <;> simp [State.act]

@[simp] theorem State.extend_fields (s : State) :
    s.extend.fc.prepare = s.fc.prepare ∧ s.extend.fc.owed = s.fc.owed ∧ s.extend.fc.continuous = s.fc.continuous ∧
    s.extend.fc.inEffect = s.fc.inEffect ∧ s.extend.fc.fseq = s.fc.fseq ∧ s.extend.fc.cadence = s.fc.cadence ∧
    s.extend.fc.shutter = s.fc.shutter ∧ s.extend.fc.frame = s.fc.frame ∧ s.extend.st.last = s.st.last ∧
    s.extend.st.patterns = s.st.patterns ∧ s.extend.ep.lock = s.ep.lock ∧ s.extend.ep.penalty = s.ep.penalty ∧
    s.extend.lens.cause = s.lens.cause ∧ s.extend.lens.slip = s.lens.slip ∧ s.extend.lens.slips = s.lens.slips ∧
    s.extend.lens.zoom.pos = s.lens.zoom.pos ∧ s.extend.lens.focus.pos = s.lens.focus.pos ∧
    s.extend.lens.iris.pos = s.lens.iris.pos ∧ s.extend.store.dram = s.store.dram ∧
    s.extend.store.backlog = s.store.backlog ∧ s.extend.store.cut = s.store.cut ∧ s.extend.rq.queue = s.rq.queue ∧
    s.extend.links.mask = s.links.mask ∧ s.extend.links.txn = s.links.txn := by
  unfold State.extend; (repeat' split) <;> simp [State.act]

@[simp] theorem State.retract_fields (s : State) :
    s.retract.fc.prepare = s.fc.prepare ∧ s.retract.fc.inEffect = s.fc.inEffect ∧ s.retract.fc.fseq = s.fc.fseq ∧
    s.retract.fc.capNo = s.fc.capNo ∧ s.retract.fc.cadence = s.fc.cadence ∧ s.retract.fc.started = s.fc.started ∧
    s.retract.fc.shutter = s.fc.shutter ∧ s.retract.fc.frame = s.fc.frame ∧ s.retract.st.last = s.st.last ∧
    s.retract.st.patterns = s.st.patterns ∧ s.retract.ep.lock = s.ep.lock ∧ s.retract.lens.cause = s.lens.cause ∧
    s.retract.lens.slip = s.lens.slip ∧ s.retract.lens.slips = s.lens.slips ∧ s.retract.lens.d = s.lens.d ∧
    s.retract.links.mask = s.links.mask ∧ s.retract.links.txn = s.links.txn := by
  unfold State.retract; (repeat' split) <;> simp [State.act]

@[simp] theorem State.drainOpen_fields (s : State) (p : Port) (slot : Nat) :
    (s.drainOpen p slot).store.dram = s.store.dram ∧ (s.drainOpen p slot).store.cut = s.store.cut ∧
    (s.drainOpen p slot).links.mask = s.links.mask ∧ (s.drainOpen p slot).links.txn = s.links.txn := by
  unfold State.drainOpen; (repeat' split) <;> simp [State.act]

@[simp] theorem State.reviewOpen_fields (s : State) (p : Port) (slot first length : Nat) :
    (s.reviewOpen p slot first length).store.dram = s.store.dram ∧
    (s.reviewOpen p slot first length).store.cut = s.store.cut ∧
    (s.reviewOpen p slot first length).links.mask = s.links.mask ∧
    (s.reviewOpen p slot first length).links.txn = s.links.txn := by
  unfold State.reviewOpen; (repeat' split) <;> simp [State.act]

@[simp] theorem State.periodChanged_fields (s : State) (old : State) :
    (s.periodChanged old).fc.prepare = s.fc.prepare ∧ (s.periodChanged old).fc.owed = s.fc.owed ∧
    (s.periodChanged old).fc.continuous = s.fc.continuous ∧ (s.periodChanged old).fc.inEffect = s.fc.inEffect ∧
    (s.periodChanged old).fc.fseq = s.fc.fseq ∧ (s.periodChanged old).fc.capNo = s.fc.capNo ∧
    (s.periodChanged old).fc.burstCount = s.fc.burstCount ∧ (s.periodChanged old).fc.cadence = s.fc.cadence ∧
    (s.periodChanged old).fc.started = s.fc.started ∧ (s.periodChanged old).fc.shutter = s.fc.shutter ∧
    (s.periodChanged old).fc.state = s.fc.state ∧ (s.periodChanged old).fc.frame = s.fc.frame ∧
    (s.periodChanged old).st.last = s.st.last ∧ (s.periodChanged old).st.patterns = s.st.patterns ∧
    (s.periodChanged old).ep.lock = s.ep.lock ∧ (s.periodChanged old).ep.penalty = s.ep.penalty ∧
    (s.periodChanged old).lens.state = s.lens.state ∧ (s.periodChanged old).lens.cause = s.lens.cause ∧
    (s.periodChanged old).lens.slip = s.lens.slip ∧ (s.periodChanged old).lens.slips = s.lens.slips ∧
    (s.periodChanged old).lens.drive = s.lens.drive ∧ (s.periodChanged old).lens.d = s.lens.d ∧
    (s.periodChanged old).lens.zoom.pos = s.lens.zoom.pos ∧ (s.periodChanged old).lens.focus.pos = s.lens.focus.pos ∧
    (s.periodChanged old).lens.iris.pos = s.lens.iris.pos := by
  unfold State.periodChanged; (repeat' split) <;> simp [State.act]

@[simp] theorem State.ackKinds_fields (s : State) (p : Port) (k : KindSet) :
    (s.ackKinds p k).links.mask = s.links.mask ∧ (s.ackKinds p k).links.txn = s.links.txn ∧
    (s.ackKinds p k).links.occ = s.links.occ := by
  unfold State.ackKinds; (repeat' split) <;> simp [State.act]

@[simp] theorem State.liveTransfer_fields (s : State) :
    s.liveTransfer.fc.prepare = s.fc.prepare ∧ s.liveTransfer.fc.owed = s.fc.owed ∧
    s.liveTransfer.fc.continuous = s.fc.continuous ∧ s.liveTransfer.fc.inEffect = s.fc.inEffect ∧
    s.liveTransfer.fc.fseq = s.fc.fseq ∧ s.liveTransfer.fc.capNo = s.fc.capNo ∧
    s.liveTransfer.fc.burstCount = s.fc.burstCount ∧ s.liveTransfer.fc.cadence = s.fc.cadence ∧
    s.liveTransfer.fc.started = s.fc.started ∧ s.liveTransfer.fc.shutter = s.fc.shutter ∧
    s.liveTransfer.fc.state = s.fc.state ∧ s.liveTransfer.fc.frame = s.fc.frame := by
  unfold State.liveTransfer; (repeat' split) <;> simp [State.act]

@[simp] theorem State.liveStartNow_fields (s : State) :
    s.liveStartNow.fc.prepare = s.fc.prepare ∧ s.liveStartNow.fc.owed = s.fc.owed ∧
    s.liveStartNow.fc.continuous = s.fc.continuous ∧ s.liveStartNow.fc.inEffect = s.fc.inEffect ∧
    s.liveStartNow.fc.capNo = s.fc.capNo ∧ s.liveStartNow.fc.burstCount = s.fc.burstCount ∧
    s.liveStartNow.fc.cadence = s.fc.cadence ∧ s.liveStartNow.fc.started = s.fc.started ∧
    s.liveStartNow.fc.shutter = s.fc.shutter ∧ s.liveStartNow.fc.state = s.fc.state ∧
    s.liveStartNow.st.last = s.st.last ∧ s.liveStartNow.st.patterns = s.st.patterns ∧
    s.liveStartNow.links.mask = s.links.mask ∧ s.liveStartNow.links.txn = s.links.txn := by
  unfold State.liveStartNow; (repeat' split) <;> simp [State.act]

@[simp] theorem State.endReadout_fields (timedOut : Bool) (s : State) :
    (State.endReadout timedOut s).fc.prepare = s.fc.prepare ∧
    (State.endReadout timedOut s).fc.continuous = s.fc.continuous ∧
    (State.endReadout timedOut s).fc.inEffect = s.fc.inEffect ∧ (State.endReadout timedOut s).fc.fseq = s.fc.fseq ∧
    (State.endReadout timedOut s).fc.cadence = s.fc.cadence ∧
    (State.endReadout timedOut s).fc.started = s.fc.started ∧
    (State.endReadout timedOut s).st.patterns = s.st.patterns ∧ (State.endReadout timedOut s).ep.lock = s.ep.lock ∧
    (State.endReadout timedOut s).lens.state = s.lens.state ∧
    (State.endReadout timedOut s).lens.cause = s.lens.cause ∧ (State.endReadout timedOut s).lens.slip = s.lens.slip ∧
    (State.endReadout timedOut s).lens.slips = s.lens.slips ∧
    (State.endReadout timedOut s).lens.drive = s.lens.drive ∧
    (State.endReadout timedOut s).lens.zoom.pos = s.lens.zoom.pos ∧
    (State.endReadout timedOut s).lens.focus.pos = s.lens.focus.pos ∧
    (State.endReadout timedOut s).lens.iris.pos = s.lens.iris.pos ∧
    (State.endReadout timedOut s).store.dram = s.store.dram ∧
    (State.endReadout timedOut s).store.backlog = s.store.backlog ∧
    (State.endReadout timedOut s).store.cut = s.store.cut ∧ (State.endReadout timedOut s).links.mask = s.links.mask ∧
    (State.endReadout timedOut s).links.txn = s.links.txn := by
  unfold State.endReadout; (repeat' split) <;> simp [State.act]

@[simp] theorem State.calTimeout_fields (s : State) :
    s.calTimeout.st.last = s.st.last ∧ s.calTimeout.st.patterns = s.st.patterns ∧ s.calTimeout.ep.lock = s.ep.lock ∧
    s.calTimeout.ep.penalty = s.ep.penalty ∧ s.calTimeout.lens.state = s.lens.state ∧
    s.calTimeout.lens.cause = s.lens.cause ∧ s.calTimeout.lens.slip = s.lens.slip ∧
    s.calTimeout.lens.slips = s.lens.slips ∧ s.calTimeout.lens.drive = s.lens.drive ∧
    s.calTimeout.lens.d = s.lens.d ∧ s.calTimeout.lens.zoom.pos = s.lens.zoom.pos ∧
    s.calTimeout.lens.focus.pos = s.lens.focus.pos ∧ s.calTimeout.lens.iris.pos = s.lens.iris.pos ∧
    s.calTimeout.links.mask = s.links.mask ∧ s.calTimeout.links.txn = s.links.txn := by
  unfold State.calTimeout; (repeat' split) <;> simp [State.act]

@[simp] theorem State.setTxn_fields (s : State) (p : Port) (x : Txn) :
    (s.setTxn p x).links.mask = s.links.mask ∧ (s.setTxn p x).links.occ = s.links.occ ∧
    (s.setTxn p x).links.pend = s.links.pend := by
  unfold State.setTxn; (repeat' split) <;> simp [State.act]

@[simp] theorem State.replyReady_fields (s : State) (p : Port) :
    (s.replyReady p).links.mask = s.links.mask ∧ (s.replyReady p).links.occ = s.links.occ ∧
    (s.replyReady p).links.pend = s.links.pend := by
  unfold State.replyReady; (repeat' split) <;> simp [State.act]

@[simp] theorem State.finishReply_fields (s : State) (p : Port) (r : Reply) :
    (s.finishReply p r).rq.opened = s.rq.opened ∧ (s.finishReply p r).links.mask = s.links.mask ∧
    (s.finishReply p r).links.occ = s.links.occ ∧ (s.finishReply p r).links.pend = s.links.pend := by
  unfold State.finishReply; (repeat' split) <;> simp [State.act]

@[simp] theorem State.replyEnd_fields (s : State) (p : Port) :
    (s.replyEnd p).rq.opened = s.rq.opened ∧ (s.replyEnd p).links.mask = s.links.mask ∧
    (s.replyEnd p).links.occ = s.links.occ ∧ (s.replyEnd p).links.pend = s.links.pend := by
  unfold State.replyEnd; (repeat' split) <;> simp [State.act]

@[simp] theorem State.replyByte_fields (s : State) (p : Port) (r : Reply) (sent : Nat) :
    (s.replyByte p r sent).rq.opened = s.rq.opened ∧ (s.replyByte p r sent).links.mask = s.links.mask ∧
    (s.replyByte p r sent).links.occ = s.links.occ ∧ (s.replyByte p r sent).links.pend = s.links.pend := by
  unfold State.replyByte; (repeat' split) <;> simp [State.act]

end Sys2Proof.Machine
end

