-- ==== Sys2Proof/Laws/Memory.lean ====
section
/-! SUPPORT. The DRAM: read after write, writes elsewhere, and that every operation keeps the canonical form. -/

namespace Sys2Proof.Machine

/-- A rising list rises from any lower bound too. -/
theorem dramRising_mono {m : List Host.Cell} {lo lo' : Nat} (h : lo' ≤ lo) (hm : dramRising lo m = true) :
    dramRising lo' m = true := by
  cases m with
  | nil => rfl
  | cons x rest =>
    simp only [dramRising, Bool.and_eq_true, decide_eq_true_eq] at hm ⊢
    exact ⟨⟨by omega, hm.1.2⟩, hm.2⟩

/-- Nothing is written below the bound of a rising list. -/
theorem dramRead_below {m : List Host.Cell} {lo addr : Nat} (hm : dramRising lo m = true) (h : addr < lo) :
    dramRead m addr = none := by
  cases m with
  | nil => rfl
  | cons x rest =>
    simp only [dramRising, Bool.and_eq_true, decide_eq_true_eq] at hm
    simp only [dramRead]
    rw [if_neg (by omega), if_pos (by omega)]

/-- An inserted byte is read back. -/
@[simp] theorem dramRead_insert_same (m : List Host.Cell) (addr : Nat) (v : Byte) :
    dramRead (dramInsert m addr v) addr = some v := by
  induction m with
  | nil => simp [dramInsert, dramRead]
  | cons x rest ih =>
    simp only [dramInsert]
    split
    · simp [dramRead]
    · split
      · simp_all [dramRead]
      · simp only [dramRead]; rw [if_neg (by omega), if_neg (by omega), ih]

/-- Inserting a byte changes no other address. -/
theorem dramRead_insert_other {m : List Host.Cell} {lo addr other : Nat} (v : Byte) (hm : dramRising lo m = true)
    (h : other ≠ addr) : dramRead (dramInsert m addr v) other = dramRead m other := by
  induction m generalizing lo with
  | nil => simp only [dramInsert, dramRead]; rw [if_neg (by omega)]; split <;> rfl
  | cons x rest ih =>
    simp only [dramRising, Bool.and_eq_true, decide_eq_true_eq] at hm
    simp only [dramInsert]
    split
    · simp only [dramRead]
      rw [if_neg (by omega)]
      split
      · rw [if_neg (by omega), if_pos (by omega)]
      · rfl
    · split
      · simp only [dramRead]
        simp only [if_neg (show ¬ x.1 = other by omega)]
      · simp only [dramRead, ih hm.2]

/-- Inserting keeps the addresses rising. -/
theorem dramRising_insert {m : List Host.Cell} {lo addr : Nat} (v : Byte) (hm : dramRising lo m = true) (hlo : lo ≤ addr)
    (ha : addr < dramSize) : dramRising lo (dramInsert m addr v) = true := by
  induction m generalizing lo with
  | nil => simp [dramInsert, dramRising, hlo, ha]
  | cons x rest ih =>
    simp only [dramRising, Bool.and_eq_true, decide_eq_true_eq] at hm
    simp only [dramInsert]
    split
    · simp only [dramRising, Bool.and_eq_true, decide_eq_true_eq]
      exact ⟨⟨hlo, ha⟩, ⟨by omega, hm.1.2⟩, hm.2⟩
    · split
      · simp only [dramRising, Bool.and_eq_true, decide_eq_true_eq]
        exact hm
      · simp only [dramRising, Bool.and_eq_true, decide_eq_true_eq]
        exact ⟨hm.1, ih hm.2 (by omega)⟩

/-- A write keeps the canonical form. -/
theorem dramWf_write {m : List Host.Cell} (addr : Nat) (v : Byte) (hm : dramWf m = true) :
    dramWf (dramWrite m addr v) = true := by
  unfold dramWrite
  split
  · exact dramRising_insert v hm (by omega) ‹_›
  · exact hm

/-- The writes of a grant keep the canonical form. -/
theorem dramWf_writeAll (cells : List Host.Cell) {m : List Host.Cell} (hm : dramWf m = true) :
    dramWf (dramWriteAll m cells) = true := by
  induction cells generalizing m with
  | nil => exact hm
  | cons x rest ih => exact ih (dramWf_write x.1 x.2 hm)

/-- A written byte is read back. -/
theorem dramRead_write_same {m : List Host.Cell} {addr : Nat} (v : Byte) (h : addr < dramSize) :
    dramRead (dramWrite m addr v) addr = some v := by
  simp [dramWrite, h]

/-- A write changes no other address. -/
theorem dramRead_write_other {m : List Host.Cell} {addr other : Nat} (v : Byte) (hm : dramWf m = true)
    (h : other ≠ addr) : dramRead (dramWrite m addr v) other = dramRead m other := by
  unfold dramWrite
  split
  · exact dramRead_insert_other v hm h
  · rfl

/-- The writes of a grant change no address that none of them names. -/
theorem dramRead_writeAll_other (cells : List Host.Cell) {m : List Host.Cell} {addr : Nat} (hm : dramWf m = true)
    (h : ∀ x ∈ cells, x.1 ≠ addr) : dramRead (dramWriteAll m cells) addr = dramRead m addr := by
  induction cells generalizing m with
  | nil => rfl
  | cons x rest ih =>
    rw [show dramWriteAll m (x :: rest) = dramWriteAll (dramWrite m x.1 x.2) rest from rfl,
      ih (dramWf_write _ _ hm) (fun y hy => h y (List.mem_cons_of_mem _ hy)),
      dramRead_write_other _ hm (h x List.mem_cons_self).symm]

/-- Where the writes of a grant name each address once, each byte is read back. -/
theorem dramRead_writeAll_mem (cells : List Host.Cell) {m : List Host.Cell} {x : Host.Cell} (hm : dramWf m = true)
    (hnd : (cells.map Prod.fst).Nodup) (hx : x ∈ cells) (hs : x.1 < dramSize) :
    dramRead (dramWriteAll m cells) x.1 = some x.2 := by
  induction cells generalizing m with
  | nil => cases hx
  | cons y rest ih =>
    rw [List.map_cons, List.nodup_cons] at hnd
    rw [show dramWriteAll m (y :: rest) = dramWriteAll (dramWrite m y.1 y.2) rest from rfl]
    rcases List.mem_cons.1 hx with h | h
    · subst h
      rw [dramRead_writeAll_other rest (dramWf_write _ _ hm), dramRead_write_same _ hs]
      intro z hz he
      exact hnd.1 (he ▸ List.mem_map_of_mem hz)
    · exact ih (dramWf_write _ _ hm) hnd.2 h

/-- Power-on leaves nothing listed, which is canonical. -/
theorem dramWf_reset : dramWf State.reset.store.dram = true := rfl

end Sys2Proof.Machine
end

