-- ==== Sys2Proof/Laws/Requests.lean ====
section
/-! SUPPORT. Requests and replies: what a request, a timed event and a field can be. -/

namespace Sys2Proof.Machine

/-! ### Requests -/

/-- A request of a length Formats gives is answered by its owner. -/
theorem State.request_ok (s : State) (p : Port) (refused : State → State) (owner : State → Answer) :
    s.request p true refused owner = .next ((owner s.begin).sendTo p) := rfl

/-- A request of another length is answered BAD_LENGTH (R176). -/
theorem State.request_bad (s : State) (p : Port) (refused : State → State) (owner : State → Answer) :
    s.request p false refused owner = .next ((answer (refused s.begin) .badLength).sendTo p) := rfl

/-- A request always answers a next state. -/
theorem State.request_next (s : State) (p : Port) (ok : Bool) (refused : State → State) (owner : State → Answer) :
    ∃ t, s.request p ok refused owner = .next t := ⟨_, rfl⟩

@[simp] theorem answer_fields (s : State) (st : Status) :
    (answer s st).state = s ∧ (answer s st).status = st ∧ (answer s st).payload = [] ∧ (answer s st).takes = none := by
  simp [answer]

@[simp] theorem reading_fields (s : State) (payload : List Byte) :
    (reading s payload).state = s ∧ (reading s payload).status = .ok ∧ (reading s payload).payload = payload ∧
    (reading s payload).takes = none := by
  simp [reading]

/-- The reply of an answer, byte by byte (R174, Table 11-1). -/
theorem Answer.sendTo_replies (x : Answer) (p : Port) : (x.sendTo p).replies p x.status x.payload x.takes := by
  simp [State.replies, Answer.sendTo, State.prepareReply, replyBytes]

/-- Sending a reply touches the port's transaction state alone. -/
@[simp] theorem Answer.sendTo_frame (x : Answer) (p : Port) :
    (x.sendTo p).pending = x.state.pending ∧ (x.sendTo p).clock = x.state.clock ∧
    (x.sendTo p).settings = x.state.settings ∧ (x.sendTo p).fc = x.state.fc ∧ (x.sendTo p).st = x.state.st ∧
    (x.sendTo p).ep = x.state.ep ∧ (x.sendTo p).lens = x.state.lens ∧ (x.sendTo p).af = x.state.af ∧
    (x.sendTo p).stab = x.state.stab ∧ (x.sendTo p).store = x.state.store ∧ (x.sendTo p).rq = x.state.rq ∧
    (x.sendTo p).loader = x.state.loader ∧ (x.sendTo p).epoch = x.state.epoch ∧ (x.sendTo p).free = x.state.free ∧
    (x.sendTo p).outs = x.state.outs ∧ (x.sendTo p).links.pend = x.state.links.pend ∧
    (x.sendTo p).links.mask = x.state.links.mask ∧ (x.sendTo p).links.line = x.state.links.line ∧
    (x.sendTo p).links.occ = x.state.links.occ := by
  simp [Answer.sendTo, State.prepareReply]

/-- Sending a reply leaves the other ports' transactions alone (R177). -/
theorem Answer.sendTo_other (x : Answer) {p q : Port} (h : q ≠ p) :
    (x.sendTo p).links.txn.get q = x.state.links.txn.get q := by
  simp [Answer.sendTo, State.prepareReply, PerPort.get_set_ne _ _ h]

/-! ### Timed events -/

/-- A timed event whose deadline runs takes effect at its moment (log 2). -/
theorem State.timed_some (s : State) (d : Nat) (f : State → State) : s.timed (some d) f = .next (f (s.begin.reach d)) := rfl

/-- Without a deadline nothing happens (log 2). -/
theorem State.timed_none (s : State) (f : State → State) : s.timed none f = .next s.begin := rfl

/-- A timed event always answers a next state. -/
theorem State.timed_next (s : State) (due : Option Nat) (f : State → State) : ∃ t, s.timed due f = .next t := by
  cases due <;> exact ⟨_, rfl⟩

/-! ### Fields (R197) -/

@[simp] theorem be_length (n v : Nat) : (be n v).length = n := by
  induction n generalizing v with
  | zero => rfl
  | succ n ih => simp [be, ih]

@[simp] theorem beInt_length (n : Nat) (v : Int) : (beInt n v).length = n := be_length _ _
@[simp] theorem beFlag_length (b : Bool) : (beFlag b).length = 1 := be_length _ _
@[simp] theorem beWord_length (w : Option Word32) : (beWord w).length = 4 := be_length _ _

@[simp] theorem bePos_length (p : Option Int) : (bePos p).length = 2 := by
  unfold bePos; (repeat' split) <;> exact be_length _ _

/-- Reading bytes one more at the end. -/
theorem bigEndian_append (l : List Byte) (v : Byte) : bigEndian (l ++ [v]) = bigEndian l * 256 + v.toNat := by
  simp [bigEndian]

/-- A field is read back as it was sent, modulo its width (R197). -/
theorem bigEndian_be (n v : Nat) : bigEndian (be n v) = v % 256 ^ n := by
  induction n generalizing v with
  | zero => simp [be, bigEndian, Nat.mod_one]
  | succ n ih =>
    rw [be, bigEndian_append, ih, BitVec.toNat_ofNat, show (2 : Nat) ^ 8 = 256 from rfl,
      show 256 ^ (n + 1) = 256 * 256 ^ n from by rw [Nat.pow_succ, Nat.mul_comm], Nat.mod_mul]
    omega

/-! ### Reply lengths (Table 11-7) -/

/-- A list whose elements map to lists of one length. -/
theorem length_flatMap_const {α β : Type} (l : List α) (f : α → List β) (n : Nat) (h : ∀ x, (f x).length = n) :
    (l.flatMap f).length = l.length * n := by
  induction l with
  | nil => simp
  | cons a l ih => simp [List.flatMap_cons, ih, h, Nat.succ_mul, Nat.add_comm]

/-- Entry k of such a list stands at its offset. -/
theorem take_drop_flatMap_const {α β : Type} (l : List α) (f : α → List β) (n k : Nat) (h : ∀ x, (f x).length = n) {a : α}
    (ha : l[k]? = some a) : ((l.flatMap f).drop (k * n)).take n = f a := by
  induction l generalizing k with
  | nil => simp at ha
  | cons b l ih =>
    cases k with
    | zero =>
      obtain rfl : b = a := by simpa using ha
      simp [List.flatMap_cons, h]
    | succ k =>
      rw [List.flatMap_cons, List.drop_append, List.drop_eq_nil_of_le (by rw [h, Nat.succ_mul]; omega), h, List.nil_append,
        Nat.succ_mul, Nat.add_sub_cancel]
      exact ih k (by simpa using ha)

@[simp] theorem State.stateReply_length (s : State) : s.stateReply.length = 34 := by simp [State.stateReply]
@[simp] theorem State.eventsReply_length (s : State) (p : Port) : (s.eventsReply p).length = 13 := by
  simp [State.eventsReply]
@[simp] theorem Plan.reply_length (p : Plan) : p.reply.length = 20 := by simp [Plan.reply]
@[simp] theorem State.planReply_length (s : State) : s.planReply.length = 59 := by simp [State.planReply]
@[simp] theorem pendingReply_length (m : Option PendingMove) : (pendingReply m).length = 3 := by
  cases m <;> simp [pendingReply]
@[simp] theorem ActRecord.reply_length (r : ActRecord) : r.reply.length = 9 := by simp [ActRecord.reply]
@[simp] theorem State.lensReply_length (s : State) : s.lensReply.length = 53 := by simp [State.lensReply]
@[simp] theorem peakReply_length (p : Option Peak) : (peakReply p).length = 4 := by cases p <;> simp [peakReply]
@[simp] theorem SweepEntry.reply_length (e : SweepEntry) : e.reply.length = 9 := by simp [SweepEntry.reply]
@[simp] theorem ShiftAxis.reply_length (x : ShiftAxis) : x.reply.length = 19 := by simp [ShiftAxis.reply]
@[simp] theorem State.stabReply_length (s : State) : s.stabReply.length = 81 := by simp [State.stabReply]
@[simp] theorem streamReply_length (x : Option Stream) : (streamReply x).length = 10 := by
  cases x <;> simp [streamReply]
@[simp] theorem endReply_length (x : Option LastEnd) : (endReply x).length = 3 := by cases x <;> simp [endReply]
@[simp] theorem State.storePortReply_length (s : State) (p : Port) : (s.storePortReply p).length = 18 := by
  simp [State.storePortReply]
@[simp] theorem State.storeReply_length (s : State) : s.storeReply.length = 66 := by simp [State.storeReply]
@[simp] theorem Slot.reply_length (x : Slot) (i : Nat) : (x.reply i).length = 13 := by simp [Slot.reply]
@[simp] theorem recordId_length (r : Option (Word32 × Nat)) : (recordId r).length = 5 := by
  cases r <;> simp [recordId]
@[simp] theorem State.queueReply_length (s : State) : s.queueReply.length = 22 := by simp [State.queueReply]
@[simp] theorem residualReply_length (x : Option Residual) : (residualReply x).length = 5 := by
  cases x <;> simp [residualReply]
@[simp] theorem CaptureRecord.reply_length (r : CaptureRecord) : r.reply.length = 58 := by
  simp [CaptureRecord.reply]
@[simp] theorem State.recordReply_length (s : State) : s.recordReply.length = 59 := by
  unfold State.recordReply; split <;> simp

end Sys2Proof.Machine
end

