-- ==== Sys2Proof/WellFormed.lean ====
section
/-! DEFINITION. Which command terms the wires can carry. -/

namespace Sys2Proof

/-- A payload length is one byte, and a length above 250 carries no payload that is read (R174). -/
def payloadOk (payload : List Byte) : Bool := payload.length ≤ 255

/-- Which terms stand for a command the block can receive. -/
def Instr.wellFormed : Instr → Bool
  | .badCommandRequest _ n => n.toNat = 0 || 43 < n.toNat
  | .pixelData _ bytes => bytes.length ≤ 2
  | .tableLoadEnd image => image.length = 408
  | .prepare _ l | .unprepare _ l | .shoot _ l | .stopBurst _ l | .setPattern _ l | .readStatistics _ l | .aeLock _ l
  | .aeUnlock _ l | .getPlan _ l | .extend _ l | .retract _ l | .zoomTo _ l | .zoomRun _ l | .zoomHalt _ l | .focusTo _ l
  | .getLensState _ l | .afStart _ l | .afCancel _ l | .readSweepLog _ l | .calibrateBias _ l | .calCancel _ l
  | .stabRestart _ l | .getStabState _ l | .openDrain _ l | .openReview _ l | .closeStream _ l | .rejoin _ l
  | .releaseSlot _ l | .clearStore _ l | .getStoreState _ l | .readSlots _ l | .takeRecord _ l | .queueStatus _ l
  | .setSettings _ l | .getSettings _ l | .getState _ l | .nudge _ l | .softReset _ l | .readEvents _ l | .ackEvents _ l
  | .setEventMask _ l | .clearOccurrences _ l | .reloadTable _ l => payloadOk l
  | .powerOnReset | .transactionStart _ | .transactionEnd _ | .replyReady _ | .replyEnd _ | .quietTimer1Expiry
  | .quietTimer2Expiry | .liveSettingsTransfer | .settingsAcknowledgement _ | .liveExposureStart | .liveExposureEnd
  | .frameEndMarker | .readoutTimeout | .captureRelease | .secondTransferTimeout | .captureTrigger | .closeCommand
  | .captureExposureEnd | .reopenSettleExpiry | .abortReopen | .actuatorStep _ _ | .gyroSampleReceived _ _
  | .gyroSampleMissed | .recenterTick | .calibrationTimeout | .storeStartupEnd | .trickleExpiry | .grantEnd | .dramWake
  | .streamByte _ | .stallLimitExpiry _ | .staleTimerExpiry | .linkByteEnd _ _ => true

end Sys2Proof
end

