-- ==== Sys2Proof/Tests/Slice0.lean ====
section
/-! SUPPORT. Tests: the refusals of well-formedness, the manual's tables and worked examples, one step of each command, and for
every statement with hypotheses states that meet them. Expected values are the manual's. -/

open Sys2Proof Sys2Proof.Machine

namespace Sys2Proof.Tests

set_option Elab.async false

/-! ### Well-formedness -/

theorem test_wf_refuses_known_number : (Instr.badCommandRequest .a 43#8).wellFormed = false := by decide +kernel
theorem test_wf_takes_unknown_number :
    (Instr.badCommandRequest .a 44#8).wellFormed = true ∧ (Instr.badCommandRequest .a 0#8).wellFormed = true := by decide +kernel
theorem test_wf_refuses_three_bytes_of_a_sample : (Instr.pixelData 5#12 [1, 2, 3]).wellFormed = false := by decide +kernel
theorem test_wf_refuses_short_image : (Instr.tableLoadEnd (List.replicate 407 0)).wellFormed = false := by decide +kernel
theorem test_wf_refuses_payload_of_256 : (Instr.shoot .b (List.replicate 256 0)).wellFormed = false := by decide +kernel

/-- The table gives no row bits, so no word spells a command. -/
theorem test_no_word_spells_a_command : decodeTableWord 8 37 = none := by decide +kernel

/-! ### Tables of the manual -/

/-- Table 3-6. -/
theorem test_micros_of_time_codes :
    [80, 85, 160, 167, 176, 199, 215, 220, 221, 320].map microsOf =
      [32, 42, 1024, 1472, 2048, 5888, 11776, 14336, 14848, 1048576] := by decide +kernel

/-- Table 1-2. -/
theorem test_tlive_of_periods : [8000, 16667, 33333, 100000].map tliveOf = [199, 220, 238, 263] := by decide +kernel

/-- Table 3-4. -/
theorem test_log_light :
    [0, 1, 3, 40, 64, 640, 1000, 3968, 4032, 4095].map logLight = [0, 0, 24, 84, 96, 148, 159, 191, 191, 191] := by decide +kernel

/-- Table 3-5. -/
theorem test_pmax : [48, 56, 79, 90, 100].map (fun a => pmaxOf a 96) = [6, 5, 2, 0, 0] := by decide +kernel

/-- Table 2-3. -/
theorem test_geometry_values :
    [5184, 100, 96, 9000].map nearestWidth = [5184, 128, 64, 8192] ∧ [3889, 40].map nearestHeight = [3888, 64] := by decide +kernel

/-- Table 4-4. -/
theorem test_interpolation :
    interpAt defaultTable 1488 = knotOf 79 168 424 618 3135 390 ∧
    interpAt defaultTable 1500 = knotOf 79 167 427 623 3161 398 ∧
    interpAt defaultTable 1504 = knotOf 79 167 428 625 3170 400 ∧ interpAt defaultTable 2048 = knotAt defaultTable 32 := by
  decide +kernel

/-- Table 10-2: none, the byte 0, the nine characters 1 to 9. -/
theorem test_crc :
    crcOf [] = 0xFFFF#16 ∧ crcOf [0x00] = 0xE1F0#16 ∧
      crcOf [0x31, 0x32, 0x33, 0x34, 0x35, 0x36, 0x37, 0x38, 0x39] = 0x29B1#16 := by decide +kernel

/-- Table 2-8: the zones of the corners of the default frame, and the AF window of Section 2.7. -/
theorem test_zones_of_the_default_frame :
    meterZone State.reset.geometry 776 739 = 0 ∧ meterZone State.reset.geometry 777 740 = 8 ∧
      meterZone State.reset.geometry 3887 5183 = 34 ∧ windowBound 5184 32 = 1728 ∧ windowBound 3888 64 = 2592 ∧
      afZoneOf State.reset.geometry 1296 1728 = some 0 ∧ afZoneOf State.reset.geometry 2591 3455 = some 8 ∧
      afZoneOf State.reset.geometry 2592 3455 = none := by decide +kernel

/-- Table 2-9, with zone sums of one sample each. -/
theorem test_weighted_mean :
    (fun z => (weightedMean (defaultPatterns.getD 0 []) z, weightedMean (defaultPatterns.getD 1 []) z,
      weightedMean (defaultPatterns.getD 2 []) z, weightedMean (List.replicate 35 0) z))
      ((defaultPatterns.getD 0 []).map (fun w =>
        { sum := if w = 8 then 1200 else if w = 4 then 800 else 300, count := 1, min := 0, max := 0, high := 0 : Zone })) =
      (651, 440, 1200, 440) := by decide +kernel

/-- Table 6-4, with −32,768 negated to 32,767. -/
theorem test_orientation :
    mapRates 90 5 7 = (7, -5) ∧ mapRates 180 5 7 = (-5, -7) ∧ mapRates 270 5 (-32768) = (32767, 5) := by decide +kernel

/-- Table 6-6 at its boundaries. -/
theorem test_grades : [255, 256, 1023, 1024, 4095, 4096].map gradeOf = [0, 1, 1, 2, 2, 3] := by decide +kernel

/-- Table 9-3: the 43 commands, by their numbers. -/
theorem test_command_numbers :
    requestRows.length = 43 ∧ requestOf .a 3 [7] = .shoot .a [7] ∧ requestOf .b 24 [7] = .openDrain .b [7] ∧
      requestOf .c 43 [] = .reloadTable .c [] ∧ requestOf .a 44 [] = .badCommandRequest .a 44 ∧
      requestOf .a 0 [] = .badCommandRequest .a 0 := by decide +kernel

/-! ### Worked cases of exposure planning -/

/-- Inputs of worked case 1 (Table 3-7): z 1504, Qreq 168, Gmax 80, Tcap 215, Tlive 220. -/
def case1 : PlanInputs :=
  { qraw := 168, qreq := 168, amin := 79, pmax := 2, gmax := 80, program := .auto, userT := 176, userIris := 0, userG := 0 }

theorem test_plans_at_the_long_end :
    captureSplit case1 215 = { t := 215, p := 0, g := 32 } ∧ liveSplit case1 0 220 = { t := 220, p := 0, g := 27 } ∧
      (planOf case1 { t := 215, p := 0, g := 32 } 215 48).q = 168 ∧
      (planOf { case1 with gmax := 64 } (captureSplit { case1 with gmax := 64 } 167) 167 0).isUnder = true := by decide +kernel

/-- Table 3-8: the bright scene. -/
theorem test_plans_of_a_bright_scene :
    captureSplit { case1 with qraw := -3, qreq := -3, amin := 48, pmax := 6 } 215 = { t := 85, p := 5, g := 0 } := by decide +kernel

/-- Table 6-7: axis X over three samples, and the negative rate below it. -/
theorem test_angle_over_three_samples :
    (fun x : ShiftAxis => (x.theta, x.target)) (((((ShiftAxis.zero.integrate 1280 40 11).integrate 1280 40 11).integrate 1280 40
        11).shifted 3170 1200)) = (61292, 11) ∧
      ((ShiftAxis.zero.integrate (-1280) 40 11).integrate (-1280) 40 11).theta = -41029 ∧
      (({ ShiftAxis.zero with theta := 7000000 }).shifted 3170 1200).excess = 122 := by decide +kernel

/-- Section 6.14: the mean of the run. -/
theorem test_calibration_mean :
    CalRecord.mean { Stabilizer.powerOn.cal with count := 6999, sumX := 20997, sumY := -9000 } = (48, -21) := by decide +kernel

/-! ### Small states

Lens out at the wide end, Frame Control live, the store ready, the clock at 10 ms. -/

/-- An actuator at rest. -/
def still (p : Int) : ActRecord :=
  { pos := some p, target := some p, inFlight := false, origin := .link, speed := 0, pending := none, stepAt := none }

/-- The lens at zoom 256, d 32. -/
def lens256 : Lens :=
  { Lens.powerOn with
    state := .ready, drive := .none, zoom := still 256, focus := still 114, iris := still 0, d := some 32,
    iv := knotOf 48 232 96 240 300 24 }

def store0 : Store := { Store.powerOn with state := .ready, startup := none, trickle := some 1007800 }

def ready : State :=
  { State.reset with
    clock := 1000000, fc := { FrameControl.powerOn with state := .live, started := true }, lens := lens256, store := store0,
    ep := { Planner.powerOn with given := some (48, 232) },
    loader := { Loader.powerOn with loading := none, source := .flash, result := .passed }, outs := [] }

/-- The next state of a command. -/
def after (i : Instr) (s : State) : State :=
  match exec i s with
  | .next t => t
  | _ => s

/-- The status and the payload of the reply that Port A holds. -/
def replyOf (s : State) : List Nat :=
  match s.links.txn.a with
  | .preparing r _ => r.bytes.map BitVec.toNat
  | _ => []

def withFrames (f : FrameControl → FrameControl) : State := { ready with fc := f ready.fc }
def withLens (f : Lens → Lens) : State := { ready with lens := f ready.lens }
def withFocus (f : FocusSearch → FocusSearch) : State := { ready with af := f ready.af }
def withStab (f : Stabilizer → Stabilizer) : State := { ready with stab := f ready.stab }
def withStores (f : Store → Store) : State := { ready with store := f ready.store }
def withStats (f : Statistics → Statistics) : State := { ready with st := f ready.st }
def withPlanner (f : Planner → Planner) : State := { ready with ep := f ready.ep }
def withRecords (f : RecordQueue → RecordQueue) : State := { ready with rq := f ready.rq }
def withTxn (x : Txn) : State := { ready with links := { ready.links with txn := ready.links.txn.set .a x } }

/-- A sharp sample record of capture 5 in slot 2. -/
def record5 : CaptureRecord :=
  { capNo := 5, slot := 2, burstIndex := 1, mode := .single,
    startPart := {
      seq := 9, stamp := 100, t := 160, a := 48, g := 3, q := 115, isOver := false, isUnder := false, settingsLate := false,
       zoom := 256, focal := 24, focus := 114, d := some 32, afState := .locked, afZone := 4,
      stabState := .active },
    endPart := { stamp := 200, residual := none },
    readPart := { m := 640, h := 0, f := 77, timedOut := false, bytes := 16, incomplete := false } }

/-- An open record in its readout. -/
def open6 : OpenRecord :=
  { capNo := 6, slot := 3, burstIndex := 1, mode := .single, phase := .reading, withdrawn := false,
    startPart := some record5.startPart, endPart := some record5.endPart }

def plan0 : Plan := { Plan.none with formed := true, t := 160, a := 48, amin := 48, g := 8, q := 120, qraw := 120, tcap := 215 }

def transfer7 : Transfer := { id := 7, values := { t := 160, g := 8, kind := .capture, gmax := 80 } }

/-- A capture waiting for its release at 10 ms; T 160 is 1,024 µs, the close travel 2,200 µs. -/
def cap0 : Capture :=
  { mode := .single, plan := plan0, supportOff := true, lead := 150000, travel := 220000, transfer := transfer7,
    second := none, acked := true, late := false, releaseAt := some 1000000, secondAt := none, released := 0,
    triggerAt := none, closeAt := none, closed := none }

def frame0 (kind : FrameKind) (phase : FramePhase) : InputFrame := { kind := kind, phase := phase, limit := 1002000 }

/-- A live frame of 64 × 64 samples in its readout. -/
def fip0 : FrameInProgress :=
  { seq := 9, stamp := 50, kind := .live, t := 160, a := 48, g := 8, q := 120,
    flags := {
      incomplete := false, settingsLate := false, irisMoved := false, focusMoved := false, zoomMoved := false,
      recentered := false, capture := false },
    spanOpen := false,
    geo := { w := 64, h := 64, phase := 0, clip := 4000, contrast := 48, left := 32, top := 32, width := 32, height := 32 },
    samples := 0, prev := none }

/-- A slot with 16 bytes. -/
def slot16 (x : SlotState) : Slot :=
  { state := x, capNo := some 5, bytes := 16, incomplete := false, pins := 0, drainPort := none }

/-- A store whose slot 2 is as given. -/
def withSlot (x : Slot) : State := withStores (fun b => { b with slots := b.slots.set 2 x })

def stream16 (kind : StreamKind) : Stream := { kind := kind, slot := 2, next := 0, endOff := 16, stall := none }

/-- A stream of slot 2 on Port A. -/
def withStream (x : Slot) (y : Stream) (fifo : List Byte) : State :=
  withStores (fun b => { b with
    slots := b.slots.set 2 x, streams := b.streams.set .a (some y), fifos := b.fifos.set .a fifo })

/-! ### One step of each command: requests -/

theorem test_power_on : (after .powerOnReset ready).lens.state = .homing ∧ (after .powerOnReset ready).epoch = 1 := by
  decide +kernel

theorem test_bad_command : replyOf (after (.badCommandRequest .a 44) ready) = [0x5A, 6, 0] := by decide +kernel

theorem test_prepare :
    (after (.prepare .b []) ready).fc.prepare.b = true ∧ (after (.prepare .b []) ready).af.state = .coarse ∧
      replyOf (after (.prepare .a [1]) ready) = [0x5A, 5, 0] := by decide +kernel

theorem test_unprepare :
    (after (.unprepare .b []) (after (.prepare .b []) ready)).fc.prepare.b = false ∧
      (after (.unprepare .b []) (after (.prepare .b []) ready)).af.result = .aborted := by decide +kernel

theorem test_shoot :
    (after (.shoot .a [3]) ready).fc.owed = 3 ∧ replyOf (after (.shoot .a [3]) ready) = [0x5A, 0, 0] ∧
      (after (.shoot .a [33]) ready).fc.owed = 32 ∧ replyOf (after (.shoot .a [33]) ready) = [0x5A, 1, 0] ∧
      (after (.shoot .a [0]) ready).fc.continuous = true ∧ replyOf (after (.shoot .a [3]) State.reset) = [0x5A, 3, 0] := by
  decide +kernel

theorem test_stop_burst :
    (after (.stopBurst .a []) (withFrames (fun c => { c with owed := 4 }))).fc.owed = 0 ∧
      (after (.stopBurst .a []) (withFrames (fun c => { c with owed := 4 }))).links.occ = 0x400 := by decide +kernel

theorem test_set_pattern :
    (after (.setPattern .a (2 :: List.replicate 35 16)) ready).st.patterns.getD 2 [] = List.replicate 35 15 ∧
      replyOf (after (.setPattern .a (3 :: List.replicate 35 1)) ready) = [0x5A, 4, 0] := by decide +kernel

theorem test_read_statistics :
    replyOf (after (.readStatistics .a [0, 0]) ready) = 0x5A :: 0 :: 50 :: List.replicate 50 0 ∧
      (replyOf (after (.readStatistics .a [1, 34]) ready)).length = 3 + 24 := by decide +kernel

theorem test_ae_lock :
    (after (.aeLock .a []) ready).ep.lock = .command ∧ (after (.aeUnlock .a []) (after (.aeLock .a []) ready)).ep.lock = .none := by
  decide +kernel

theorem test_get_plan : (replyOf (after (.getPlan .a []) ready)).drop 43 =
    [0, 120, 0, 120, 0, 0, 0, 0, 0, 0, 0, 1, 0, 48, 0, 232, 0, 220, 0] := by decide +kernel

theorem test_extend :
    (after (.extend .a []) (withLens (fun l => { l with state := .stowed, zoom := still 0 }))).lens.state = .extending ∧
      replyOf (after (.extend .a []) (withLens (fun l => { l with state := .stowed, zoom := still 0 }))) = [0x5A, 2, 0] ∧
      replyOf (after (.extend .a []) State.reset) = [0x5A, 3, 0] := by decide +kernel

theorem test_retract :
    (after (.retract .a []) ready).lens.state = .retracting ∧ (after (.retract .a []) ready).lens.focus.target = some 40 := by
  decide +kernel

theorem test_zoom_to :
    (after (.zoomTo .a [4, 0, 2]) ready).lens.zoom.target = some 1024 ∧
      (after (.zoomTo .a [0, 0, 2]) ready).lens.zoom.target = some 256 ∧
      replyOf (after (.zoomTo .a [0, 0, 2]) ready) = [0x5A, 1, 0] ∧
      replyOf (after (.zoomTo .a [4, 0, 5]) ready) = [0x5A, 4, 0] := by decide +kernel

theorem test_zoom_run_and_halt :
    (after (.zoomRun .a [0, 1]) ready).lens.zoom.target = some 2048 ∧
      (after (.zoomHalt .a []) (after (.zoomRun .a [0, 1]) ready)).lens.zoom.target = some 256 ∧
      (after (.zoomHalt .a []) (after (.zoomRun .a [0, 1]) ready)).links.occ = 0x80 := by decide +kernel

/-- R82 with Section 4.11: at zoom 256, inf 96 and near 240. -/
theorem test_focus_to :
    (after (.focusTo .a [0, 240]) ready).lens.d = some 255 ∧ (after (.focusTo .a [0, 96]) ready).lens.d = some 0 ∧
      (after (.focusTo .a [4, 0]) ready).lens.focus.target = some 1023 := by decide +kernel

theorem test_get_lens_state : (replyOf (after (.getLensState .a []) ready)).take 8 = [0x5A, 0, 53, 3, 0, 1, 1, 0] := by
  decide +kernel

theorem test_af_start_and_cancel :
    (after (.afStart .a []) ready).af.state = .coarse ∧ (after (.afStart .a []) ready).af.lo = 64 ∧
      (after (.afCancel .a []) (after (.afStart .a []) ready)).af.result = .aborted := by decide +kernel

theorem test_read_sweep_log :
    (replyOf (after (.readSweepLog .a [63]) ready)).length = 3 + 18 ∧
      replyOf (after (.readSweepLog .a [64]) ready) = [0x5A, 4, 0] := by decide +kernel

theorem test_calibrate_bias_and_cancel :
    (after (.calibrateBias .a []) ready).stab.state = .calibrating ∧
      (after (.calCancel .a []) (after (.calibrateBias .a []) ready)).stab.cal.status = .aborted := by decide +kernel

theorem test_stab_restart :
    (after (.stabRestart .a []) (withStab (fun x => { x with state := .faulted, cause := .missing }))).stab.state = .active ∧
      (after (.stabRestart .a []) (withStab (fun x => { x with state := .faulted, cause := .missing }))).stab.cause = .none := by
  decide +kernel

theorem test_get_stab_state : (replyOf (after (.getStabState .a []) ready)).take 6 = [0x5A, 0, 81, 0, 1, 0] := by
  decide +kernel

theorem test_open_drain :
    ((after (.openDrain .a [2]) (withSlot (slot16 .full))).store.slotAt 2).state = .draining ∧
      replyOf (after (.openDrain .a [2]) (withSlot (slot16 .full))) = [0x5A, 2, 0] ∧
      replyOf (after (.openDrain .a [2]) ready) = [0x5A, 3, 0] := by decide +kernel

theorem test_open_review :
    ((after (.openReview .b [2, 0, 0, 0, 4, 0, 0, 0, 20]) (withSlot (slot16 .spent))).store.slotAt 2).pins = 1 ∧
      (after (.openReview .b [2, 0, 0, 0, 4, 0, 0, 0, 20]) (withSlot (slot16 .spent))).store.streams.b.map Stream.endOff =
        some 16 ∧
      replyOf (after (.openReview .a [2, 0, 0, 0, 4, 0, 0, 0, 20]) (withSlot (slot16 .spent))) = [0x5A, 1, 0] := by
  decide +kernel

theorem test_close_stream :
    ((after (.closeStream .a []) (withStream { slot16 .draining with drainPort := some .a } (stream16 .drain) [1])).store.slotAt
        2).state = .full := by decide +kernel

theorem test_rejoin :
    (after (.rejoin .a []) (withStores (fun b => { b with cut := PerPort.all true }))).store.cut =
      { a := false, b := true, c := true } := by decide +kernel

theorem test_release_slot :
    ((after (.releaseSlot .a [2]) (withSlot (slot16 .spent))).store.slotAt 2).state = .free ∧
      replyOf (after (.releaseSlot .a [2]) ready) = [0x5A, 3, 0] := by decide +kernel

theorem test_clear_store :
    (after (.clearStore .a []) (withSlot (slot16 .full))).store.slots = List.replicate 32 Slot.freed ∧
      (after (.clearStore .a []) (withSlot (slot16 .full))).links.occ = 0x1000 := by decide +kernel

theorem test_get_store_state : (replyOf (after (.getStoreState .a []) ready)).take 7 = [0x5A, 0, 66, 1, 0, 0, 32] := by
  decide +kernel

theorem test_read_slots :
    (replyOf (after (.readSlots .a [31]) ready)).length = 3 + 15 ∧ replyOf (after (.readSlots .a [32]) ready) = [0x5A, 4, 0] := by
  decide +kernel

theorem test_take_record :
    (replyOf (after (.takeRecord .a []) (withRecords (fun q => { q with queue := [record5] })))).take 12 =
      [0x5A, 0, 59, 1, 1, 1, 0, 0, 0, 5, 2, 1] := by decide +kernel

theorem test_queue_status : (replyOf (after (.queueStatus .a []) ready)).take 7 = [0x5A, 0, 22, 0, 1, 20, 0] := by
  decide +kernel

/-- Setting 7, Burst Mode: Burst-high is code 2, and 3 is no code. -/
theorem test_set_settings :
    (after (.setSettings .a [7, 0, 0, 0, 2]) ready).setting 7 = 2 ∧
      replyOf (after (.setSettings .a [7, 0, 0, 0, 3]) ready) = [0x5A, 4, 0] ∧
      (after (.setSettings .a [31, 0xFF, 0xFF, 0xFF, 0xFF]) ready).setting 31 = 0 := by decide +kernel

theorem test_get_settings :
    replyOf (after (.getSettings .a [57, 50]) ready) = [0x5A, 0, 5, 57, 0, 0, 0, 20] ∧
      replyOf (after (.getSettings .a [58, 1]) ready) = [0x5A, 4, 0] := by decide +kernel

theorem test_get_state : (replyOf (after (.getState .a []) ready)).take 7 = [0x5A, 0, 34, 0, 0, 0x27, 0x10] := by
  decide +kernel

theorem test_nudge : (after (.nudge .a []) ready).fc.quiet1 = some 3001000000 := by decide +kernel

theorem test_soft_reset :
    (after (.softReset .a []) (withFrames (fun c => { c with owed := 9, fseq := 77 }))).fc.owed = 0 ∧
      (after (.softReset .a []) (withFrames (fun c => { c with owed := 9, fseq := 77 }))).fc.fseq = 77 := by decide +kernel

theorem test_read_events : replyOf (after (.readEvents .a []) ready) = 0x5A :: 0 :: 13 :: List.replicate 13 0 := by
  decide +kernel

/-- A port with every kind pending and enabled acknowledges all but QUEUE_READY. -/
theorem test_event_sets :
    let s := { ready with links :=
      { ready.links with pend := PerPort.all 0xFFFFF, mask := PerPort.all 0xFFFFF, line := PerPort.all true, occ := 0xFFFFF } }
    replyOf (after (.ackEvents .a [0, 0x0F, 0xFF, 0xFD]) s) = [0x5A, 0, 4, 0, 0, 0, 2] ∧
      replyOf (after (.ackEvents .a [0, 0x10, 0, 0]) s) = [0x5A, 4, 0] ∧
      (after (.setEventMask .a [0, 0, 0, 0]) s).links.line = { a := false, b := true, c := true } ∧
      (after (.clearOccurrences .a [0, 0, 0, 1]) s).links.occ = 0xFFFFE := by decide +kernel

theorem test_reload_table :
    (after (.reloadTable .a []) (withLens (fun l => { l with state := .stowed }))).loader.loading = some 1026368 ∧
      replyOf (after (.reloadTable .a []) ready) = [0x5A, 3, 0] := by decide +kernel

/-! ### One step of each command: links and events -/

theorem test_transaction :
    (after (.transactionStart .b) ready).links.txn.b = .command ∧
      (after (.transactionEnd .b) (after (.transactionStart .b) ready)).links.txn.b = .deselected := by decide +kernel

/-- SHOOT 1 on Port A, byte by byte. -/
theorem test_link_bytes :
    (after (.linkByteEnd .a 1) (after (.linkByteEnd .a 1) (after (.linkByteEnd .a 3) (withTxn .command)))).fc.owed = 1 := by
  decide +kernel

theorem test_reply_sent :
    (after (.linkByteEnd .a 0) (after (.replyReady .a) (after (.readEvents .a []) ready))).outs = [.dataOut .a 0x5A#8] := by
  decide +kernel

theorem test_reply_end :
    (after (.replyEnd .a) { withRecords (fun q => { q with queue := [record5] }) with
      links := (withTxn (.reply { bytes := [0x5A], takes := some 5 } 0)).links }).rq.queue = [] := by decide +kernel

theorem test_quiet_timers :
    (after .quietTimer1Expiry (withFrames (fun c => { c with quiet1 := some 1000000 }))).fc.cadence = .liveSlow ∧
      (after .quietTimer2Expiry (withFrames (fun c => { c with cadence := .liveSlow, quiet2 := some 1000000 }))).fc.cadence =
        .still := by decide +kernel

/-- R9: one period of 16,667 µs less the lead of 1,500 µs after 10 ms. -/
theorem test_live_transfer :
    (after .liveSettingsTransfer (withFrames (fun c => { c with next := .planned 1000000 150000 }))).clock = 2516700 := by
  decide +kernel

theorem test_live_start :
    (after .liveExposureStart (withFrames (fun c => { c with next := .sent 1000000 transfer7 true }))).fc.fseq = 1 ∧
      (after .liveExposureStart (withFrames (fun c => { c with next := .sent 1000000 transfer7 false }))).links.occ = 0x8000 := by
  decide +kernel

theorem test_exposure_ends :
    (after .liveExposureEnd (withFrames (fun c => { c with frame := some (frame0 .live .exposing) }))).fc.frame.map
        InputFrame.limit = some 9002000 ∧
      (after .captureExposureEnd (withFrames (fun c =>
        { c with frame := some (frame0 .capture .exposing), state := .exposing, cap := some cap0 }))).fc.state = .reading := by
  decide +kernel

theorem test_acknowledgement :
    (after (.settingsAcknowledgement 0) (withFrames (fun c => { c with xfers := [transfer7] }))).fc.inEffect =
      { t := 160, g := 8, kind := .capture, gmax := 80 } := by decide +kernel

/-- Table 2-2, Phase 0: sample 0 of row 0 is green, sample 1 is not. -/
theorem test_pixel_data :
    let s := { withFrames (fun c => { c with frame := some (frame0 .live .reading) }) with
      st := { Statistics.powerOn with fip := some fip0 } }
    ((after (.pixelData 4095 []) (after (.pixelData 100 []) s)).st.active.zones.getD 0 Zone.cleared) =
      { sum := 100, count := 1, min := 100, max := 100, high := 0 } := by decide +kernel

/-- R11: with no frame in readout a marker is ignored. -/
theorem test_frame_end_marker :
    (after .frameEndMarker (withFrames (fun c => { c with frame := some (frame0 .live .exposing) }))).fc.frame =
      some (frame0 .live .exposing) := by decide +kernel

/-- Table 1-8: t = 1,024 µs is below the close travel of 2,200 µs, so the close command comes first, the trigger 1,176 µs later. -/
theorem test_capture_release :
    let s := withFrames (fun c => { c with state := .arming, cap := some cap0 })
    (after .captureRelease s).outs = [.closeShutter] ∧
      ((after .captureRelease s).fc.cap.bind Capture.triggerAt) = some 1117600 := by decide +kernel

theorem test_second_transfer_timeout :
    (after .secondTransferTimeout (withFrames (fun c =>
      { c with state := .arming, cap := some { cap0 with releaseAt := none, secondAt := some 1150000 } }))).links.occ = 0x8000 := by
  decide +kernel

theorem test_capture_trigger_and_close :
    (after .captureTrigger (withFrames (fun c =>
        { c with state := .arming, cap := some { cap0 with triggerAt := some 1117600 } }))).fc.state = .exposing ∧
      (after .closeCommand (withFrames (fun c =>
        { c with state := .exposing, cap := some { cap0 with closeAt := some 1117600 } }))).fc.shutter = .closing := by
  decide +kernel

theorem test_reopen :
    (after .abortReopen (withFrames (fun c => { c with reopenAt := some 1000000 }))).fc.settle = some 2200000 ∧
      (after .reopenSettleExpiry (withFrames (fun c => { c with state := .reopening, settle := some 1000000 }))).fc.state = .live := by
  decide +kernel

theorem test_actuator_step :
    (after (.actuatorStep .zoom .away) (after (.zoomTo .a [4, 0, 2]) ready)).lens.zoom.pos = some 257 ∧
      (after (.actuatorStep .zoom .home) (withLens (fun l =>
        { l with state := .homing, drive := .homeIn 3, zoom := { still 3 with stepAt := some 1000000 } }))).lens.zoom.pos =
        some 0 := by decide +kernel

theorem test_gyro :
    (after (.gyroSampleReceived 7 (-5)) (withStab (fun x => { x with gyro := some 1050000 }))).stab.last.map GyroSample.y =
        some (-5) ∧
      (after .gyroSampleMissed (withStab (fun x => { x with missed := 3 }))).stab.cause = .missing := by decide +kernel

/-- Table 6-3: above half of the limit of 1,200 the tick adds one. -/
theorem test_recenter_tick :
    (after .recenterTick (withStab (fun x =>
        { x with tick := some 1000000, x := { ShiftAxis.zero with target := 601 } }))).stab.backlog = 1 ∧
      (after .recenterTick (withStab (fun x =>
        { x with tick := some 1000000, x := { ShiftAxis.zero with target := 600 } }))).stab.backlog = 0 := by decide +kernel

theorem test_calibration_timeout :
    (after .calibrationTimeout (withStab (fun x => { x with
      state := .calibrating,
      cal := { x.cal with status := .minMet, count := 6999, sumX := 20997, sumY := -9000, limit := some 1000000 } }))).stab.biasY =
      -21 := by decide +kernel

theorem test_store_startup :
    (after .storeStartupEnd State.reset).store.backlog = 3 ∧ (after .storeStartupEnd State.reset).clock = 21000 := by
  decide +kernel

theorem test_trickle_and_wake :
    (after .trickleExpiry ready).store.trickle = some 1008580 ∧ (after .trickleExpiry ready).store.backlog = 1 ∧
      (after .dramWake (withStores (fun b => { b with urgent := true, wake := some 1000100 }))).store.grant.map Grant.who =
        some .refresh := by decide +kernel

theorem test_grant_end :
    (after .grantEnd (withStores (fun b => { b with
      buf := [(5, 0xAB#8)], remnant := 1,
      grant := some { who := .ingest, bytes := 1, endAt := 1000008, discard := false } }))).dramByte 5 = 0xAB#8 := by
  decide +kernel

theorem test_stream_byte :
    (after (.streamByte .a) ready).outs = [.stream .a none] ∧
      (after (.streamByte .a) (withStream { slot16 .draining with drainPort := some .a }
        { stream16 .drain with next := 16 } [9])).outs = [.stream .a (some 9#8)] := by decide +kernel

theorem test_stall_limit :
    (after (.stallLimitExpiry .a) (withStream { slot16 .draining with drainPort := some .a }
      { stream16 .drain with stall := some 1000000 } [9])).store.cut = { a := true, b := false, c := false } := by decide +kernel

theorem test_stale_timer :
    (after .staleTimerExpiry (withRecords (fun q => { q with stale := some 1000000 }))).links.occ = 4 := by decide +kernel

set_option maxRecDepth 20000 in
/-- An erased flash: the CRC does not match, and the default table stands. -/
theorem test_table_load :
    (after (.tableLoadEnd (List.replicate 408 0xFF)) State.reset).loader.result = .crcMismatch ∧
      (after (.tableLoadEnd (List.replicate 408 0xFF)) State.reset).lens.drive = .homeStop 1100 8 := by decide +kernel

/-! ### States that meet the hypotheses of each statement, clause by clause -/

def reply3 (takes : Option Word32) : Reply := { bytes := [0x5A, 0, 0], takes := takes }

/-- A gyro request whose moment has come and that has not gone out. -/
def unasked : State := { State.reset with stab := { State.reset.stab with asked := false } }

/-- R113: the request at power-on has gone out, and the next one goes out 500 µs before its end. -/
theorem test_gyro_request :
    State.reset.stab.asked = true ∧ (after (.gyroSampleReceived 7 (-5)) ready).stab.asked = false ∧
      (after (.gyroSampleReceived 7 (-5)) ready).stab.gyro = some 100000 := by
  decide +kernel

theorem witness_IdleStepCountsTimeOrQueuesDueEvent :
    State.reset.pending = [] ∧ State.reset.dueCommands = [] ∧
      ({ State.reset with clock := 21000 } : State).dueCommands = [.storeStartupEnd] ∧ State.reset.requestDue = false ∧
      unasked.pending = [] ∧ unasked.dueCommands = [] ∧ unasked.requestDue = true := by decide +kernel

theorem witness_EveryCommandCompletes : (Instr.nudge .a []) ≠ .powerOnReset := by decide

theorem witness_TransactionsFollowSelectAndByteTimes :
    ready.links.txn.get .a = .deselected ∧
      (withTxn (.preparing (reply3 none) 4000)).links.txn.get .a = .preparing (reply3 none) 4000 ∧
      (withTxn (.reply (reply3 none) 1)).links.txn.get .a = .reply (reply3 none) 1 ∧ 1 + 1 < (reply3 none).bytes.length ∧
      (withTxn (.reply (reply3 none) 2)).links.txn.get .a = .reply (reply3 none) 2 ∧ 2 + 1 = (reply3 none).bytes.length ∧
      (reply3 none).takes = none ∧ (withTxn .finished).links.txn.get .a = .finished := by decide

theorem witness_RequestIsTakenAtItsLastByte :
    (withTxn .command).links.txn.get .a = .command ∧ [7#8].length = 1 ∧ (List.replicate 250 0#8).length = 250 ∧
      ([] : List Byte).length = 0 ∧ (List.replicate 251 0#8).length = 251 ∧ (List.replicate 255 0#8).length = 255 := by
  decide +kernel

theorem witness_TakesAndStaleTimerMoveTheQueue :
    (withTxn (.reply (reply3 (some 5)) 2)).links.txn.get .a = .reply (reply3 (some 5)) 2 ∧ (reply3 (some 5)).takes = some 5 ∧
      (reply3 none).takes = none ∧ (∀ x ∈ ready.rq.queue, x.capNo ≠ 5) ∧
      (∃ x ∈ (withRecords (fun q => { q with queue := [record5] })).rq.queue, x.capNo = 5) ∧
      (withRecords (fun q => { q with stale := some 9 })).rq.stale = some 9 := by decide +kernel

theorem witness_UnknownCommandsAndWrongLengthsAreRefused :
    (∃ r ∈ requestRows, r.lengthOk 2 = false ∧ r.active = true) ∧ (∃ r ∈ requestRows, r.lengthOk 251 = false ∧ r.active = false) ∧
      fixedRow .extend 0 true ∈ requestRows ∧ (fixedRow .extend 0 true).lengthOk [0#8].length = false ∧ ready.fc.cadence = .liveFast := by
  refine ⟨by decide +kernel, by decide +kernel, ?_, by decide +kernel, by decide +kernel⟩
  exact List.mem_append_left _ (by simp [requestRowsLow])

theorem witness_LensAndSweepLogAreReported_state :
    State.reset.lens.zoom.pos = none ∧ ready.lens.focus.pos = some ((114 : Nat) : Int) ∧ 114 < 65536 := by decide

def swept : State :=
  withFocus (fun f => { f with log := List.replicate 64 { pos := 114, f := 8, seq := 3, phase := .coarse } })

theorem witness_LensAndSweepLogAreReported_log :
    (63#8).toNat ≤ 63 ∧ (0#8).toNat ≤ 63 ∧ 63 < (64#8).toNat ∧ (63#8).toNat < swept.af.log.length ∧
      swept.af.log[(63#8).toNat + 0]? = some { pos := 114, f := 8, seq := 3, phase := .coarse } ∧
      swept.af.log[(40#8).toNat + 23]? = some { pos := 114, f := 8, seq := 3, phase := .coarse } ∧ 23 < 24 := by decide +kernel

def statRecord : StatRecord :=
  { seq := 9, stamp := 50, kind := .live, t := 160, a := 48, g := 8, q := 120, flags := fip0.flags, aeEligible := true,
    afEligible := true, m := 640, pattern := 0, h := 0, n := 0, bank := Bank.cleared }

def metered : State := withStats (fun x => { x with last := some statRecord })

theorem cleared_shaped : Bank.cleared.shaped := by constructor <;> decide

theorem witness_StatisticsAreReported :
    (∀ r, metered.st.last = some r → r.bank.shaped) ∧ (∀ r, ready.st.last = some r → r.bank.shaped) ∧
      metered.st.last = some statRecord ∧ ready.st.last = none ∧ statRecord.bank.zones[(34#8).toNat + 0]? = some Zone.cleared ∧
      statRecord.bank.zones[(23#8).toNat + 11]? = some Zone.cleared ∧ 11 < min 12 (35 - (23#8).toNat) ∧ (0#8).toNat = 0 ∧ (1#8).toNat = 1 ∧ (34#8).toNat ≤ 34 ∧ 34 < (35#8).toNat ∧ 1 < (2#8).toNat := by
  refine ⟨?_, ?_, rfl, rfl, by decide, by decide⟩
  · intro r h
    obtain rfl : statRecord = r := by simpa [metered, withStats] using h
    exact cleared_shaped
  · intro r h
    simp [ready, State.reset, Statistics.powerOn] at h

def draining : Slot := { slot16 .draining with drainPort := some .a }
def drained : State := withStream draining (stream16 .drain) [1, 2]
def reviewed : State := withStream { slot16 .full with pins := 1 } (stream16 .review) [1, 2]

theorem witness_StoreAndSlotsAreReported :
    ready.store.streams.a = none ∧ drained.store.streams.a = some (stream16 .drain) ∧ (31#8).toNat ≤ 31 ∧ 31 < (32#8).toNat ∧
      ready.store.slots[(31#8).toNat + 0]? = some Slot.freed ∧ ready.store.slots[(16#8).toNat + 15]? = some Slot.freed ∧
      15 < min 16 (32 - (16#8).toNat) := by decide +kernel

/-- Streams and last ends on ports B and C. -/
def streaming : State :=
  withStores (fun b => { b with
    streams := { a := none, b := some (stream16 .review), c := some (stream16 .drain) },
    ends := { a := none, b := some { slot := 3, kind := .drain, reason := .cut }, c := some { slot := 4, kind := .review, reason := .done } } })

theorem witness_StoreAndSlotsAreReported_ports :
    (Port.b, 30) ∈ [(Port.a, 12), (.b, 30), (.c, 48)] ∧ (Port.c, 48) ∈ [(Port.a, 12), (.b, 30), (.c, 48)] ∧
      streaming.store.streams.get .b = some (stream16 .review) ∧ streaming.store.streams.get .c = some (stream16 .drain) ∧
      streaming.store.streams.get .a = none ∧ streaming.store.ends.get .a = none ∧
      streaming.store.ends.get .b = some { slot := 3, kind := .drain, reason := .cut } ∧
      streaming.store.ends.get .c = some { slot := 4, kind := .review, reason := .done } := by decide +kernel

theorem witness_QueueAndOldestRecordAreReported :
    ready.rq.queue = [] ∧ (withRecords (fun q => { q with queue := [record5] })).rq.queue = record5 :: [] := by decide

/-- For the three statements about event sets. -/
theorem witness_EventSets :
    [0#8, 0x10, 0, 0].length = 4 ∧ 2 ^ 20 ≤ field [0#8, 0x10, 0, 0] 0 4 ∧
      field [0#8, 0x0F, 0xFF, 0xFF] 0 4 = (0xFFFFF : KindSet).toNat ∧ field [0#8, 0, 0, 0] 0 4 = (0 : KindSet).toNat := by decide

theorem reset_follows : State.reset.linesFollow := by intro p; cases p <;> decide

theorem witness_GetSettingsReturnsPairsUpTo57 :
    (0#8).toNat = 0 ∧ 57 < (58#8).toNat ∧ 50 < (51#8).toNat ∧ 1 ≤ (1#8).toNat ∧ (57#8).toNat ≤ 57 ∧ (50#8).toNat ≤ 50 := by
  decide

/-- Burst Mode to Burst-high. -/
def pairBytes : List Byte := [7, 0, 0, 0, 2]

theorem witness_SetSettingsTakesTheLastPairs :
    5 ≤ pairBytes.length ∧ pairBytes.length ≤ 250 ∧ pairBytes.length % 5 = 0 ∧ ready.settings.length = 57 ∧
      settingPairs pairBytes = [(7, 2)] ∧ 1 ≤ 7 ∧ 7 ≤ 57 ∧ (∀ codes, rangeOf 7 = .codes codes → (2 : Int) ∈ codes) ∧
      7 < ixAfLeft ∧ ixAfHeight < 31 ∧ legalValue 7 2 = 2 ∧ legalValue 31 97 ≠ 97 := by
  refine ⟨by decide, by decide, by decide, by decide, by decide, by decide, by decide, ?_, by decide, by decide, by decide, by decide⟩
  intro codes h
  obtain rfl : [0, 1, 2] = codes := by simpa using (show SettingRange.codes [0, 1, 2] = .codes codes from h)
  decide

/-- Refused whole: an index 0, an index 58, and a value 3 for Burst Mode. -/
theorem witness_SetSettingsTakesTheLastPairs_refused :
    settingPairs [0, 0, 0, 0, 2] = [(0, 2)] ∧ settingPairs [58, 0, 0, 0, 2] = [(58, 2)] ∧ 57 < 58 ∧
      settingPairs [7, 0, 0, 0, 3] = [(7, 3)] ∧ rangeOf 7 = .codes [0, 1, 2] ∧ (3 : Int) ∉ [0, 1, 2] := by decide

theorem witness_AfWindowStaysWithinTheFrame :
    ready.settings.length = 57 ∧ signedField [0#8, 0, 0, 65] 0 4 = 65 ∧ (16#8).toNat = ixAfLeft ∧ (18#8).toNat = ixAfWidth ∧
      (17#8).toNat = ixAfTop ∧ (19#8).toNat = ixAfHeight ∧ ready.setting ixAfWidth ≤ 96 ∧ ready.setting ixAfHeight ≤ 96 := by
  decide

/-- For SettingsReadBackAreSettingsWritten and EveryStepKeepsLinesAndSettings; the indices and counts are those of
witness_GetSettingsReturnsPairsUpTo57. -/
theorem default_settings_legal : settingsLegal defaultSettings := by
  refine ⟨by decide, ?_, by decide, by decide, by decide, by decide⟩
  intro i h1 h2
  interval_cases i <;> decide

/-- Port A holds prepare, the AE lock is its, and a search of origin Prepare runs. -/
def held : State :=
  { ready with
    fc := { ready.fc with prepare := ready.fc.prepare.set .a true },
    ep := { ready.ep with lock := .prepare },
    af := { ready.af with state := .coarse, origin := .prepare } }

theorem witness_PrepareFlagsFollowTheirRequests :
    ready.fc.cadence = .liveFast ∧ ready.prepareHeld = false ∧ held.prepareHeld = true ∧ ready.ep.lock = .none ∧
      ({ ready with settings := ready.settings.set 32 1 } : State).settingOn ixAeLockOnPrepare = true ∧
      ready.lens.state = .ready ∧ ready.af.state = .idle ∧ held.ep.lock = .prepare ∧ held.af.state.searching = true ∧
      held.afContinuous = false ∧ held.af.origin = .prepare ∧ (after (.unprepare .a []) held).prepareHeld = false ∧
      (after (.unprepare .b []) held).prepareHeld = true := by decide +kernel

def calibrating : State := withStab (fun x => { x with state := .calibrating })

/-- Also for NudgeIsActivityAlone: the cadence is LIVE-FAST. -/
theorem witness_ShotsAreOwedAndCleared :
    State.reset.lens.state ≠ .ready ∧ State.reset.fc.cadence = .liveFast ∧ ready.lens.state = .ready ∧ (0#8).toNat = 0 ∧
      (33#8).toNat ≠ 0 ∧ calibrating.stab.state = .calibrating ∧
      (withFrames (fun c => { c with owed := 1 })).burstRunning = true ∧ ready.burstRunning = false := by decide

def slow : State := withFrames (fun c => { c with cadence := .liveSlow, quiet2 := some 5 })

theorem witness_QuietTimersStepTheCadenceDown :
    (withFrames (fun c => { c with quiet1 := some 5 })).fc.quiet1 = some 5 ∧ ready.fc.cadence = .liveFast ∧
      slow.fc.quiet2 = some 5 ∧ slow.fc.cadence = .liveSlow ∧ slow.fc.state = .live ∧ slow.fc.frame = none := by decide

def planned : State := withFrames (fun c => { c with next := .planned 1000000 150000 })
def sent (acked : Bool) : State := withFrames (fun c => { c with next := .sent 1000000 transfer7 acked, xfers := [transfer7] })

/-- For LiveTransferLatchesTheLivePlan and LiveExposureStartsWithAcknowledgedSettings. -/
theorem witness_LiveFrames :
    planned.fc.next = .planned 1000000 150000 ∧ (∀ b, (sent b).fc.next = .sent 1000000 transfer7 b) ∧
      (sent true).fc.state = .live ∧ (sent true).fc.frame = none ∧ (sent true).fc.reopenAt = none ∧
      us ((sent true).settingNat ixSettingsLead) < us (sent true).period := by decide +kernel

/-- A capture under way. -/
def captured (x : FcState) (c : Capture) (f : Option InputFrame) : State :=
  { withFrames (fun y => { y with state := x, cap := some c, frame := f, xfers := [transfer7], owed := 1 }) with
    rq := { RecordQueue.powerOn with opened := some open6 },
    st := { Statistics.powerOn with fip := some { fip0 with kind := .capture } },
    store := { store0 with slots := store0.slots.set 3 { Slot.freed with state := .filling } } }

def exposing : State := captured .exposing cap0 (some (frame0 .capture .exposing))
def reading : State := captured .reading cap0 (some (frame0 .capture .reading))

/-- A live frame in its readout. -/
def liveReading : State :=
  { withFrames (fun y => { y with frame := some (frame0 .live .reading) }) with
    st := { Statistics.powerOn with fip := some fip0 } }

/-- A Burst-high capture in its exposure, with a zoom target pending. -/
def exposingHigh : State :=
  { captured .exposing { cap0 with mode := .burstHigh } (some (frame0 .capture .exposing)) with
    lens := { lens256 with zoom := { still 256 with pending := some { target := 1024, origin := .link, speed := 2 } } } }

/-- R22, R75: the trigger pulse ends with the exposure in Burst-high alone, and the pending zoom move starts. -/
theorem test_capture_end_in_burst_high :
    Output.triggerEnd ∈ (after .captureExposureEnd exposingHigh).outs ∧
      (after .captureExposureEnd exposingHigh).lens.zoom.target = some 1024 ∧
      Output.triggerEnd ∉ (after .captureExposureEnd exposing).outs := by decide +kernel

theorem witness_ExposureEndBeginsTheReadout :
    (withFrames (fun y => { y with frame := some (frame0 .live .exposing) })).fc.frame = some (frame0 .live .exposing) ∧
      (frame0 .live .exposing).phase = .exposing ∧ (frame0 .live .exposing).kind = .live ∧
      exposing.fc.frame = some (frame0 .capture .exposing) ∧ (frame0 .capture .exposing).kind = .capture ∧
      exposing.fc.cap = some cap0 ∧ exposing.rq.opened = some open6 ∧ exposing.st.fip = some { fip0 with kind := .capture } ∧
      exposing.stab.resFlag = false ∧ ({ exposing with stab := { exposing.stab with resFlag := true } } : State).stab.resFlag = true ∧
      exposingHigh.fc.frame = some (frame0 .capture .exposing) ∧ exposingHigh.fc.cap = some { cap0 with mode := .burstHigh } ∧
      exposingHigh.lens.zoom.pending = some { target := 1024, origin := .link, speed := 2 } := by
  decide +kernel

/-- A capture in its exposure, a target pending for each actuator, Focus Search and the penalty flag as given. -/
def exposingMoves (search : AfState) (penalty : Bool) : State :=
  { exposing with
    af := { exposing.af with state := search }, ep := { exposing.ep with penalty := penalty },
    stab := { exposing.stab with state := .active },
    lens := { lens256 with
      pmax := 6, zoom := { still 256 with pending := some { target := 1024, origin := .link, speed := 2 } },
      focus := { still 114 with pending := some { target := 1500, origin := .link, speed := 0 } },
      iris := { still 0 with pending := some { target := 3, origin := .planner, speed := 0 } } } }

/-- The same in a search, with no zoom target pending. -/
def exposingSearch : State :=
  let s := exposingMoves .coarse false
  { s with lens := { s.lens with zoom := still 256 } }

/-- The pending moves of focus and iris: without a search and in one; the planner's run not coming, and coming with a penalty cleared. -/
theorem witness_ExposureEndBeginsTheReadout_moves :
    (∀ a p, (exposingMoves a p).fc.frame = some (frame0 .capture .exposing) ∧
      (exposingMoves a p).lens.zoom.pending = some { target := 1024, origin := .link, speed := 2 } ∧
      (exposingMoves a p).lens.focus.pending = some { target := 1500, origin := .link, speed := 0 } ∧
      (exposingMoves a p).lens.iris.pending = some { target := 3, origin := .planner, speed := 0 }) ∧
      (exposingMoves .idle false).af.state.searching = false ∧ exposingSearch.af.state.searching = true ∧
      exposingSearch.lens.zoom.pending = none ∧ exposingSearch.lens.focus.pos ≠ some (max 0 (min 1023 1500)) ∧
      exposingSearch.lens.focus.pending = some { target := 1500, origin := .link, speed := 0 } ∧
      (let t := after .captureExposureEnd (exposingMoves .idle false);
        t.ep.penalty = (exposingMoves .idle false).ep.penalty ∧ t.creditCondition = (exposingMoves .idle false).creditCondition) ∧
      (let t := after .captureExposureEnd (exposingMoves .idle true);
        t.ep.penalty ≠ (exposingMoves .idle true).ep.penalty ∧ 0 ≤ t.ep.capPlan.p ∧ t.ep.capPlan.p ≤ t.lens.pmax) ∧
      (exposingMoves .idle true).lens.state = .ready ∧ (exposingMoves .idle true).ep.given.isSome = true := by
  refine ⟨fun _ _ => ⟨rfl, rfl, rfl, rfl⟩, ?_⟩
  decide +kernel

/-- R75: the pending moves start at the exposure end, focus and iris among them. -/
theorem test_pending_moves_start :
    let t := after .captureExposureEnd (exposingMoves .idle false)
    t.lens.zoom.inFlight = true ∧ t.lens.focus.target = some 1023 ∧ t.lens.focus.inFlight = true ∧ t.lens.iris.target = some 3 ∧
      t.lens.iris.inFlight = true := by decide +kernel

def armed (c : Capture) : State := captured .arming c none

/-- The second transfer is under way; as latched, as in effect, and in Burst-high. -/
def second0 : Capture := { cap0 with acked := false, releaseAt := none, second := some 8, secondAt := some 1150000 }

theorem witness_AcknowledgementSetsTheSettingsInEffect :
    (sent false).fc.xfers[0]? = some transfer7 ∧ (sent false).fc.next = .sent 1000000 transfer7 false ∧
      (sent false).fc.cap = none ∧ (armed cap0).fc.xfers[0]? = some transfer7 ∧ (armed cap0).fc.cap = some cap0 ∧
      cap0.secondAt = none ∧ (armed { second0 with mode := .burstHigh }).fc.xfers[0]? = some transfer7 ∧
      second0.secondAt.isSome = true ∧ second0.transfer.id = transfer7.id ∧
      ({ second0 with mode := .burstHigh } : Capture).mode = .burstHigh ∧
      (armed { second0 with transfer := { transfer7 with id := 6 } }).fc.cap =
        some { second0 with transfer := { transfer7 with id := 6 } } ∧ 6 ≠ transfer7.id ∧ second0.second ≠ some transfer7.id := by
  decide +kernel

/-- T 320 is 1,048,576 µs, above the close travel; and a close travel equal to T 160's 1,024 µs. -/
def long0 : Capture := { cap0 with plan := { plan0 with t := 320 } }
def even0 : Capture := { cap0 with travel := 102400 }

/-- The late acknowledgement in the mechanical modes, with T above, at and below the close travel. -/
theorem witness_AcknowledgementSetsTheSettingsInEffect_late :
    second0.mode ≠ .burstHigh ∧ (armed second0).fc.xfers[0]? = some transfer7 ∧ (armed second0).fc.cap = some second0 ∧
      us (microsOf ((armed second0).confirmedT second0)) < second0.travel ∧
      (let c : Capture := { second0 with plan := long0.plan };
        (armed c).fc.cap = some c ∧ c.secondAt.isSome = true ∧ c.transfer.id = transfer7.id ∧
          c.travel < us (microsOf ((armed c).confirmedT c))) ∧
      (let c : Capture := { second0 with travel := even0.travel };
        (armed c).fc.cap = some c ∧ c.secondAt.isSome = true ∧ c.transfer.id = transfer7.id ∧
          us (microsOf ((armed c).confirmedT c)) = c.travel) := by decide +kernel

theorem witness_ReleaseOrdersTriggerAndClose :
    (armed cap0).fc.cap = some cap0 ∧ cap0.releaseAt = some 1000000 ∧ cap0.acked = true ∧ cap0.mode ≠ .burstHigh ∧
      us (microsOf ((armed cap0).confirmedT cap0)) < cap0.travel ∧
      long0.travel < us (microsOf ((armed long0).confirmedT long0)) ∧
      us (microsOf ((armed even0).confirmedT even0)) = even0.travel ∧
      ({ cap0 with acked := false } : Capture).acked = false ∧ ({ cap0 with mode := .burstHigh } : Capture).mode = .burstHigh ∧
      (armed second0).fc.cap = some second0 ∧ second0.secondAt = some 1150000 ∧ second0.mode ≠ .burstHigh ∧
      us (microsOf ((armed second0).confirmedT second0)) < second0.travel := by decide +kernel

/-- A trigger to come: T 240 planned with credit, above Tlimit 232. -/
def trig0 : Capture := { cap0 with triggerAt := some 1117600, closeAt := some 1117600, releaseAt := none }
def lost0 : Capture := { trig0 with plan := { plan0 with t := 240, credit := 8 } }

theorem witness_TriggerAndCloseCommandTakePlace :
    (armed trig0).fc.cap = some trig0 ∧ trig0.triggerAt = some 1117600 ∧ trig0.closeAt = some 1117600 ∧
      (armed trig0).creditLost trig0 = false ∧ (armed lost0).fc.cap = some lost0 ∧ lost0.triggerAt = some 1117600 ∧
      (armed lost0).creditLost lost0 = true ∧ (armed lost0).lens.iv.tlimit < lost0.plan.t := by decide +kernel

theorem witness_ReadoutEndCompletesTheFrame :
    ready.fc.frame = none ∧ exposing.fc.frame = some (frame0 .capture .exposing) ∧ liveReading.fc.frame = some (frame0 .live .reading) ∧
      liveReading.st.fip = some fip0 ∧ (frame0 .live .reading).phase = .reading ∧ reading.fc.frame = some (frame0 .capture .reading) ∧
      reading.burstRunning = true ∧ reading.fc.owed ≤ 1 ∧ reading.fc.continuous = false ∧
      reading.store.firstSlot .filling = some 3 ∧ reading.rq.opened = some open6 ∧ open6.startPart = some record5.startPart ∧
      open6.endPart = some record5.endPart ∧ open6.withdrawn = false ∧ reading.fc.cap = some cap0 ∧ cap0.mode ≠ .burstHigh := by
  decide +kernel

/-- The record of a readout end: a table in force with weights and one whose weights sum to 0, and a focus completion before it. -/
theorem witness_ReadoutEndCompletesTheFrame_record :
    liveReading.st.patterns[liveReading.settingNat ixPattern]? = some (defaultPatterns.getD 0 []) ∧
      (defaultPatterns.getD 0 []).sum ≠ 0 ∧ (List.replicate 35 0).sum = 0 ∧
      ({ liveReading with st := { liveReading.st with focusStamp := some 49 } } : State).st.focusStamp = some 49 ∧
      1 ≤ (fip0.stamp - 49#32).toNat ∧ (fip0.stamp - 49#32).toNat ≤ 2 ^ 31 - 1 := by decide +kernel

/-- Coarse search waiting for the sample of a live readout, with the peak so far and a full log. -/
def sampling (peak : Option Peak) : State :=
  { liveReading with af := { swept.af with state := .coarse, wait := .sample, peak := peak } }

theorem witness_ReadoutRecordIsMeteredAndSampled :
    liveReading.fc.frame = some (frame0 .live .reading) ∧ (frame0 .live .reading).kind = .live ∧ liveReading.st.fip = some fip0 ∧
      fip0.flags.irisMoved = false ∧ fip0.flags.focusMoved = false ∧ fip0.flags.zoomMoved = false ∧ liveReading.ep.lock = .none ∧
      held.ep.lock ≠ .none ∧ (sampling none).af.state = .coarse ∧ (sampling none).af.wait = .sample ∧
      (sampling none).st.focusStamp = none ∧ (sampling none).af.peak = none ∧ 64 ≤ (sampling none).af.log.length ∧
      (sampling (some { f := 8, pos := 100 })).af.peak = some { f := 8, pos := 100 } := by decide +kernel

/-- With a record marked IrisMoved, ZoomMoved and FocusMoved, and one exposed 1 µs after the last focus completion. -/
theorem witness_ReadoutRecordIsMeteredAndSampled_moved :
    ({ fip0 with flags := { fip0.flags with irisMoved := true } } : FrameInProgress).flags.irisMoved = true ∧
      ({ fip0 with flags := { fip0.flags with focusMoved := true } } : FrameInProgress).flags.focusMoved = true ∧
      1 ≤ (fip0.stamp - 49#32).toNat ∧ (fip0.stamp - 49#32).toNat ≤ 2 ^ 31 - 1 := by decide

/-- A live readout whose feature counts are v, with Focus Search as given. -/
def sampled (v : Nat) (f : FocusSearch → FocusSearch) : State :=
  { liveReading with
    st := { liveReading.st with active := { Bank.cleared with feats := List.replicate 9 v } },
    af := f { liveReading.af with wait := .sample } }

def fining (ix : Nat) (best : Option Peak) : State :=
  sampled 0 (fun a => { a with state := .fine, fineFrom := 100, fineTo := 120, fine := 4, fineTotal := 6, fineIx := ix, best := best })

/-- Fine: a further sample, the last one of the pass at its count and at b, the best below and at the position. -/
theorem witness_ReadoutRecordIsMeteredAndSampled_fine :
    (fining 1 none).af.state = .fine ∧ (fining 1 none).af.wait = .sample ∧ (fining 1 none).af.fineIx + 1 < (fining 1 none).af.fineTotal ∧
      min (fining 1 none).af.fineTo ((fining 1 none).af.fineFrom + (fining 1 none).af.fine * (fining 1 none).af.fineIx) ≠
        (fining 1 none).af.fineTo ∧
      (fining 5 none).af.fineTotal ≤ (fining 5 none).af.fineIx + 1 ∧
      min (fining 5 none).af.fineTo ((fining 5 none).af.fineFrom + (fining 5 none).af.fine * (fining 5 none).af.fineIx) =
        (fining 5 none).af.fineTo ∧
      (fining 5 none).lens.focus.pos = some 114 ∧ selectF (fining 5 none).st.active.feats (fining 5 none).af.zone = 0 ∧
      114 ≤ (bestAfter (fining 5 none).af.best 0 114).pos ∧
      (bestAfter (fining 5 (some { f := 8, pos := 100 })).af.best 0 114).pos < 114 := by decide +kernel

/-- Coarse on the range lo..hi from start s, F 10 and then f1 before, count samples, going toward near or not. -/
def coarse (count f1 low : Nat) (near : Bool) (lo hi start : Int) : State :=
  sampled 8 (fun a => { a with
    state := .coarse, count := count, f0 := 10, f1 := f1, low := low, near := near, lo := lo, hi := hi, start := start,
    reversed := false, budget := 48, peak := some { f := 10, pos := 100 } })

/-- Coarse at position 114 with F 8: the third sample falling, its start within the range and at its new end; F 8 of 10 is low; range
ends, the budget, and none of them. -/
theorem witness_ReadoutRecordIsMeteredAndSampled_coarse :
    selectF (coarse 2 9 0 true 64 240 90).st.active.feats (coarse 2 9 0 true 64 240 90).af.zone = 8 ∧
      (coarse 2 9 0 true 64 240 90).af.state = .coarse ∧ (coarse 2 9 0 true 64 240 90).af.wait = .sample ∧
      (coarse 2 9 0 true 64 240 90).af.f1 < (coarse 2 9 0 true 64 240 90).af.f0 ∧ 8 < (coarse 2 9 0 true 64 240 90).af.f1 ∧
      (coarse 2 9 0 true 64 240 90).af.start ≠ (coarse 2 9 0 true 64 240 90).af.lo ∧
      (coarse 2 9 0 true 64 240 64).af.start = (coarse 2 9 0 true 64 240 64).af.lo ∧
      (coarse 2 9 0 false 64 240 240).af.start = (coarse 2 9 0 false 64 240 240).af.hi ∧
      ¬ ((coarse 5 9 1 true 64 240 90).af.count = 2) ∧
      8 * 8 < 7 * (bestAfter (coarse 5 9 1 true 64 240 90).af.peak 8 114).f ∧ 2 ≤ (coarse 5 9 1 true 64 240 90).af.low + 1 ∧
      (114 : Int) = (coarse 5 9 0 true 64 114 90).af.hi ∧ (114 : Int) = (coarse 5 9 0 false 114 240 200).af.lo ∧
      (coarse 47 9 0 true 64 240 90).af.budget ≤ (coarse 47 9 0 true 64 240 90).af.count + 1 ∧
      (coarse 5 9 0 true 64 240 90).af.low + 1 < 2 ∧ (coarse 5 9 0 true 64 240 90).af.count + 1 < (coarse 5 9 0 true 64 240 90).af.budget ∧
      (coarse 5 9 0 true 64 240 90).af.lo ≤ 114 ∧ (114 : Int) < (coarse 5 9 0 true 64 240 90).af.hi := by decide +kernel

/-- Sample 0 taken above hi, where tracking displaced it: the range end is not reached and the pass goes on to hi (R95). -/
theorem witness_ReadoutRecordIsMeteredAndSampled_displaced :
    let s := coarse 0 0 0 true 64 100 100
    s.lens.focus.pos = some 114 ∧ s.af.hi < 114 ∧ (114 : Int) ≠ s.af.hi ∧ ¬ (s.af.count = 2) ∧ s.af.count + 1 < s.af.budget ∧
      s.af.low + 1 < 2 ∧ (s.coarseSample 8 114).af.state = .coarse ∧ (s.coarseSample 8 114).lens.focus.target = some 100 := by
  decide +kernel

/-- Range of one position, 0: sample 0 ends coarse also where tracking displaced it (R94). -/
theorem witness_ReadoutRecordIsMeteredAndSampled_point :
    let s := coarse 0 0 0 true 0 0 0
    s.lens.focus.pos = some 114 ∧ s.af.lo = s.af.hi ∧ (114 : Int) ≠ s.af.hi ∧ (s.coarseSample 8 114).af.state = .fine := by
  decide +kernel

/-- A probe with reference and last F 4, after so many moves. -/
def probe0 (leg : ProbeLeg) (moves : Nat) : Probe :=
  { p0 := 110, fref := 4, best := { f := 4, pos := 110 }, step := 4, prevF := 4, moves := moves, leg := leg }

def probing (v : Nat) (p : Probe) : State := sampled v (fun a => { a with state := .probe, probe := some p })

/-- Probe: the first step up and down, toward near up, down and at the eighth sample, and the reversed step. -/
theorem witness_ReadoutRecordIsMeteredAndSampled_probe :
    (∀ v l k, (probing v (probe0 l k)).af.state = .probe ∧ (probing v (probe0 l k)).af.wait = .sample ∧
      (probing v (probe0 l k)).af.probe = some (probe0 l k)) ∧
      selectF (probing 8 (probe0 .first 0)).st.active.feats (probing 8 (probe0 .first 0)).af.zone = 8 ∧
      selectF (probing 0 (probe0 .first 0)).st.active.feats (probing 0 (probe0 .first 0)).af.zone = 0 ∧
      (probe0 .first 0).leg = .first ∧ (probe0 .first 0).fref < 8 ∧ 0 ≤ (probe0 .first 0).fref ∧
      (probe0 .toNear 1).leg = .toNear ∧ (probe0 .toNear 1).prevF ≤ 8 ∧ (probe0 .toNear 6).moves + 1 < 8 ∧
      8 ≤ (probe0 .toNear 7).moves + 1 ∧ 0 < (probe0 .toNear 1).prevF ∧ (probe0 .reversed 1).leg = .reversed := by
  refine ⟨fun _ _ _ => ⟨rfl, rfl, rfl⟩, ?_⟩
  decide +kernel

def tracking (flock low : Nat) : State := sampled 6 (fun a => { a with state := .tracking, flock := flock, low := low })

/-- Tracking: F 6 is three quarters of 8 and below three quarters of 9; with no record weak before it and with one. -/
theorem witness_ReadoutRecordIsMeteredAndSampled_tracking :
    (tracking 8 0).af.state = .tracking ∧ selectF (tracking 8 0).st.active.feats (tracking 8 0).af.zone = 6 ∧
      3 * (tracking 8 0).af.flock ≤ 4 * 6 ∧ 4 * 6 < 3 * (tracking 9 0).af.flock ∧ (tracking 9 0).af.low = 0 ∧
      1 ≤ (tracking 9 1).af.low ∧ (tracking 9 1).st.focusStamp = none ∧ (tracking 9 1).fc.frame = liveReading.fc.frame ∧
      (tracking 9 1).st.fip = some fip0 := by decide +kernel

theorem witness_PixelDataIsCountedInReadoutOnly :
    fip0.samples < fip0.geo.w * fip0.geo.h ∧ isGreen fip0.geo.phase 0 0 = true ∧ isGreen fip0.geo.phase 0 1 = false ∧
      liveReading.st.active.zones[meterZone fip0.geo 0 0]? = some Zone.cleared ∧ reading.store.firstSlot .filling = some 3 ∧
      reading.store.slots[3]? = some { Slot.freed with state := .filling } ∧ 0 < slotSize ∧ reading.store.buf.length < 65536 ∧
      slotSize ≤ ({ Slot.freed with state := .filling, bytes := slotSize } : Slot).bytes ∧ Slot.freed.incomplete = false := by
  decide +kernel

/-- A live readout of a frame of 64 × 64 at column 22 of row 22, in the AF window, with the green of column c before it. -/
def paired (c : Nat) : FrameInProgress := { fip0 with samples := 22 * 64 + 22, prev := some (22, c, 1000) }

/-- Table 2-5: a difference of 90 is counted, one of 10 is not; a pair apart, none before, and a sample outside the window. -/
theorem witness_PixelDataIsCountedInReadoutOnly_features :
    (paired 20).samples < (paired 20).geo.w * (paired 20).geo.h ∧ isGreen (paired 20).geo.phase 22 22 = true ∧
      (paired 24).samples / (paired 24).geo.w = 22 ∧ (paired 24).samples % (paired 24).geo.w = 22 ∧
      (paired 22).prev = some (22, 22, 1000) ∧ afZoneOf fip0.geo 22 22 = some 0 ∧ afZoneOf fip0.geo 22 24 = some 0 ∧
      afZoneOf fip0.geo 22 26 = some 0 ∧ afZoneOf fip0.geo 22 28 = some 1 ∧ afZoneOf fip0.geo 0 0 = none ∧ fip0.prev = none ∧
      liveReading.st.active.feats[0]? = some 0 ∧ ((fip0.geo.contrast : Nat) : Int) < |(1090 : Int) - 1000| ∧
      |(1010 : Int) - 1000| ≤ ((fip0.geo.contrast : Nat) : Int) := by decide +kernel

def reopening : State := withFrames (fun y => { y with state := .reopening, settle := some 5, shutter := .reopening })
def reopeningOwed : State := { reopening with fc := { reopening.fc with owed := 1, reopenAt := some 5 } }

theorem witness_ReopenSettleEvaluatesTheGate :
    reopening.fc.settle = some 5 ∧ reopening.fc.state = .reopening ∧ reopening.gateOpen = false ∧ reopeningOwed.gateOpen = true ∧
      reopeningOwed.fc.settle = some 5 ∧ reopeningOwed.fc.reopenAt = some 5 ∧ ready.fc.state ≠ .reopening := by decide +kernel

def lensIn (x : LensState) : State := withLens (fun l => { l with state := x })

/-- A live readout with a shot owed, whose record is marked IrisMoved, the urgent hold as given. -/
def liveOwed (urgent : Bool) : State :=
  { liveReading with
    fc := { liveReading.fc with owed := 1 },
    stab := { liveReading.stab with urgent := urgent },
    st := { liveReading.st with fip := some { fip0 with flags := { fip0.flags with irisMoved := true } } } }

/-- The readout of a Burst-high capture with so many shots owed, the urgent hold as given. -/
def highReading (owed : Nat) (urgent : Bool) : State :=
  let s := captured .reading { cap0 with mode := .burstHigh } (some (frame0 .capture .reading))
  { s with fc := { s.fc with owed := owed }, stab := { s.stab with urgent := urgent } }

def decremented (s : State) : State := { s with fc := { s.fc with owed := s.fc.owed - 1 } }

/-- At live boundaries: the loop stopped, no shots, the gate closed and open; after Burst-high: the last shot, the gate open and closed. -/
theorem witness_ReopenSettleEvaluatesTheGate_boundary :
    (frame0 .live .reading).kind = .live ∧ liveReading.fc.state = .live ∧
      ({ liveReading with lens := (lensIn .stowed).lens } : State).loopRuns = false ∧ liveReading.loopRuns = true ∧
      liveReading.burstRunning = false ∧ (liveOwed true).loopRuns = true ∧ (liveOwed true).gateOpen = false ∧
      (liveOwed false).gateOpen = true ∧ (liveOwed false).loopRuns = true ∧ (liveOwed false).af.state = .idle ∧
      (liveOwed false).fc.frame = some (frame0 .live .reading) ∧
      (highReading 1 false).fc.cap = some { cap0 with mode := .burstHigh } ∧
      (highReading 1 false).fc.frame = some (frame0 .capture .reading) ∧ (highReading 1 false).fc.cadence ≠ .still ∧
      (decremented (highReading 1 false)).burstRunning = false ∧ (decremented (highReading 2 true)).gateOpen = false ∧
      (decremented (highReading 2 false)).gateOpen = true := by decide +kernel

theorem witness_ExtendTakesTheLensOut :
    (lensIn .intermediate).lens.state = .intermediate ∧ (lensIn .stowed).loader.loading = none ∧
      (lensIn .stowed).lens.zoom.pos = some (lensIn .stowed).loader.table.zwide ∧ (lensIn .stowed).lens.iris.pos = some 0 ∧
      (lensIn .stowed).lens.focus.pos = some (trackAt (lensIn .stowed).lens.iv 32) ∧
      (withLens (fun l => { l with state := .stowed, zoom := still 0, focus := still 40 })).lens.zoom.pos ≠
        some ready.loader.table.zwide ∧
      (withLens (fun l => { l with state := .stowed, focus := still 40 })).lens.focus.pos ≠ some (trackAt ready.lens.iv 32) ∧
      ({ lensIn .stowed with loader := Loader.powerOn } : State).loader.loading.isSome = true ∧
      State.reset.lens.state = .homing := by decide +kernel

theorem witness_RetractTakesTheLensIn :
    (lensIn .extending).lens.state = .extending ∧ ready.inFlight = false ∧ exposing.inFlight = true ∧ exposing.lens.state = .ready ∧
      ready.lens.zoom.pos = some 256 ∧ (withLens (fun l => { l with zoom := still 8 })).lens.zoom.pos = some 8 ∧
      (lensIn .stowed).lens.state = .stowed ∧ (withFrames (fun c => { c with owed := 1 })).burstRunning = true ∧
      ready.fc.state = .live ∧ ready.fc.frame = none := by decide

def zooming : State :=
  withLens (fun l => { l with zoom := { still 256 with target := some 1024, inFlight := true, stepAt := some 1050000 } })
/-- An actuator one step due at 10 ms, from p toward q. -/
def stepping (x : LensState) (d : Drive) (which : Actuator) (p q : Int) : State :=
  let r : ActRecord := { still p with target := some q, inFlight := true, stepAt := some 1000000 }
  withLens (fun l => match which with
    | .zoom => { l with state := x, drive := d, zoom := r }
    | .focus => { l with state := x, drive := d, focus := r }
    | .iris => { l with state := x, drive := d, iris := r })

/-- The same with another actuator in flight. -/
def underway (which : Actuator) (s : State) : State :=
  match which with
  | .zoom => { s with lens := { s.lens with zoom := { s.lens.zoom with inFlight := true } } }
  | .focus => { s with lens := { s.lens with focus := { s.lens.focus with inFlight := true } } }
  | .iris => { s with lens := { s.lens with iris := { s.lens.iris with inFlight := true } } }

def zoomWaiting : State :=
  withLens (fun l => { l with zoom := { still 256 with pending := some { target := 1024, origin := .link, speed := 2 } } })

theorem witness_ZoomRequestsAreTakenInReady :
    (0#8).toNat = 0 ∧ 4 < (5#8).toNat ∧ 1 ≤ (1#8).toNat ∧ (4#8).toNat ≤ 4 ∧ decide ((2#8).toNat ≤ 1) = false ∧
      State.reset.lens.state ≠ .ready ∧ ready.lens.state = .ready ∧ zooming.lens.zoom.inFlight = true ∧
      zooming.lens.zoom.origin = .link ∧ zoomWaiting.lens.zoom.inFlight = false ∧
      zoomWaiting.lens.zoom.pending = some { target := 1024, origin := .link, speed := 2 } ∧ ready.lens.zoom.pending = none := by
  decide

theorem witness_FocusToSetsTargetAndDistance :
    (1023 : Int) = min 1023 (((4#8).toNat * 256 + (0#8).toNat : Nat) : Int) ∧
      (1023 : Int) = min 1023 (((3#8).toNat * 256 + (255#8).toNat : Nat) : Int) ∧ ready.hold = false ∧ exposing.hold = true ∧
      exposing.af.state.searching = false ∧ held.af.state.searching = true ∧ held.lens.focus.pending = none := by decide

theorem witness_StepMovesOneTowardTheTarget :
    zooming.stepDue .zoom 256 1024 1050000 ∧ zooming.lens.drive = .none ∧ zooming.lens.state = .ready ∧
      (stepping .ready .none .focus 113 114).stepDue .focus 113 114 1000000 ∧ (113 + 1 : Int) = 114 ∧
      (withLens (fun l => { l with drive := .retractFar })).lens.drive ≠ .homeStop 0 0 := by
  unfold State.stepDue
  decide

/-- The tracking point: in mid-move, at a multiple of 16, at the target; d 32 gives track 114 at zoom 256, the focus target. -/
theorem witness_StepMovesOneTowardTheTarget_tracking :
    zooming.hold = false ∧ zooming.af.state.searching = false ∧ zooming.lens.d = some 32 ∧ (256 + 1 : Int) % 16 ≠ 0 ∧
      (stepping .ready .none .zoom 255 1024).stepDue .zoom 255 1024 1000000 ∧ (255 + 1 : Int) % 16 = 0 ∧
      (stepping .ready .none .zoom 255 1024).lens.focus.target = some (trackAt (valuesAt ready.loader.table (some 256)) 32) ∧
      (stepping .ready .none .zoom 1023 1024).stepDue .zoom 1023 1024 1000000 ∧
      (stepping .ready .none .zoom 1023 1024).lens.focus.target ≠ some (trackAt (valuesAt ready.loader.table (some 1024)) 32) ∧
      0 ≤ ready.lens.pmax := by
  unfold State.stepDue
  decide +kernel

/-- The stop phase of homing: both go on, one ends, both end. -/
theorem witness_StepMovesOneTowardTheTarget_stop :
    (stepping .homing (.homeStop 5 2) .focus 0 0).lens.drive = .homeStop 5 2 ∧
      ((stepping .homing (.homeStop 5 2) .focus 0 0).act .focus).stepAt = some 1000000 ∧
      ((stepping .homing (.homeStop 0 1) .iris 0 0).act .iris).stepAt = some 1000000 ∧ (5 - 1 : Nat) ≠ 0 ∧ (1 - 1 : Nat) = 0 := by decide

/-- The last steps of the drives: of extend with the other actuator in flight and there, focus away and there; of the park move and of
retract; and of a move in Ready, Focus Search's own or not. -/
theorem witness_StepMovesOneTowardTheTarget_drives :
    (stepping .extending .extendMoves .zoom 255 256).stepDue .zoom 255 256 1000000 ∧
      (stepping .extending .extendMoves .iris 1 0).stepDue .iris 1 0 1000000 ∧ |(256 - 255 : Int)| = 1 ∧ |(0 - 1 : Int)| = 1 ∧
      ((stepping .extending .extendMoves .zoom 255 256).act .iris).inFlight = false ∧
      ((underway .iris (stepping .extending .extendMoves .zoom 255 256)).act .iris).inFlight = true ∧
      (stepping .extending .extendMoves .zoom 255 256).lens.focus.pos =
        some (trackAt (valuesAt ready.loader.table (some 256)) 32) ∧
      (stepping .extending .extendMoves .zoom 1023 1024).lens.focus.pos ≠
        some (trackAt (valuesAt ready.loader.table (some 1024)) 32) ∧
      (stepping .extending .extendFocus .focus 113 114).stepDue .focus 113 114 1000000 ∧
      (stepping .homing .homePark .focus 39 40).stepDue .focus 39 40 1000000 ∧
      (stepping .retracting .retractHomed .iris 1 0).stepDue .iris 1 0 1000000 ∧
      ((stepping .retracting .retractHomed .iris 1 0).act .focus).inFlight = false ∧
      ((underway .focus (stepping .retracting .retractHomed .iris 1 0)).act .focus).inFlight = true ∧
      (stepping .extending .extendFocus .focus 113 114).lens.state = .extending ∧
      (stepping .homing .homePark .focus 39 40).lens.drive = .homePark ∧ ready.fc.cadence ≠ .still ∧
      ({ stepping .extending .extendFocus .focus 113 114 with fc := FrameControl.powerOn } : State).fc.state = .idle := by
  unfold State.stepDue
  decide +kernel

/-- A focus step with Focus Search waiting for its own move w. -/
def searching (w : AfWait) (origin : Origin) : State :=
  let s := stepping .ready .none .focus 113 114
  { s with
    lens := { s.lens with focus := { s.lens.focus with origin := origin } },
    af := { s.af with state := .settle, wait := w, best := some { f := 8, pos := 114 }, probe := some (probe0 .toNear 3), fmin := 5 } }

theorem witness_StepMovesOneTowardTheTarget_search :
    (∀ w o, (searching w o).stepDue .focus 113 114 1000000 ∧ (searching w o).af.state.searching = true ∧
      (searching w o).af.best = some { f := 8, pos := 114 } ∧ (searching w o).af.probe = some (probe0 .toNear 3) ∧
      (searching w o).lens.focus.origin = o ∧ (searching w o).af.fmin ≤ 8 ∧ (searching w o).af.wait = w) ∧
      AfWait.sampleMove.isMove = true ∧ AfWait.settleBelow.isMove = true ∧ AfWait.settleBest.isMove = true ∧ AfWait.snap.isMove = true ∧
      AfWait.failMove.isMove = true ∧ AfWait.probeFinal.isMove = true ∧ (4 : Nat) < (searching .snap .search).af.fmin := by
  refine ⟨fun _ _ => ⟨⟨rfl, rfl, rfl, rfl, by decide⟩, rfl, rfl, rfl, rfl, ?_, rfl⟩, ?_⟩
  · show 5 ≤ 8
    decide
  · decide

def driven (x : LensState) (d : Drive) (zoom : Int) : State :=
  withLens (fun l => { l with state := x, drive := d, zoom := { still zoom with stepAt := some 1000000, inFlight := true } })

theorem witness_HomeSensorEndsTheZoomDrives :
    (driven .homing (.homeOut 63) 0).lens.drive = .homeOut 63 ∧ 64 ≤ 63 + 1 ∧ 62 + 1 < 64 ∧
      (driven .homing (.homeIn 2299) 0).lens.drive = .homeIn 2299 ∧ 2300 ≤ 2299 + 1 ∧ (driven .homing (.homeIn 0) 0).lens.state = .homing ∧
      (driven .homing (.homeIn 0) 0).lens.zoom.stepAt = some 1000000 ∧
      (driven .homing (.homeIn 0) 0).lens.focus.pos ≠ some ready.loader.table.park ∧
      (driven .retracting (.retractOut 3) 5).lens.drive = .retractOut 3 ∧ (driven .retracting .retractFar 9).lens.zoom.pos = some 9 ∧
      (driven .retracting .retractWatch 1).lens.drive = .retractWatch ∧ (driven .retracting .retractWatch (-71)).lens.zoom.pos = some (-71) ∧
      (-71 : Int) - 1 ≤ -72 ∧ (driven .retracting .retractWatch 1).lens.focus.inFlight = false ∧
      (driven .retracting .retractWatch 1).lens.iris.inFlight = false := by decide

/-- For AfStartBeginsASearch and AfCancelGoesToIdle. -/
theorem witness_AfRequests :
    State.reset.lens.state ≠ .ready ∧ ready.lens.state = .ready ∧ ready.hold = false ∧ exposing.hold = true ∧
      exposing.lens.state = .ready ∧ held.af.state.searching = true ∧ held.lens.state = .ready ∧ held.hold = false ∧
      ({ held with lens := { held.lens with focus := { still 114 with origin := .search } } } : State).lens.focus.origin = .search := by
  decide

theorem witness_StabilizerRequestsActOnCalibrationAndFault :
    ready.lens.state = .ready ∧ ready.inFlight = false ∧ ready.fc.cadence ≠ .still ∧ ready.stab.state ≠ .faulted ∧
      ready.stab.state ≠ .calibrating ∧ (withStab (fun x => { x with state := .active })).stab.state = .active ∧
      calibrating.stab.state = .calibrating ∧ (withStab (fun x => { x with cause := .missing })).stab.cause ≠ .none ∧
      ready.stab.cause = .none := by decide

def active : State := withStab (fun x => { x with state := .active, gyro := some 1050000 })

/-- A calibration one sample before its minimum. -/
def sampleRun : State :=
  withStab (fun x => { x with
    state := .calibrating, last := some { u := 5, v := 6, x := 5, y := 6 },
    cal := { x.cal with status := .sampling, count := 3999 } })

theorem witness_GyroSampleMovesTheShiftTarget :
    active.stab.gyro = some 1050000 ∧ active.stab.state = .active ∧ active.stab.cause = .none ∧
      active.stab.orient = active.setting ixOrientation ∧ active.setting ixOrientation = 0 ∧ active.stab.rep1 < 254 ∧
      active.stab.rep2 < 254 ∧ active.stab.x.pan = false ∧ active.stab.y.pan = false ∧ 0 < active.settingNat ixPanCount ∧
      |(2560#16).toInt| ≤ active.setting ixPanThreshold ∧ |(-2560#16).toInt| ≤ active.setting ixPanThreshold ∧
      active.stab.backlog = 0 ∧ active.stab.x.entry < active.settingNat ixPanCount ∧
      active.stab.y.entry < active.settingNat ixPanCount ∧ (withStab (fun x => { x with gyro := some 5, cause := .missing })).stab.cause ≠ .none := by
  decide +kernel

/-- An axis that pans, one about to and one about to end, under the default pan threshold and count; a changed orientation. -/
theorem witness_GyroSampleMovesTheShiftTarget_axes :
    (let a : ShiftAxis := { ShiftAxis.zero with pan := true, exit := 199 };
      a.exit < active.settingNat ixPanCount ∧ |(1279 : Int)| < active.setting ixPanThreshold / 2 ∧
        active.settingNat ixPanCount ≤ a.exit + 1 ∧ 0 + 1 < active.settingNat ixPanCount) ∧
      (let a : ShiftAxis := { ShiftAxis.zero with entry := 199 };
        a.pan = false ∧ a.entry < active.settingNat ixPanCount ∧ active.setting ixPanThreshold < |(-2561 : Int)| ∧
          active.settingNat ixPanCount ≤ a.entry + 1) ∧
      (withStab (fun x => { x with state := .active, orient := 90 })).stab.orient ≠ active.setting ixOrientation := by decide +kernel

/-- A recenter step due, outside a window and in one; residuals accumulate; Parked; a calibration in each of its cases. -/
theorem witness_GyroSampleMovesTheShiftTarget_states :
    (let s := withStab (fun x => { x with state := .active, backlog := 2 });
      0 < s.stab.backlog ∧ s.window = false ∧ s.stab.backlog ≠ 1) ∧
      (let s : State := { exposing with stab := { active.stab with backlog := 2, resFlag := true } };
        s.window = true ∧ s.stab.resFlag = true ∧ s.stab.state = .active) ∧
      (withStab (fun x => { x with state := .parked })).stab.state = .parked ∧ calibrating.stab.state = .calibrating ∧
      sampleRun.stab.last = some { u := 5, v := 6, x := 5, y := 6 } ∧ |(5 - 5 : Int)| ≤ sampleRun.setting ixStillThreshold ∧
      sampleRun.stab.cal.status = .sampling ∧ sampleRun.setting ixCalMinimum ≤ (sampleRun.stab.cal.count + 1 : Nat) ∧
      sampleRun.stab.cal.count + 1 < 16000 ∧ sampleRun.setting ixStillThreshold < |(500 - 5 : Int)| ∧
      (withStab (fun x => { x with state := .calibrating, cal := { x.cal with status := .minMet, count := 15999 } })).stab.cal.status = .minMet ∧
      16000 ≤ (withStab (fun x => { x with cal := { x.cal with count := 15999 } })).stab.cal.count + 1 ∧
      (withStab (fun x => { x with last := some { u := 5, v := 6, x := 5, y := 6 }, rep1 := 254 })).stab.rep1 + 1 = 255 := by decide +kernel

theorem witness_FourMissedSamplesAreAFault :
    active.stab.gyro = some 1050000 ∧ active.stab.cause = .none ∧ 4 ≤ (withStab (fun x => { x with missed := 3 })).stab.missed + 1 ∧
      active.stab.missed + 1 < 4 ∧ ready.stab.state ≠ .active ∧ ready.stab.gyro = some (us 500) ∧ active.stab.backlog = 0 ∧
      (withStab (fun x => { x with state := .active, backlog := 1 })).stab.backlog = 1 ∧ active.window = false := by decide

theorem witness_TickAndCalibrationTimeoutTakePlace :
    (withStab (fun x => { x with tick := some 5 })).stab.tick = some 5 ∧ |ready.stab.x.target| ≤ ready.setting ixShiftLimit / 2 ∧
      ready.setting ixShiftLimit / 2 < |(601 : Int)| ∧ (withStab (fun x => { x with backlog := 2 })).stab.backlog = 2 ∧
      (withStab (fun x => { x with cal := { x.cal with limit := some 5, status := .minMet, count := 4000 } })).stab.cal.limit = some 5 ∧
      ready.stab.cal.status ≠ .minMet := by decide

theorem witness_PatternsAndTheLockTakeTheirValues :
    (List.replicate 35 16#8).length = 35 ∧ 2 < (3#8).toNat ∧ (2#8).toNat ≤ 2 ∧ ready.ep.lock = .none ∧ held.ep.lock ≠ .none ∧
      ready.ep.given = some (48, 232) := by decide +kernel

/-- A lock held, the program and Support mode as given, Qraw as given. -/
def planning (program support qraw : Int) : State :=
  { held with
    settings := (ready.settings.set (ixProgram - 1) program).set (ixSupportMode - 1) support, ep := { held.ep with qraw := qraw } }

def unlocked (program qraw : Int) : Planner := (after (.aeUnlock .a []) (planning program 0 qraw)).ep

/-- A run in each program, in Auto with the aperture closing, at the time cap and between; the iris request, and one under the hold. -/
theorem witness_PatternsAndTheLockTakeTheirValues_plans :
    (∀ p ∈ [(0, Program.auto), (1, .timePriority), (2, .aperturePriority), (3, .manual)],
      (planning p.1 0 120).program = p.2 ∧ (planning p.1 0 120).ep.lock ≠ .none ∧
        (planning p.1 0 120).ep.given = some (48, 232)) ∧
      (planning 0 1 120).settingOn ixSupportMode = true ∧ (planning 0 0 120).settingOn ixSupportMode = false ∧
      (unlocked 0 10).qreq + 48 < 80 ∧ (unlocked 0 10).capPlan.p = 3 ∧ 80 ≤ (unlocked 0 120).qreq + 48 ∧
      (unlocked 0 120).capPlan.t = 168 ∧ (unlocked 0 250).capPlan.tcap = 232 ∧ (unlocked 0 250).capPlan.g = 66 ∧
      (unlocked 1 40).capPlan.p ≠ 0 ∧ (planning 0 0 10).lens.state = .ready ∧
      (planning 0 0 10).lens.iris.target ≠ some (unlocked 0 10).capPlan.p ∧ 0 ≤ (unlocked 0 10).capPlan.p ∧
      (planning 0 0 10).hold = false ∧
      ({ planning 0 0 10 with fc := exposing.fc } : State).hold = true := by decide +kernel

theorem witness_StreamsOpenOnTheirSlots :
    [0#8, 0, 0, 15].length = 4 ∧ 31 < (32#8).toNat ∧ (2#8).toNat ≤ 31 ∧ field [0#8, 0, 0, 0] 0 4 = 0 ∧ field [0#8, 0, 0, 1] 0 4 ≠ 0 ∧
      (withStores (fun b => { b with cut := PerPort.all true })).store.cut.get .a = true ∧ ready.store.cut.get .a = false ∧
      (ready.store.slotAt 2).state ≠ .full ∧ (drained.store.streams.get .a).isSome = true ∧ State.reset.store.state = .initialising ∧
      (withSlot (slot16 .full)).store.slots[(2#8).toNat]? = some (slot16 .full) ∧
      (withSlot (slot16 .full)).store.streams.get .a = none ∧ (withSlot (slot16 .full)).store.state ≠ .initialising ∧
      0 < (slot16 .full).bytes ∧ ({ slot16 .full with bytes := 0 } : Slot).bytes = 0 ∧
      field [0#8, 0, 0, 15] 0 4 < (slot16 .full).bytes ∧ (slot16 .full).bytes ≤ field [0#8, 0, 0, 16] 0 4 := by decide +kernel

theorem witness_StreamsAreClosedCutAndTaken :
    ready.store.streams.get .a = none ∧ drained.store.streams.get .a = some (stream16 .drain) ∧
      reviewed.store.slots[2]? = some { slot16 .full with pins := 1 } ∧
      (withStream draining { stream16 .drain with stall := some 5 } [1]).store.streams.get .a =
        some { stream16 .drain with stall := some 5 } ∧
      ready.store.fifos.get .a = [] ∧ drained.store.fifos.get .a = 1#8 :: [2#8] ∧
      (withStream draining { stream16 .drain with next := 16 } [1]).store.fifos.get .a = 1#8 :: [] ∧
      ({ stream16 .drain with next := 16 } : Stream).next = (stream16 .drain).endOff ∧
      (withStores (fun b => { b with
        grant := some { who := .stream .a, bytes := 16, endAt := 1000010, discard := false } })).store.grant =
        some { who := .stream .a, bytes := 16, endAt := 1000010, discard := false } := by decide +kernel

theorem witness_SlotsAreReleasedAndCleared :
    31 < (32#8).toNat ∧ (31#8).toNat ≤ 31 ∧ (ready.store.slotAt 31).state = .free ∧
      (withSlot (slot16 .spent)).store.slots[(2#8).toNat]? = some (slot16 .spent) ∧
      drained.store.slots[(2#8).toNat]? = some draining ∧ draining.state = .draining ∧ draining.drainPort = some .a ∧
      drained.store.streams.get .a = some (stream16 .drain) ∧ (stream16 .drain).kind = .drain ∧ (stream16 .drain).slot = 2 ∧
      ready.store.slots.length = 32 ∧ (∀ x ∈ ready.store.slots, x.state = .free ∨ x.state = .filling) ∧
      (∃ x ∈ (withSlot (slot16 .full)).store.slots, x.state = .full) ∧ ready.store.streams = PerPort.all none := by decide +kernel

theorem witness_RefreshIsOwedAndGranted :
    State.reset.store.startup = some 21000 ∧ State.reset.store.grant = none ∧ State.reset.store.wake = none ∧
      State.reset.store.buf.length < 32768 ∧ ready.store.trickle = some 1007800 ∧
      (withStores (fun b => { b with wake := some 5, urgent := true })).store.wake = some 5 ∧
      (withStores (fun b => { b with wake := some 5, urgent := true })).store.urgent = true ∧ ready.store.state = .ready ∧
      slow.fc.quiet2 = some 5 ∧ slow.fc.cadence = .liveSlow ∧ slow.store.streams = PerPort.all none ∧
      (∀ x ∈ slow.store.slots, x.state ≠ .filling) ∧ slow.store.buf = [] ∧ slow.store.remnant = 0 ∧ slow.store.backlog = 0 ∧
      slow.store.urgent = false ∧ slow.store.grant = none ∧ slow.store.wake = none := by decide

def granted (who : Requester) (bytes : Nat) (discard : Bool) : State :=
  { drained with store := { drained.store with
    buf := [(5, 1#8), (6, 2#8)], urgent := true, backlog := 2,
    grant := some { who := who, bytes := bytes, endAt := 1000010, discard := discard } } }

/-- A refresh under way, none urgent, with streams on ports A and B; port A's rank as given. -/
def contended (rankA : Int) (ring1 : RingPos) (ring2 : Port) : State :=
  { ready with
    settings := ready.settings.set (ixRankA - 1) rankA,
    store := { store0 with
      streams := { a := some (stream16 .drain), b := some { stream16 .drain with slot := 3 }, c := none }, ring1 := ring1, ring2 := ring2,
      backlog := 2, grant := some { who := .refresh, bytes := 0, endAt := 1000010, discard := false } } }

/-- The same with no stream, two or one refreshes owed. -/
def lonely (backlog : Nat) : State :=
  { ready with store := { store0 with
      backlog := backlog, grant := some { who := .refresh, bytes := 0, endAt := 1000010, discard := false } } }

/-- Choices below the first two tiers: the promoted port A before the group, the group first from its place, within it B from B on; and
with no request in the rings, an idle refresh and none. Ingest requests with 2 KiB in the buffer. -/
theorem witness_GrantEndMovesTheData_rings :
    (contended 0 .ingest .a).promoted .a = true ∧ (contended 0 .ingest .a).promoted .b = false ∧
      (contended 1 .ingest .a).promoted .a = false ∧
      (after .grantEnd (contended 0 .ingest .a)).store.grant.map Grant.who = some (.stream .a) ∧
      (after .grantEnd (contended 0 .portB .a)).store.grant.map Grant.who = some (.stream .b) ∧
      (after .grantEnd (contended 1 .ingest .a)).store.grant.map Grant.who = some (.stream .a) ∧
      (after .grantEnd (contended 1 .ingest .b)).store.grant.map Grant.who = some (.stream .b) ∧
      (after .grantEnd (contended 1 .ingest .b)).store.ring1 = .ingest ∧ (after .grantEnd (contended 1 .ingest .b)).store.ring2 = .c ∧
      (lonely 2).store.streams = PerPort.all none ∧ (lonely 2).store.buf = [] ∧ (lonely 2).store.remnant = 0 ∧
      (after .grantEnd (lonely 2)).store.grant.map Grant.who = some .refresh ∧ (after .grantEnd (lonely 1)).store.grant = none ∧
      (after .grantEnd (lonely 2)).store.urgent = false ∧
      2048 ≤ (List.replicate 2048 ((0, 0#8) : Host.Cell)).length := by decide +kernel

/-- In STILL, the last refresh owed under way. -/
def stillRefresh : State :=
  { withFrames (fun c => { c with cadence := .still }) with
    store := { store0 with backlog := 1, grant := some { who := .refresh, bytes := 0, endAt := 1000010, discard := false } } }

theorem witness_GrantEndMovesTheData_still :
    stillRefresh.store.grant = some { who := .refresh, bytes := 0, endAt := 1000010, discard := false } ∧
      stillRefresh.store.state = .ready ∧ stillRefresh.store.wake = none ∧ stillRefresh.fc.cadence = .still ∧
      stillRefresh.store.streams = PerPort.all none ∧ (∀ x ∈ stillRefresh.store.slots, x.state ≠ .filling) ∧
      (after .grantEnd stillRefresh).store.buf = [] ∧ (after .grantEnd stillRefresh).store.remnant = 0 ∧
      (after .grantEnd stillRefresh).store.backlog = 0 ∧ (after .grantEnd stillRefresh).store.urgent = false ∧
      ready.fc.cadence ≠ .still := by decide

theorem witness_GrantEndMovesTheData :
    (granted .ingest 2 false).store.grant = some { who := .ingest, bytes := 2, endAt := 1000010, discard := false } ∧
      (granted .refresh 0 false).store.grant = some { who := .refresh, bytes := 0, endAt := 1000010, discard := false } ∧
      (granted (.stream .a) 16 true).store.grant = some { who := .stream .a, bytes := 16, endAt := 1000010, discard := true } ∧
      (granted (.stream .a) 16 false).store.streams.get .a = some (stream16 .drain) ∧
      (granted .ingest 2 false).store.buf.take 2 = [(5, 1#8)] ++ (6, 2#8) :: [] ∧ (granted .ingest 2 false).store.state = .ready ∧
      (granted .ingest 2 false).store.wake = none := by decide +kernel

/-- The default table coded as Table 11-8 gives it; its CRC was computed outside the model by R191. -/
def coded (v : Int) : List Byte := [BitVec.ofInt 8 (v / 256), BitVec.ofInt 8 v]
def defaultImage : List Byte :=
  (coded 1 ++ coded 33 ++ coded 0 ++ coded 256 ++ coded 40) ++
    defaultTable.knots.flatMap (fun k =>
      coded k.amin ++ coded k.tlimit ++ coded k.inf ++ coded k.near ++ coded k.gain ++ coded k.focal) ++ [0xF4, 0x29]

set_option maxRecDepth 20000 in
theorem witness_TablesAreLoadedAndAdopted_image : defaultImage.length = 408 ∧ imagePasses defaultImage := by
  unfold imagePasses
  decide +kernel

theorem witness_TablesAreLoadedAndAdopted :
    (lensIn .stowed).lens.state = .stowed ∧ (lensIn .stowed).loader.loading = none ∧ State.reset.lens.state ≠ .stowed ∧
      State.reset.loader.loading = some 26368 ∧ (List.replicate 408 0xFF#8).length = 408 ∧ State.reset.lens.drive = .homeWait ∧
      ready.lens.drive ≠ .homeWait := by decide +kernel

theorem witness_SoftResetClearsTheBlocks :
    ready.inFlight = false ∧ exposing.inFlight = true ∧ exposing.fc.cap = some { cap0 with closed := none } ∧ 0 < cap0.travel ∧
      exposing.fc.shutter = .opened ∧ ready.lens.state = .ready ∧ State.reset.lens.state ∈ [LensState.homing, .stowed, .intermediate, .faulted] ∧
      calibrating.stab.state = .calibrating ∧ (granted .ingest 2 false).store.grant.isSome = true ∧
      (withStores (fun b => { b with state := .selfRefresh })).store.state = .selfRefresh ∧
      drained.store.slots[2]? = some draining := by decide +kernel

/-- The iris, in flight to 3 with a target pending and at p: with the planner's run asking for 3, with none, and on the way out. Slot 3
Filling with two of the three buffered bytes, the first a remnant of slot 2. -/
def settling (pos qraw : Int) : State :=
  { ready with
    ep := { ready.ep with qraw := qraw },
    lens := { lens256 with
      iris := { still pos with target := some 3, inFlight := true, pending := some { target := 1, origin := .planner, speed := 0 } } },
    store := { store0 with
      slots := store0.slots.set 3 { Slot.freed with state := .filling, bytes := 2 }, remnant := 1,
      buf := [(2 * 2 ^ 25 + 9, 1#8), (3 * 2 ^ 25, 2#8), (3 * 2 ^ 25 + 1, 3#8)] } }

theorem witness_SoftResetClearsTheBlocks_iris :
    (settling 1 10).lens.state = .ready ∧ (settling 1 10).ep.given.isSome = true ∧
      (after (.softReset .a []) (settling 1 10)).ep.capPlan.p = 3 ∧ (settling 1 10).lens.iris.pos ≠ some 3 ∧
      3 ≤ (after (.softReset .a []) (settling 1 10)).lens.pmax ∧ (settling 3 10).lens.iris.pos = some 3 ∧
      (after (.softReset .a []) (settling 3 10)).ep.capPlan.p = 3 ∧
      (withPlanner (fun x => { x with given := none })).ep.given = none ∧ (lensIn .extending).lens.state = .extending := by
  decide +kernel

theorem witness_SoftResetClearsTheBlocks_buffer :
    (∀ x ∈ ready.store.slots, x.state ≠ .filling) ∧ (∃ x ∈ (settling 1 10).store.slots, x.state = .filling) ∧
      (settling 1 10).store.firstSlot .filling = some 3 ∧
      (∀ x ∈ (settling 1 10).store.buf.take (settling 1 10).store.remnant, x.1 / 2 ^ 25 ≠ 3) ∧
      (∀ x ∈ (settling 1 10).store.buf.drop (settling 1 10).store.remnant, x.1 / 2 ^ 25 = 3) ∧
      (after (.softReset .a []) (settling 1 10)).store.buf = [(2 * 2 ^ 25 + 9, 1#8)] := by decide +kernel

theorem reset_sound : State.reset.storeSound :=
  ⟨by decide, by decide, fun h => absurd h (by decide), by decide⟩

theorem ready_counts : ready.countsOk := by
  refine ⟨by decide, by decide, by decide, by decide, by decide, by decide, by decide, cleared_shaped, cleared_shaped, ?_,
    by decide, by decide⟩
  intro r h
  simp [ready, State.reset, Statistics.powerOn] at h

/-- For the three statements about every step: from power-on with the start-up sequence's end in front. -/
theorem witness_Steps :
    ∃ t, step { State.reset with pending := [.storeStartupEnd] } = .next t ∧ t.store.state = .ready :=
  ⟨_, rfl, by decide +kernel⟩

end Sys2Proof.Tests
end

section
/-! Control links and events: how a taken request becomes an answer with its frame, what the four bytes of a kind set spell, and
how the entries of a reply are read back; then ACK EVENTS (R186) and GET SETTINGS (R179). -/

namespace Sys2Proof.Machine

/-! ### Frames compose -/

theorem Part.same_trans {x : Part} {s t u : State} (hst : x.same s t) (htu : x.same t u) : x.same s u := by
  cases x
  case memory => exact fun a => (htu a).trans (hst a)
  case events =>
    obtain ⟨hpend, hmask, hline, hocc⟩ := hst
    obtain ⟨hpend', hmask', hline', hocc'⟩ := htu
    exact ⟨hpend'.trans hpend, hmask'.trans hmask, hline'.trans hline, hocc'.trans hocc⟩
  all_goals exact Eq.trans htu hst

theorem onlyChanged_trans {l m : List Part} {s t u : State} (hst : onlyChanged l s t) (htu : onlyChanged m t u) :
    onlyChanged (m ++ l) s u := by
  obtain ⟨hpending, hepoch, hsame⟩ := hst
  obtain ⟨hpending', hepoch', hsame'⟩ := htu
  refine ⟨hpending'.trans hpending, hepoch'.trans hepoch, fun x hx => ?_⟩
  rw [List.mem_append, not_or] at hx
  exact Part.same_trans (hsame x hx.2) (hsame' x hx.1)

/-- Beginning a step clears the outputs, which no frame names. -/
theorem State.begin_onlyChanged (s : State) : onlyChanged [] s s.begin := by
  refine ⟨by simp, by simp, fun x _ => ?_⟩
  cases x <;> simp [Part.same, State.dramByte]

/-- Sending a reply touches the transaction of its own port alone (R177). -/
theorem Answer.sendTo_onlyChanged (x : Answer) (p : Port) : onlyChanged [.transaction p] x.state (x.sendTo p) := by
  refine ⟨by simp, by simp, fun y hy => ?_⟩
  cases y
  case transaction q => exact x.sendTo_other fun hqp => hy (by simp [hqp])
  all_goals simp [Part.same, State.dramByte]

/-- A change of the event sets that keeps the transactions touches the event sets and their lines alone. -/
theorem State.withLinks_onlyChanged (s : State) (f : Links → Links) (htxn : (f s.links).txn = s.links.txn) :
    onlyChanged [.events] s (s.withLinks f) := by
  refine ⟨by simp, by simp, fun y hy => ?_⟩
  cases y
  case events => exact absurd List.mem_cons_self hy
  all_goals simp [Part.same, State.dramByte, htxn]

/-- A command whose outcome is an answer sent to a port answers there, with the frame of the owner's effect. -/
theorem answers_of_sendTo {i : Instr} {s : State} {p : Port} {l : List Part} {f : State → Prop} (x : Answer)
    (hexec : exec i s = .next (x.sendTo p)) (htakes : x.takes = none) (hframe : onlyChanged l s x.state)
    (hf : f (x.sendTo p)) : answers i s p x.status x.payload l f :=
  ⟨x.sendTo p, hexec, htakes ▸ x.sendTo_replies p, onlyChanged_trans hframe (x.sendTo_onlyChanged p), hf⟩

/-- An answer of a step's beginning, the owner having no effect, changes the port's transaction alone. -/
theorem answers_of_begin {i : Instr} {s : State} {p : Port} (x : Answer) (hexec : exec i s = .next (x.sendTo p))
    (htakes : x.takes = none) (hstate : x.state = s.begin) : answers i s p x.status x.payload [] (fun _ => True) :=
  answers_of_sendTo x hexec htakes (hstate ▸ s.begin_onlyChanged) trivial

/-! ### Attention lines (R184) -/

theorem lineOf_eq_true_iff (pend mask : KindSet) : lineOf pend mask = true ↔ pend &&& mask ≠ 0 := by simp [lineOf]

theorem State.withLinks_linesFollow (s : State) (f : Links → Links) : (s.withLinks f).linesFollow := fun p => by
  rw [State.withLinks_links, Links.refresh_line, Links.refresh_pend, Links.refresh_mask, lineOf_eq_true_iff]

theorem Answer.sendTo_linesFollow {x : Answer} (h : x.state.linesFollow) (p : Port) : (x.sendTo p).linesFollow :=
  fun q => by simpa using h q

/-! ### Fields and entries (R197) -/

theorem field_be (n v : Nat) : field (be n v) 0 n = v % 256 ^ n := by
  rw [field, List.drop_zero, List.take_of_length_le (be_length n v).le, bigEndian_be]

/-- A field that ends before the second part is a field of the first. -/
theorem field_append_left (l m : List Byte) {off n : Nat} (h : off + n ≤ l.length) :
    field (l ++ m) off n = field l off n := by
  rw [field, field, List.drop_append_of_le_length (by omega), List.take_append_of_le_length (by rw [List.length_drop]; omega)]

/-- A field that begins with the second part or in it is a field of that part. -/
theorem field_append_right (l m : List Byte) (off n : Nat) : field (l ++ m) (l.length + off) n = field m off n := by
  rw [field, field, List.drop_length_add_append]

/-- In a reply of entries of one size, a field within an entry is that entry's field. -/
theorem field_flatMap_const {α : Type} (l : List α) (f : α → List Byte) {size k off n : Nat} {a : α}
    (hsize : ∀ x, (f x).length = size) (ha : l[k]? = some a) (hoff : off + n ≤ size) :
    field (l.flatMap f) (k * size + off) n = field (f a) off n := by
  rw [field, field, ← take_drop_flatMap_const l f size k hsize ha, List.drop_take, List.take_take, List.drop_drop,
    min_eq_left (by omega)]

/-! ### Sets of kinds (R197) -/

theorem kindSetOf_eq_none {payload : List Byte} (h : 2 ^ 20 ≤ field payload 0 4) : kindSetOf payload = none :=
  if_neg (Nat.not_lt.mpr h)

theorem kindSetOf_eq_some {payload : List Byte} {k : KindSet} (h : field payload 0 4 = k.toNat) :
    kindSetOf payload = some k := by
  simp [kindSetOf, h, k.isLt]

/-- A kind set sent as four bytes is read back whole. -/
theorem field_be_kindSet (k : KindSet) : field (be 4 k.toNat) 0 4 = k.toNat := by
  rw [field_be]
  exact Nat.mod_eq_of_lt (k.isLt.trans (by decide))

/-! ### ACK EVENTS (R186) -/

theorem exec_ackEvents_of_none {payload : List Byte} (hlen : payload.length = 4) (hk : kindSetOf payload = none) (p : Port)
    (s : State) : exec (.ackEvents p payload) s = .next ((answer s.begin .badArgument).sendTo p) := by
  change execAckEvents p payload s = _
  simp [execAckEvents, lengthIs, hlen, hk, State.request_ok]

theorem exec_ackEvents_of_some {payload : List Byte} {k : KindSet} (hlen : payload.length = 4) (hk : kindSetOf payload = some k)
    (p : Port) (s : State) :
    exec (.ackEvents p payload) s =
      .next ((reading (s.begin.ackKinds p k) (be 4 ((s.begin.ackKinds p k).links.pend.get p).toNat)).sendTo p) := by
  change execAckEvents p payload s = _
  simp [execAckEvents, lengthIs, hlen, hk, State.request_ok]

@[simp] theorem State.ackKinds_pend (s : State) (p : Port) (k : KindSet) :
    (s.ackKinds p k).links.pend = s.links.pend.set p (s.links.pend.get p &&& ~~~k) := rfl
@[simp] theorem State.ackKinds_mask (s : State) (p : Port) (k : KindSet) :
    (s.ackKinds p k).links.mask = s.links.mask := rfl
@[simp] theorem State.ackKinds_occ (s : State) (p : Port) (k : KindSet) : (s.ackKinds p k).links.occ = s.links.occ := rfl

theorem State.ackKinds_onlyChanged (s : State) (p : Port) (k : KindSet) : onlyChanged [.events] s (s.ackKinds p k) :=
  s.withLinks_onlyChanged _ rfl

theorem State.ackKinds_linesFollow (s : State) (p : Port) (k : KindSet) : (s.ackKinds p k).linesFollow :=
  s.withLinks_linesFollow _

/-- Settles O16: a kind set decodes to none or to its kinds, and each way the answer and its frame follow from the owner's. -/
theorem ackEventsRemovesKindsFromTheCallingPort : Obligations.AckEventsRemovesKindsFromTheCallingPort := by
  intro s p payload hlen
  refine ⟨fun hbad => ?refused, fun k hk => ?acknowledged⟩
  case refused =>
    exact answers_of_begin (answer s.begin .badArgument) (exec_ackEvents_of_none hlen (kindSetOf_eq_none hbad) p s) rfl rfl
  case acknowledged =>
    have hleft : (s.begin.ackKinds p k).links.pend.get p = s.links.pend.get p &&& ~~~k := by simp
    refine ⟨_, be_length 4 _, ?_, answers_of_sendTo (reading (s.begin.ackKinds p k) _)
      (exec_ackEvents_of_some hlen (kindSetOf_eq_some hk) p s) rfl
      (onlyChanged_trans s.begin_onlyChanged (s.begin.ackKinds_onlyChanged p k)) ?_⟩
    · rw [field_be_kindSet, hleft]
    · refine ⟨by simp, fun q hq => ?_, by simp, by simp, Answer.sendTo_linesFollow (s.begin.ackKinds_linesFollow p k) p⟩
      simp [PerPort.get_set_ne _ _ hq]

/-! ### GET SETTINGS (R179) -/

@[simp] theorem firstByte_cons (v : Byte) (l : List Byte) : firstByte (v :: l) = v.toNat := by
  simp [firstByte, field, bigEndian]

@[simp] theorem settingsCount_cons (v w : Byte) (l : List Byte) : settingsCount (v :: w :: l) = w.toNat := by
  simp [settingsCount, field, bigEndian]

theorem exec_getSettings_of_outside {first count : Byte}
    (h : first.toNat = 0 ∨ 57 < first.toNat ∨ count.toNat = 0 ∨ 50 < count.toNat) (p : Port) (s : State) :
    exec (.getSettings p [first, count]) s = .next ((answer s.begin .badArgument).sendTo p) := by
  have hout : ¬ (1 ≤ first.toNat ∧ first.toNat ≤ 57 ∧ 1 ≤ count.toNat ∧ count.toNat ≤ 50) := by omega
  change execGetSettings p [first, count] s = _
  rw [execGetSettings, show lengthIs 2 [first, count] = true from rfl, State.request_ok, firstByte_cons, settingsCount_cons,
    if_neg hout]

theorem exec_getSettings_of_within {first count : Byte}
    (h : 1 ≤ first.toNat ∧ first.toNat ≤ 57 ∧ 1 ≤ count.toNat ∧ count.toNat ≤ 50) (p : Port) (s : State) :
    exec (.getSettings p [first, count]) s =
      .next ((reading s.begin (s.begin.settingsReply first.toNat count.toNat)).sendTo p) := by
  change execGetSettings p [first, count] s = _
  rw [execGetSettings, show lengthIs 2 [first, count] = true from rfl, State.request_ok, firstByte_cons, settingsCount_cons,
    if_pos h]

/-- One (index, value) pair of the reply. -/
def State.pairReply (s : State) (i : Nat) : List Byte := be 1 i ++ beInt 4 (s.setting i)

theorem State.pairReply_length (s : State) (i : Nat) : (s.pairReply i).length = 5 := by simp [State.pairReply]

theorem State.pairReply_index (s : State) (i : Nat) : field (s.pairReply i) 0 1 = i % 256 ^ 1 := by
  rw [State.pairReply, field_append_left _ _ (by simp), field_be]

theorem State.pairReply_value (s : State) (i : Nat) :
    field (s.pairReply i) 1 4 = signedValue 4 (s.setting i) % 256 ^ 4 := by
  have h := field_append_right (be 1 i) (beInt 4 (s.setting i)) 0 4
  rw [be_length] at h
  rw [State.pairReply, h, beInt, field_be, signedValue]

/-- The indices that a reply of settings names, in their order. -/
def settingsFrom (first count : Nat) : List Nat := ((List.range 58).drop first).take count

theorem State.settingsReply_eq (s : State) (first count : Nat) :
    s.settingsReply first count = (settingsFrom first count).flatMap s.pairReply := rfl

theorem settingsFrom_length (first count : Nat) : (settingsFrom first count).length = min count (58 - first) := by
  simp [settingsFrom]

theorem settingsFrom_getElem? {first count j : Nat} (h : j < min count (58 - first)) :
    (settingsFrom first count)[j]? = some (first + j) := by
  obtain ⟨hcount, hlast⟩ := lt_min_iff.mp h
  rw [settingsFrom, List.getElem?_take_of_lt hcount, List.getElem?_drop, List.getElem?_range (by omega)]

theorem State.settingsReply_length (s : State) (first count : Nat) :
    (s.settingsReply first count).length = 5 * min count (58 - first) := by
  rw [State.settingsReply_eq, length_flatMap_const _ _ 5 s.pairReply_length, settingsFrom_length, Nat.mul_comm]

/-- Pair j of the reply is the index j places after the first, with its setting. -/
theorem State.settingsReply_carries (s : State) {first count j : Nat} (h : j < min count (58 - first)) :
    carries (s.settingsReply first count)
      [(5 * j, 1, first + j), (5 * j + 1, 4, signedValue 4 (s.setting (first + j)))] := by
  have hpair {off n : Nat} (hoff : off + n ≤ 5) :
      field (s.settingsReply first count) (5 * j + off) n = field (s.pairReply (first + j)) off n := by
    rw [State.settingsReply_eq, Nat.mul_comm,
      field_flatMap_const _ _ s.pairReply_length (settingsFrom_getElem? h) hoff]
  have hindex : field (s.settingsReply first count) (5 * j) 1 = (first + j) % 256 ^ 1 :=
    (hpair (off := 0) (by omega)).trans (s.pairReply_index _)
  have hvalue := (hpair (off := 1) (n := 4) (by omega)).trans (s.pairReply_value _)
  simp only [carries, List.forall_mem_cons]
  exact ⟨hindex, hvalue, List.forall_mem_nil _⟩

/-- Settles O19: the two operands lie outside their ranges or within, and the reply is the list of pairs entry by entry. -/
theorem getSettingsReturnsPairsUpTo57 : Obligations.GetSettingsReturnsPairsUpTo57 := by
  intro s p first count
  refine ⟨fun hout => ?refused, fun hfirst hfirst57 hcount hcount50 => ?returned⟩
  case refused =>
    exact answers_of_begin (answer s.begin .badArgument) (exec_getSettings_of_outside hout p s) rfl rfl
  case returned =>
    refine ⟨s.begin.settingsReply first.toNat count.toNat, s.begin.settingsReply_length _ _,
      answers_of_begin (reading s.begin _) (exec_getSettings_of_within ⟨hfirst, hfirst57, hcount, hcount50⟩ p s) rfl rfl,
      fun j hj => ?_⟩
    exact s.begin.settingsReply_carries hj

end Sys2Proof.Machine
end

section
/-! What every step keeps: one notion of an invariant (`Invariant`), one lemma for each operation of the model saying that it keeps
every invariant, built like the operation itself, and from these the statements about every step. The kinds that stand in a pending
set or in the occurrence set are among the invariants: an operation that is not a request of the links only adds to them. -/

namespace Sys2Proof.Machine

/-- What the operations keep. The first four are the parts of `State.safe`; `follows u` says of the state that it comes after `u`
in one command; the last two say that a raised kind stays raised. -/
inductive Invariant where
  | lines | settings | store | counts
  | follows (u : State)
  | pends (p : Port) (k : Kind)
  | occurred (k : Kind)

def Invariant.holds : Invariant → State → Prop
  | .lines, s => s.linesFollow
  | .settings, s => settingsLegal s.settings
  | .store, s => s.storeSound
  | .counts, s => s.countsOk
  | .follows u, s => s.pending = u.pending ∧ s.epoch = u.epoch ∧ u.clock ≤ s.clock
  | .pends p k, s => s.pends p k
  | .occurred k, s => s.occurred k

/-! ### The invariants block by block -/

def FrameControl.counted (c : FrameControl) : Prop := c.owed ≤ 255 ∧ c.burstCount ≤ 255
def Stabilizer.counted (b : Stabilizer) : Prop := b.backlog ≤ 3 ∧ b.rx ≤ 65535 ∧ b.ry ≤ 65535
def FocusSearch.counted (a : FocusSearch) : Prop := a.log.length ≤ 64
def Lens.counted (l : Lens) : Prop := l.slips ≤ 255

/-- The banks and pattern tables in their shape. -/
def Statistics.shaped (x : Statistics) : Prop :=
  x.active.shaped ∧ x.completed.shaped ∧ (∀ r, x.last = some r → r.bank.shaped) ∧ x.patterns.length = 3 ∧
    ∀ l ∈ x.patterns, l.length = 35 ∧ ∀ w ∈ l, w ≤ 15

/-- The store's part of `State.storeSound`. -/
def Store.sound (b : Store) : Prop :=
  b.slots.length = 32 ∧ b.backlog ≤ 3 ∧
    (b.state = .selfRefresh → (∀ x ∈ b.slots, x.state ≠ .filling) ∧ b.streams = PerPort.all none) ∧ dramWf b.dram = true

/-- Attention lines that follow the sets are those a refresh gives. -/
def Links.follow (l : Links) : Prop := ∀ p : Port, l.line.get p = true ↔ l.pend.get p &&& l.mask.get p ≠ 0

theorem State.countsOk_iff (s : State) :
    s.countsOk ↔ s.fc.counted ∧ s.lens.counted ∧ s.stab.counted ∧ s.af.counted ∧ s.st.shaped := by
  simp only [State.countsOk, FrameControl.counted, Lens.counted, Stabilizer.counted, FocusSearch.counted, Statistics.shaped]
  tauto

theorem Links.refresh_follow (l : Links) : l.refresh.follow := fun p => by
  rw [Links.refresh_line, Links.refresh_pend, Links.refresh_mask, lineOf_eq_true_iff]

section
variable {v : Invariant} {s : State}

/-! ### Updates of one block -/

theorem Invariant.holds.fc {c : FrameControl} (h : v.holds s)
    (hc : s.fc.counted → c.counted) : v.holds { s with fc := c } := by
  cases v <;> try exact h
  obtain ⟨hfc, hrest⟩ := s.countsOk_iff.1 h
  exact (State.countsOk_iff _).2 ⟨hc hfc, hrest⟩

theorem Invariant.holds.lens {l : Lens} (h : v.holds s)
    (hl : s.lens.counted → l.counted) : v.holds { s with lens := l } := by
  cases v <;> try exact h
  obtain ⟨hfc, hlens, hrest⟩ := s.countsOk_iff.1 h
  exact (State.countsOk_iff _).2 ⟨hfc, hl hlens, hrest⟩

theorem Invariant.holds.stab {b : Stabilizer} (h : v.holds s)
    (hb : s.stab.counted → b.counted) : v.holds { s with stab := b } := by
  cases v <;> try exact h
  obtain ⟨hfc, hlens, hstab, hrest⟩ := s.countsOk_iff.1 h
  exact (State.countsOk_iff _).2 ⟨hfc, hlens, hb hstab, hrest⟩

theorem Invariant.holds.af {a : FocusSearch} (h : v.holds s)
    (ha : s.af.counted → a.counted) : v.holds { s with af := a } := by
  cases v <;> try exact h
  obtain ⟨hfc, hlens, hstab, haf, hst⟩ := s.countsOk_iff.1 h
  exact (State.countsOk_iff _).2 ⟨hfc, hlens, hstab, ha haf, hst⟩

theorem Invariant.holds.st {x : Statistics} (h : v.holds s)
    (hx : s.st.shaped → x.shaped) : v.holds { s with st := x } := by
  cases v <;> try exact h
  obtain ⟨hfc, hlens, hstab, haf, hst⟩ := s.countsOk_iff.1 h
  exact (State.countsOk_iff _).2 ⟨hfc, hlens, hstab, haf, hx hst⟩

theorem Invariant.holds.store {b : Store} (h : v.holds s)
    (hb : s.store.sound → b.sound) : v.holds { s with store := b } := by
  cases v <;> first | exact h | exact hb h

theorem Invariant.holds.ep {x : Planner} (h : v.holds s) : v.holds { s with ep := x } := by cases v <;> exact h
theorem Invariant.holds.rq {x : RecordQueue} (h : v.holds s) : v.holds { s with rq := x } := by cases v <;> exact h
theorem Invariant.holds.loader {x : Loader} (h : v.holds s) : v.holds { s with loader := x } := by cases v <;> exact h
theorem Invariant.holds.begin (h : v.holds s) : v.holds s.begin := by cases v <;> exact h
theorem Invariant.holds.reach {d : Nat} (h : v.holds s) : v.holds (s.reach d) := by
  cases v <;> try exact h
  obtain ⟨hpending, hepoch, hclock⟩ := h
  exact ⟨hpending, hepoch, hclock.trans (le_max_left _ _)⟩
theorem Invariant.holds.put {o : Output} (h : v.holds s) : v.holds (s.put o) := by cases v <;> exact h
theorem Invariant.holds.chosen (h : v.holds s) : v.holds s.chosen := by cases v <;> exact h

theorem Invariant.holds.raise {k : Kind} (h : v.holds s) : v.holds (s.raise k) := by
  cases v <;> try exact h
  case lines => exact Links.refresh_follow _
  case pends p j => simpa [Invariant.holds, State.pends] using Or.inl h
  case occurred j => simpa [Invariant.holds, State.occurred] using Or.inl h

theorem Invariant.holds.raiseTo {p : Port} {k : Kind} (h : v.holds s) : v.holds (s.raiseTo p k) := by
  cases v <;> try exact h
  case lines => exact Links.refresh_follow _
  case pends q j =>
    simp only [Invariant.holds, State.pends] at h ⊢
    by_cases hq : q = p
    · subst hq; simp [h]
    · simpa [State.raiseTo, PerPort.get_set_ne _ _ hq] using h
  case occurred j => simp_all [Invariant.holds, State.occurred, State.raiseTo]

theorem Invariant.holds.setTxn {p : Port} {x : Txn} (h : v.holds s) : v.holds (s.setTxn p x) := by cases v <;> exact h

theorem Invariant.holds.sendTo {x : Answer} {p : Port} (h : v.holds x.state) : v.holds (x.sendTo p) := by cases v <;> exact h

theorem Invariant.holds.ite {c : Prop} [Decidable c] {t u : State} (ht : c → v.holds t) (hu : ¬ c → v.holds u) :
    v.holds (if c then t else u) := by
  split
  · next hc => exact ht hc
  · next hc => exact hu hc

theorem Invariant.holds.foldl {α : Type} {f : State → α → State} (hf : ∀ s a, v.holds s → v.holds (f s a)) (l : List α)
    (h : v.holds s) : v.holds (l.foldl f s) := by
  induction l generalizing s with
  | nil => exact h
  | cons a l ih => exact ih (hf s a h)

/-! ### Statistics Unit -/

theorem Bank.cleared_shaped : Bank.cleared.shaped := ⟨List.length_replicate, List.length_replicate⟩

theorem Bank.add_shaped {b : Bank} (h : b.shaped) (g : Geometry) (prev : Option (Nat × Nat × Nat)) (row col x : Nat) :
    (b.add g prev row col x).shaped := by
  obtain ⟨hzones, hfeats⟩ := h
  simp only [Bank.add]
  split <;> simp [Bank.shaped, modifyAt, hzones, hfeats]

theorem Statistics.sample_shaped {x : Statistics} (h : x.shaped) (n : Nat) : (x.sample n).shaped := by
  obtain ⟨hactive, hrest⟩ := h
  unfold Statistics.sample
  split
  · exact ⟨hactive, hrest⟩
  · dsimp only
    (repeat' split)
    · exact ⟨hactive, hrest⟩
    · exact ⟨Bank.add_shaped hactive .., hrest⟩
    · exact ⟨hactive, hrest⟩

theorem Invariant.holds.statOpen {n : StartNotice} (h : v.holds s) : v.holds (s.statOpen n) :=
  h.st (fun ⟨_, hrest⟩ => ⟨Bank.cleared_shaped, hrest⟩)

theorem Invariant.holds.onFrame {f : FrameInProgress → FrameInProgress} (h : v.holds s) : v.holds (s.onFrame f) := h.st (by exact id)
theorem Invariant.holds.statFocusDone (h : v.holds s) : v.holds s.statFocusDone := h.st (by exact id)

theorem Invariant.holds.statSwap {timedOut : Bool} (h : v.holds s) : v.holds (s.statSwap timedOut) := by
  unfold State.statSwap
  split
  · exact h
  · exact h.st fun ⟨hactive, hcompleted, _, hrest⟩ =>
      ⟨hcompleted, hactive, fun r hr => by cases hr; exact hactive, hrest⟩

/-! ### Actuators -/

theorem Invariant.holds.setAct {which : Actuator} {r : ActRecord} (h : v.holds s) : v.holds (s.setAct which r) := by
  cases which <;> exact h.lens (by exact id)

theorem Invariant.holds.drive {which : Actuator} {x : Int} {o : Origin} {n : Nat} (h : v.holds s) :
    v.holds (s.drive which x o n).1 := by
  simp only [State.drive]
  (repeat' split) <;> first | exact h.setAct | exact h.setAct.onFrame

theorem Invariant.holds.give {which : Actuator} {x : Int} {o : Origin} {n : Nat} (h : v.holds s) :
    v.holds (s.give which x o n).1 := by
  simp only [State.give]
  split
  · exact h.setAct
  · exact h.drive

theorem Invariant.holds.giveFocus {x : Int} {o : Origin} (h : v.holds s) : v.holds (s.giveFocus x o).1 := by
  simp only [State.giveFocus]
  split
  · exact h.give.statFocusDone
  · exact h.give

/-! ### Exposure Planner -/

theorem Invariant.holds.requestIris (h : v.holds s) : v.holds s.requestIris := .ite (fun _ => h.give) (fun _ => h)

theorem Invariant.holds.formPlans {amin tlimit : Int} (h : v.holds s) : v.holds (s.formPlans amin tlimit) :=
  Invariant.holds.lens (s := { s with ep := (s.formPlans amin tlimit).ep }) h.ep (by exact id)

theorem Invariant.holds.plannerRun (h : v.holds s) : v.holds s.plannerRun := by
  unfold State.plannerRun
  split
  · exact h
  · exact h.formPlans.requestIris

theorem Invariant.holds.giveLimits (h : v.holds s) : v.holds s.giveLimits := .ite (fun _ => h) (fun _ => h.ep.plannerRun)
theorem Invariant.holds.creditWatch {b : Bool} (h : v.holds s) : v.holds (s.creditWatch b) :=
  .ite (fun _ => h) (fun _ => h.plannerRun)
theorem Invariant.holds.setPenalty {b : Bool} (h : v.holds s) : v.holds (s.setPenalty b) :=
  .ite (fun _ => h) (fun _ => h.ep.plannerRun)
theorem Invariant.holds.setLock {x : LockSource} (h : v.holds s) : v.holds (s.setLock x) :=
  .ite (fun _ => h.ep) (fun _ => h.ep.plannerRun)
theorem Invariant.holds.planPrepareBegins (h : v.holds s) : v.holds s.planPrepareBegins :=
  .ite (fun _ => h.setLock) (fun _ => h)
theorem Invariant.holds.planPrepareEnds (h : v.holds s) : v.holds s.planPrepareEnds :=
  .ite (fun _ => h.setLock) (fun _ => h)
theorem Invariant.holds.setTlive {x : Int} (h : v.holds s) : v.holds (s.setTlive x) :=
  .ite (fun _ => h) (fun _ => (h.fc (by exact id)).plannerRun)
theorem Invariant.holds.meter {r : StatRecord} (h : v.holds s) : v.holds (s.meter r) :=
  .ite (fun _ => h.ep.plannerRun) (fun _ => h)

/-! ### Focus Search -/

theorem Invariant.holds.trackCheck (h : v.holds s) : v.holds s.trackCheck :=
  .ite (fun _ => h.af (by exact id)) (fun _ => .ite (fun _ => h.af (by exact id)) (fun _ => h))
theorem Invariant.holds.afLock (h : v.holds s) : v.holds s.afLock := (h.af (by exact id)).raise
theorem Invariant.holds.afFail (h : v.holds s) : v.holds s.afFail := (h.af (by exact id)).raise
theorem Invariant.holds.probeEnd (h : v.holds s) : v.holds s.probeEnd := (h.lens (by exact id)).af (by exact id)

theorem Invariant.holds.afDecide (h : v.holds s) : v.holds s.afDecide.1 := by
  unfold State.afDecide
  split <;> exact h.lens (by exact id)

theorem Invariant.holds.afAdvance (n : Nat) (h : v.holds s) : v.holds (State.afAdvance n s) := by
  induction n generalizing s with
  | zero => exact h
  | succ n ih =>
    have hnext {t : State} {w : AfWait} {x : Int} (ht : v.holds t) :
        v.holds (let y := (t.withAf (fun a => { a with wait := w })).giveFocus x .search
          if y.2 then State.afAdvance n y.1 else y.1) :=
      have hy := Invariant.holds.giveFocus (s := t.withAf (fun a => { a with wait := w })) (x := x) (o := .search) (ht.af (by exact id))
      .ite (fun _ => ih hy) (fun _ => hy)
    unfold State.afAdvance
    dsimp only
    split
    · exact h.af (by exact id)
    · exact hnext h
    · exact hnext h.afDecide
    · exact h.afLock
    · exact h.afFail
    · exact h.probeEnd
    · exact h
    · exact h

theorem Invariant.holds.afMove {w : AfWait} {x : Int} (h : v.holds s) : v.holds (s.afMove w x) :=
  have hgiven := Invariant.holds.giveFocus (s := s.withAf (fun a => { a with wait := w })) (x := x) (o := .search) (h.af (by exact id))
  .ite (fun _ => hgiven.afAdvance 4) (fun _ => hgiven)

theorem Invariant.holds.afAbort (h : v.holds s) : v.holds s.afAbort := by
  have ht : v.holds (s.withAf FocusSearch.giveUp) := h.af (by exact id)
  exact .ite (fun _ => .ite (fun _ => ht.giveFocus) (fun _ => ht)) (fun _ => h)

theorem Invariant.holds.afLeave (h : v.holds s) : v.holds s.afLeave := .ite (fun _ => h) (fun _ => h.af (by exact id))
theorem Invariant.holds.afIdle (h : v.holds s) : v.holds s.afIdle := .ite (fun _ => h.afAbort) (fun _ => h.afLeave)
theorem Invariant.holds.afFocusDone {o : Origin} (h : v.holds s) : v.holds (s.afFocusDone o) :=
  .ite (fun _ => .ite (fun _ => h.afAdvance 4) (fun _ => h.afAbort)) (fun _ => h)
theorem Invariant.holds.afStart {o : SearchOrigin} (h : v.holds s) : v.holds (s.afStart o) :=
  Invariant.holds.afMove (s := s.withAf _) (h.af fun _ => Nat.zero_le _)

theorem FocusSearch.logEntry_counted {a : FocusSearch} (h : a.counted) (e : SweepEntry) : (a.logEntry e).counted := by
  simp only [FocusSearch.counted] at h ⊢
  unfold FocusSearch.logEntry
  split
  · simp; omega
  · simp; omega

theorem Invariant.holds.coarseEnd (h : v.holds s) : v.holds s.coarseEnd :=
  Invariant.holds.afMove (s := s.withAf _) (h.af (by exact id))

/-- A change of Focus Search's state that leaves the sweep log. -/
theorem Invariant.holds.af_of_log {a : FocusSearch} (h : v.holds s) (ha : a.log = s.af.log) :
    v.holds { s with af := a } :=
  h.af fun hs => by rw [FocusSearch.counted, ha]; exact hs

theorem Invariant.holds.coarseSample {f : Nat} {x : Int} (h : v.holds s) : v.holds (s.coarseSample f x) := by
  unfold State.coarseSample
  extract_lets
  split
  · split
    · exact (h.af_of_log (by exact rfl)).coarseEnd
    · exact (h.af_of_log (by exact rfl)).afMove
  · exact .ite (fun _ => (h.af_of_log (by exact rfl)).coarseEnd) (fun _ => (h.af_of_log (by exact rfl)).afMove)

theorem Invariant.holds.settle (h : v.holds s) : v.holds s.settle := by
  have ht : v.holds (s.withAf (fun a => { a with state := .settle })) := h.af (by exact id)
  exact .ite (fun _ => ht.afMove) (fun _ => ht.afMove)

theorem Invariant.holds.fineSample {f : Nat} {x : Int} (h : v.holds s) : v.holds (s.fineSample f x) := by
  simp only [State.fineSample]
  split
  · exact Invariant.holds.settle (s := s.withAf _) (h.af (by exact id))
  · exact Invariant.holds.afMove (s := (s.withAf _).withAf _) ((h.af (by exact id)).af (by exact id))

theorem Invariant.holds.probeSample {f : Nat} {x : Int} (h : v.holds s) : v.holds (s.probeSample f x) := by
  simp only [State.probeSample]
  (repeat' split)
  · exact h
  · exact Invariant.holds.afMove (s := s.withAf _) (h.af (by exact id))
  · exact Invariant.holds.afMove (s := (s.withAf _).withAf _) ((h.af (by exact id)).af (by exact id))

theorem Invariant.holds.probeStart {f : Nat} (h : v.holds s) : v.holds (s.probeStart f) := h.af (by exact id)

theorem Invariant.holds.probeMove (h : v.holds s) : v.holds s.probeMove := by
  unfold State.probeMove
  split
  · exact h
  · exact .ite (fun _ => h.afMove) (fun _ => h)

theorem Invariant.holds.afSample {r : StatRecord} (h : v.holds s) : v.holds (s.afSample r) := by
  have ht (e : SweepEntry) : v.holds (s.withAf (fun a => a.logEntry e)) :=
    h.af fun ha => FocusSearch.logEntry_counted ha e
  simp only [State.afSample]
  split
  · exact (ht _).coarseSample
  · exact (ht _).fineSample
  · exact (ht _).probeSample
  all_goals exact ht _

theorem Invariant.holds.afCompare {r : StatRecord} (h : v.holds s) : v.holds (s.afCompare r) := by
  have ht : v.holds (s.withAf (fun a => { a with low := a.low + 1 })) := h.af (by exact id)
  exact .ite (fun _ => .ite (fun _ => ht.probeStart) (fun _ => ht)) (fun _ => h.af (by exact id))

theorem Invariant.holds.afRecord {r : StatRecord} (h : v.holds s) : v.holds (s.afRecord r) :=
  .ite (fun _ => h) (fun _ => .ite (fun _ => h.afSample) (fun _ => .ite (fun _ => h.afCompare) (fun _ => h)))

theorem Invariant.holds.afPrepareBegins (h : v.holds s) : v.holds s.afPrepareBegins :=
  .ite (fun _ => h.afStart) (fun _ => h.trackCheck)
theorem Invariant.holds.afPrepareEnds (h : v.holds s) : v.holds s.afPrepareEnds :=
  .ite (fun _ => h.afAbort) (fun _ => h.trackCheck)
theorem Invariant.holds.afShoot (h : v.holds s) : v.holds s.afShoot :=
  .ite (fun _ => h.afAbort.trackCheck) (fun _ => .ite (fun _ => h.afStart) (fun _ => h.trackCheck))

/-! ### Stabilizer -/

theorem Stabilizer.leaveActive_counted {b : Stabilizer} (h : b.counted) (window : Bool) : (b.leaveActive window).counted := by
  obtain ⟨_, hrx, hry⟩ := h
  cases window
  · exact ⟨Nat.zero_le _, hrx, hry⟩
  · exact ⟨Nat.zero_le _, le_rfl, le_rfl⟩

theorem Invariant.holds.stabSet {x : StabState} (h : v.holds s) : v.holds (s.stabSet x) := by
  refine .ite (fun _ => h) (fun _ => Invariant.holds.creditWatch (.put (h.stab fun hb => ?_)))
  have hleft : (if s.stab.state = .active then s.stab.leaveActive s.window else s.stab).counted := by
    split
    · exact Stabilizer.leaveActive_counted hb _
    · exact hb
  split
  · exact ⟨Nat.zero_le _, hleft.2⟩
  · exact hleft

theorem Invariant.holds.derive (h : v.holds s) : v.holds s.derive := .ite (fun _ => h) (fun _ => h.stabSet)
theorem Invariant.holds.calEnd {x : CalStatus} (h : v.holds s) : v.holds (s.calEnd x) := (h.stab (by exact id)).raise.stabSet
theorem Invariant.holds.calDone (h : v.holds s) : v.holds s.calDone := Invariant.holds.calEnd (s := s.withStab _) (h.stab (by exact id))
theorem Invariant.holds.calAbort (h : v.holds s) : v.holds s.calAbort := .ite (fun _ => h.calEnd) (fun _ => h)
theorem Invariant.holds.calStart (h : v.holds s) : v.holds s.calStart := h.stabSet.stab (by exact id)
theorem Invariant.holds.calTimeout (h : v.holds s) : v.holds s.calTimeout := .ite (fun _ => h.calDone) (fun _ => h.calEnd)

theorem Invariant.holds.calSample {x y : Int} (h : v.holds s) : v.holds (s.calSample x y) := by
  unfold State.calSample
  extract_lets still t u
  have ht : v.holds t := .ite (fun _ => h.chosen) (fun _ => h)
  have hu : v.holds u := ht.stab (by exact id)
  exact .ite (fun _ => h) fun _ => .ite (fun _ => .ite (fun _ => hu.calDone) (fun _ => hu))
    (fun _ => .ite (fun _ => ht.calDone) (fun _ => ht.stab (by exact id)))

theorem Invariant.holds.gyroFault {x : GyroCause} (h : v.holds s) : v.holds (s.gyroFault x) := by
  unfold State.gyroFault
  extract_lets t u
  have ht : v.holds t := (h.stab (by exact id)).raise
  have hu : v.holds u := .ite (fun _ => (ht.stab (by exact id)).raise) (fun _ => ht)
  exact hu.stabSet.creditWatch

theorem Invariant.holds.watchStuck {x y : Int} (h : v.holds s) : v.holds (s.watchStuck x y) := by
  unfold State.watchStuck
  extract_lets r1 r2 t
  have ht : v.holds t := h.stab (by exact id)
  exact .ite (fun _ => h) (fun _ => .ite (fun _ => ht) (fun _ => ht.gyroFault))

theorem Invariant.holds.watchMissed (h : v.holds s) : v.holds s.watchMissed := by
  unfold State.watchMissed
  extract_lets t
  have ht : v.holds t := h.stab (by exact id)
  exact .ite (fun _ => h) (fun _ => .ite (fun _ => ht.gyroFault) (fun _ => ht))

theorem Invariant.holds.orientNow (h : v.holds s) : v.holds s.orientNow := .ite (fun _ => h) (fun _ => h.stab (by exact id))

theorem Invariant.holds.recenterStep (h : v.holds s) : v.holds s.recenterStep :=
  .ite (fun _ => .onFrame (h.stab fun ⟨hbacklog, hrest⟩ => ⟨(Nat.sub_le _ _).trans hbacklog, hrest⟩)) (fun _ => h)

theorem Invariant.holds.panSample {x y : Int} (h : v.holds s) : v.holds (s.panSample x y) :=
  .ite (fun _ => h.stab (by exact id)) (fun _ => h)
theorem Invariant.holds.angleSample {x y : Int} (h : v.holds s) : v.holds (s.angleSample x y) :=
  .ite (fun _ => h.stab (by exact id)) (fun _ => h)

theorem Invariant.holds.shiftSample (h : v.holds s) : v.holds s.shiftSample := by
  unfold State.shiftSample
  extract_lets t
  have ht : v.holds t := h.stab (by exact id)
  refine .ite (fun _ => .ite (fun _ => ht.stab fun ⟨hbacklog, _⟩ => ?_) (fun _ => ht)) (fun _ => h)
  exact ⟨hbacklog, min_le_left _ _, min_le_left _ _⟩

theorem Invariant.holds.useSample {x y : Int} (h : v.holds s) : v.holds (s.useSample x y) :=
  h.orientNow.panSample.creditWatch.angleSample.recenterStep.shiftSample.calSample
theorem Invariant.holds.askGyro (h : v.holds s) : v.holds s.askGyro := (h.stab (by exact id)).put
theorem Invariant.holds.askOnce (h : v.holds s) : v.holds s.askOnce := .ite (fun _ => h) (fun _ => h.askGyro)
theorem Invariant.holds.nextGyro (h : v.holds s) : v.holds s.nextGyro := h.stab (by exact id)
theorem Invariant.holds.shiftMessage (h : v.holds s) : v.holds s.shiftMessage := h.put

theorem Invariant.holds.gyroReceived {x y : Int} (h : v.holds s) : v.holds (s.gyroReceived x y) := by
  unfold State.gyroReceived
  extract_lets m t u
  have ht : v.holds t := h.watchStuck
  have hu : v.holds u := .ite (fun _ => ht.useSample) (fun _ => ht)
  exact Invariant.holds.shiftMessage (s := u.withStab _) (hu.stab (by exact id))

theorem Invariant.holds.gyroMissed (h : v.holds s) : v.holds s.gyroMissed := h.watchMissed.recenterStep.shiftMessage

theorem Invariant.holds.recenterTick (h : v.holds s) : v.holds s.recenterTick := by
  unfold State.recenterTick
  extract_lets half t
  have ht : v.holds t := h.stab (by exact id)
  refine .ite (fun _ => .ite (fun _ => .raise (ht.stab ?_)) (fun _ => ht.stab ?_)) (fun _ => ht)
  · exact fun ⟨_, hrest⟩ => ⟨le_rfl, hrest⟩
  · exact fun ⟨_, hrest⟩ => ⟨min_le_left _ _, hrest⟩

theorem Invariant.holds.residualStart (h : v.holds s) : v.holds s.residualStart :=
  h.stab fun ⟨hbacklog, _⟩ => ⟨hbacklog, Nat.zero_le _, Nat.zero_le _⟩

theorem Invariant.holds.gradeEnd (h : v.holds s) : v.holds s.gradeEnd := by
  unfold State.gradeEnd
  split
  · exact h.setPenalty
  · exact Invariant.holds.setPenalty (s := s.withStab _) (h.stab (by exact id))

theorem Invariant.holds.stopSampling (h : v.holds s) : v.holds s.stopSampling :=
  have ht : v.holds (if s.requestDue then s.askGyro else s) := .ite (fun _ => h.askGyro) (fun _ => h)
  ht.stab (by exact id)

theorem Invariant.holds.resumeSampling (h : v.holds s) : v.holds s.resumeSampling :=
  .ite (fun _ => h) (fun _ => Invariant.holds.askGyro (s := s.withStab _) (h.stab (by exact id)))

theorem Invariant.holds.stabRestart (h : v.holds s) : v.holds s.stabRestart :=
  .ite (fun _ => h) (fun _ => Invariant.holds.stabSet (s := s.withStab _) (h.stab (by exact id)))

theorem Invariant.holds.stabSoftReset (h : v.holds s) : v.holds s.stabSoftReset :=
  .put (h.stab fun _ => ⟨Nat.zero_le _, Nat.zero_le _, Nat.zero_le _⟩)

/-! ### Record Queue -/

theorem Invariant.holds.staleRestart (h : v.holds s) : v.holds s.staleRestart := h.rq
theorem Invariant.holds.staleThreshold {n : Nat} (h : v.holds s) : v.holds (s.staleThreshold n) :=
  .ite (fun _ => h.rq) (fun _ => .ite (fun _ => h.rq) (fun _ => h))
theorem Invariant.holds.recordOpen {n : Nat} {m : BurstMode} (h : v.holds s) : v.holds (s.recordOpen n m) := h.rq
theorem Invariant.holds.recordStart {x : StartPart} (h : v.holds s) : v.holds (s.recordStart x) := h.rq
theorem Invariant.holds.recordEnd (h : v.holds s) : v.holds s.recordEnd := h.rq

theorem Invariant.holds.recordAppend {r : CaptureRecord} (h : v.holds s) : v.holds (s.recordAppend r) := by
  unfold State.recordAppend
  extract_lets t u
  have ht : v.holds t := h.rq.raise
  have hu : v.holds u := .ite (fun _ => ht.raise) (fun _ => ht)
  exact hu.staleRestart

theorem Invariant.holds.recordComplete {b : Bool} (h : v.holds s) : v.holds (s.recordComplete b) := by
  unfold State.recordComplete
  split
  · exact h
  · dsimp only
    split
    · exact .ite (fun _ => h.rq) (fun _ => Invariant.holds.recordAppend (s := s.withRq _) h.rq)
    · exact h.rq

theorem Invariant.holds.take {n : Word32} (h : v.holds s) : v.holds (s.take n) :=
  .ite (fun _ => Invariant.holds.staleRestart (s := s.withRq _) h.rq) (fun _ => h)
theorem Invariant.holds.withdraw {n : Nat} (h : v.holds s) : v.holds (s.withdraw n) := h.rq
theorem Invariant.holds.recordSoftReset {b : Bool} (h : v.holds s) : v.holds (s.recordSoftReset b) :=
  have ht : v.holds (if b then s.withRq (fun q => { q with opened := none }) else s) := .ite (fun _ => h.rq) (fun _ => h)
  ht.staleRestart

/-! ### Burst Store -/

theorem Store.sound.onSlot {b : Store} {i : Nat} {f : Slot → Slot} (h : b.sound)
    (hf : ∀ x : Slot, x.state ≠ .filling → (f x).state ≠ .filling) : (b.onSlot i f).sound := by
  obtain ⟨hslots, hbacklog, hself, hdram⟩ := h
  refine ⟨by simpa [Store.onSlot, modifyAt] using hslots, hbacklog, fun hstate => ?_, hdram⟩
  obtain ⟨hfilling, hstreams⟩ := hself hstate
  refine ⟨fun x hx => ?_, hstreams⟩
  obtain ⟨j, hj⟩ := List.getElem?_of_mem hx
  simp only [Store.onSlot, modifyAt, List.getElem?_modify] at hj
  obtain ⟨y, hy, rfl⟩ := Option.map_eq_some_iff.1 hj
  have hy' := hfilling y (List.mem_of_getElem? hy)
  split
  · exact hf y hy'
  · exact hy'

/-- Outside SelfRefresh the soundness of the store says nothing of its slots' states and streams. -/
theorem Store.sound.awake {b c : Store} (h : b.sound) (hstate : c.state ≠ .selfRefresh) (hslots : c.slots.length = b.slots.length)
    (hbacklog : c.backlog ≤ 3) (hdram : dramWf b.dram = true → dramWf c.dram = true) : c.sound :=
  ⟨hslots.trans h.1, hbacklog, fun hself => absurd hself hstate, hdram h.2.2.2⟩

theorem Store.sound.closeStream {b : Store} (h : b.sound) (p : Port) : ({ b with streams := b.streams.set p none } : Store).sound := by
  obtain ⟨hslots, hbacklog, hself, hdram⟩ := h
  refine ⟨hslots, hbacklog, fun hstate => ?_, hdram⟩
  obtain ⟨hfilling, hstreams⟩ := hself hstate
  exact ⟨hfilling, by rw [hstreams]; cases p <;> rfl⟩

theorem Store.sound.state_of_stream {b : Store} (h : b.sound) {p : Port} {x : Stream} (hx : b.streams.get p = some x) :
    b.state ≠ .selfRefresh := fun hstate => by
  rw [(h.2.2.1 hstate).2, PerPort.get_all] at hx
  cases hx

theorem Store.firstSlot_eq_none {b : Store} {x : SlotState} : b.firstSlot x = none ↔ ∀ y ∈ b.slots, y.state ≠ x := by
  simp [Store.firstSlot]

theorem Invariant.holds.arbitrate (h : v.holds s) : v.holds s.arbitrate := by
  unfold State.arbitrate
  (repeat' split) <;> first | exact h | exact h.store (by exact id)

theorem Store.noStreams_iff (b : Store) : b.noStreams = true ↔ b.streams = PerPort.all none := by
  rcases hb : b.streams with ⟨x, y, z⟩
  simp [Store.noStreams, hb, PerPort.all, and_assoc]

theorem Invariant.holds.enterSelfRefresh (h : v.holds s) : v.holds s.enterSelfRefresh :=
  .ite (fun ⟨_, _, hstreams, hfilling, _⟩ => h.store fun ⟨hslots, hbacklog, _, hdram⟩ =>
    ⟨hslots, hbacklog, fun _ => ⟨Store.firstSlot_eq_none.1 (Option.isNone_iff_eq_none.1 hfilling), s.store.noStreams_iff.1 hstreams⟩,
      hdram⟩) (fun _ => h)

theorem Invariant.holds.storeSettle (h : v.holds s) : v.holds s.storeSettle := h.arbitrate.enterSelfRefresh

theorem Invariant.holds.leaveSelfRefresh (h : v.holds s) : v.holds s.leaveSelfRefresh :=
  .ite (fun _ => h.store fun hb => hb.awake (by simp) rfl le_rfl id) (fun _ => h)

theorem State.leaveSelfRefresh_awake (s : State) : s.leaveSelfRefresh.store.state ≠ .selfRefresh := by
  unfold State.leaveSelfRefresh
  split
  · simp
  · assumption

theorem Invariant.holds.startupEnd (h : v.holds s) : v.holds s.startupEnd :=
  .storeSettle (s := s.withStore _) (h.store fun hb => hb.awake (by simp) rfl le_rfl id)

theorem Invariant.holds.trickleEnd (h : v.holds s) : v.holds s.trickleEnd :=
  .storeSettle (s := s.withStore _) (h.store fun ⟨hslots, _, hrest⟩ => ⟨hslots, min_le_left _ _, hrest⟩)

theorem Invariant.holds.slotFill {i : Nat} (h : v.holds s) (hready : s.store.state = .ready) : v.holds (s.slotFill i) :=
  h.store fun hb => hb.awake (by simp [hready]) (by simp [Store.onSlot, modifyAt]) hb.2.1 id

theorem Invariant.holds.ingestByte {x : Byte} (h : v.holds s) : v.holds (s.ingestByte x) := by
  unfold State.ingestByte
  split
  · exact h
  · refine .ite (fun _ => h.store fun hb => ?_) (fun _ => .ite (fun _ => h) (fun _ => .raise (h.store fun hb => ?_)))
    · exact Store.sound.onSlot (b := { s.store with buf := _ }) hb (fun _ => id)
    · exact hb.onSlot (fun _ => id)

theorem Invariant.holds.slotFull {b : Bool} (h : v.holds s) : v.holds (s.slotFull b) := by
  unfold State.slotFull
  split
  · exact h
  · exact .storeSettle (s := s.withStore _) (h.store fun hb =>
      Store.sound.onSlot (b := { s.store with remnant := _ }) hb (by simp))

theorem Invariant.holds.stallUpdate {p : Port} (h : v.holds s) : v.holds (s.stallUpdate p) := by
  unfold State.stallUpdate
  split
  · exact h
  · next x hx => exact h.store fun hb => hb.awake (hb.state_of_stream hx) rfl hb.2.1 id

theorem Slot.unpin_filling (x : Slot) (h : x.state ≠ .filling) : x.unpin.state ≠ .filling := by
  unfold Slot.unpin
  split
  · simp [Slot.freed]
  · exact h

theorem Slot.streamGone_filling {x : Slot} {k : StreamKind} {drained : SlotState} (hdrained : drained ≠ .filling)
    (h : x.state ≠ .filling) : (x.streamGone k drained).state ≠ .filling := by
  cases k
  · exact hdrained
  · exact x.unpin_filling h

theorem Invariant.holds.streamClose {p : Port} {r : EndReason} {x : SlotState} (h : v.holds s) (hx : x ≠ .filling) :
    v.holds (s.streamClose p r x) := by
  unfold State.streamClose
  split
  · exact h
  · next y hy =>
    exact h.store fun hb => Store.sound.onSlot (b := { s.store with streams := _, fifos := _, ends := _ })
      (hb.closeStream p) (fun _ hstate => Slot.streamGone_filling hx hstate)

theorem Invariant.holds.streamDone {p : Port} (h : v.holds s) : v.holds (s.streamDone p) := by
  unfold State.streamDone
  split
  · exact h
  · exact .ite (fun _ => (h.streamClose (by simp)).raiseTo) (fun _ => h)

theorem Invariant.holds.streamOpen {p : Port} {k : StreamKind} {i a b : Nat} (h : v.holds s) :
    v.holds (s.streamOpen p k i a b) := by
  have ht := h.leaveSelfRefresh.store (b := { s.leaveSelfRefresh.store with
      streams := s.leaveSelfRefresh.store.streams.set p (some { kind := k, slot := i, next := a, endOff := b, stall := none }),
      fifos := s.leaveSelfRefresh.store.fifos.set p [] })
    (fun hb => hb.awake s.leaveSelfRefresh_awake rfl hb.2.1 id)
  exact ht.streamDone.storeSettle

theorem Invariant.holds.streamByteOut {p : Port} (h : v.holds s) : v.holds (s.streamByteOut p) := by
  unfold State.streamByteOut
  split
  · exact h.put
  · exact (Invariant.holds.stallUpdate (s := (s.put _).withStore _) (h.put.store (by exact id))).streamDone.storeSettle

theorem Invariant.holds.streamCut {p : Port} (h : v.holds s) : v.holds (s.streamCut p) :=
  (Invariant.holds.raiseTo (s := (s.streamClose p .cut .full).withStore _)
    ((h.streamClose (by simp)).store (by exact id))).storeSettle

theorem Invariant.holds.streamData {p : Port} {n : Nat} (h : v.holds s) : v.holds (s.streamData p n) := by
  unfold State.streamData
  split
  · exact h
  · next x hx =>
    exact .stallUpdate (s := s.withStore _) (h.store fun hb => hb.awake (hb.state_of_stream hx) rfl hb.2.1 id)

theorem Invariant.holds.grantDone (h : v.holds s) : v.holds s.grantDone := by
  unfold State.grantDone
  split
  · exact h
  · extract_lets t u
    have ht : v.holds t := h.store (by exact id)
    have hu : v.holds u := by
      unfold u
      split
      · exact ht.store fun ⟨hslots, hbacklog, hself, hdram⟩ => ⟨hslots, hbacklog, hself, dramWf_writeAll _ hdram⟩
      · exact ht.store fun ⟨hslots, hbacklog, hrest⟩ => ⟨hslots, (Nat.sub_le _ _).trans hbacklog, hrest⟩
      · exact .ite (fun _ => ht) (fun _ => ht.streamData)
    exact hu.storeSettle

theorem Slot.release_filling (x : Slot) (_ : x.state ≠ .filling) : x.release.state ≠ .filling := by
  unfold Slot.release
  split <;> simp [Slot.freed]

theorem Invariant.holds.slotRelease {i : Nat} (h : v.holds s) : v.holds (s.slotRelease i) := by
  unfold State.slotRelease
  extract_lets x t
  have ht : v.holds t := by
    unfold t
    split
    · exact (h.streamClose (by simp)).raiseTo
    · exact h
  exact .storeSettle (s := (t.withdraw i).withStore _) (ht.withdraw.store fun hb => hb.onSlot Slot.release_filling)

theorem Invariant.holds.clearStream {p : Port} {l : List Nat} (h : v.holds s) : v.holds (s.clearStream l p) := by
  unfold State.clearStream
  split
  · exact h
  · exact .ite (fun _ => (h.streamClose (by simp)).raiseTo) (fun _ => h)

theorem Invariant.holds.clearAll {l : List Nat} (h : v.holds s) : v.holds (s.clearAll l) := by
  unfold State.clearAll
  extract_lets unread t u
  have ht : v.holds t := .foldl (fun _ _ hx => hx.clearStream) _ h
  have hu : v.holds u := .foldl (fun _ _ hx => hx.withdraw.store fun hb => hb.onSlot (by simp [Slot.freed])) _ ht
  exact .storeSettle (.ite (fun _ => hu.raise) (fun _ => hu))

theorem Invariant.holds.storeClear (h : v.holds s) : v.holds s.storeClear := .ite (fun _ => h) (fun _ => h.clearAll)

theorem Slot.softReset_filling (x : Slot) : x.softReset.state ≠ .filling := by
  unfold Slot.softReset
  split <;> simp_all [Slot.freed]

theorem Store.softReset_sound {b : Store} (h : b.sound) : b.softReset.sound := by
  obtain ⟨hslots, hbacklog, _, hdram⟩ := h
  refine ⟨by simpa [Store.softReset] using hslots, hbacklog, fun _ => ⟨fun x hx => ?_, rfl⟩, hdram⟩
  obtain ⟨y, _, rfl⟩ := List.mem_map.1 (show x ∈ b.slots.map Slot.softReset from hx)
  exact y.softReset_filling

/-! ### Lens Drive in Ready -/

theorem Invariant.holds.reinterpolate (h : v.holds s) : v.holds s.reinterpolate := by
  unfold State.reinterpolate
  extract_lets iv
  have ht : v.holds { s with lens := { s.lens with iv := iv } } := h.lens (by exact id)
  exact (ht.stab (by exact id)).giveLimits

theorem Invariant.holds.requestFocus {x : Int} {o : Origin} (h : v.holds s) : v.holds (s.requestFocus x o) :=
  .ite (fun _ => h.giveFocus.afFocusDone) (fun _ => h.giveFocus)
theorem Invariant.holds.trackFocus (h : v.holds s) : v.holds s.trackFocus := .ite (fun _ => h) (fun _ => h.requestFocus)
theorem Invariant.holds.trackIris (h : v.holds s) : v.holds s.trackIris := .ite (fun _ => h.give) (fun _ => h)
theorem Invariant.holds.trackingPoint (h : v.holds s) : v.holds s.trackingPoint :=
  .ite (fun _ => h.trackFocus.trackIris) (fun _ => h)

theorem Invariant.holds.zoomDone {o : Origin} (h : v.holds s) : v.holds (s.zoomDone o) :=
  have ht : v.holds (if o = .link then s.raise .zoomReached else s) := .ite (fun _ => h.raise) (fun _ => h)
  ht.trackingPoint

theorem Invariant.holds.requestZoom {x : Int} {o : Origin} {n : Nat} (h : v.holds s) : v.holds (s.requestZoom x o n) :=
  .ite (fun _ => h.give.zoomDone) (fun _ => h.give)

theorem Invariant.holds.zoomHalt (h : v.holds s) : v.holds s.zoomHalt := by
  unfold State.zoomHalt
  extract_lets r
  split
  · exact h.setAct.zoomDone
  · split
    · exact h
    · exact .ite (fun _ => h.setAct.raise) (fun _ => h.setAct)

theorem Invariant.holds.startPending {which : Actuator} (h : v.holds s) : v.holds (s.startPending which) := by
  unfold State.startPending
  split
  · exact h
  · cases which
    · exact h.setAct.requestZoom
    · exact h.setAct.requestFocus
    · exact h.setAct.give

theorem Invariant.holds.startAllPending (h : v.holds s) : v.holds s.startAllPending :=
  h.startPending.startPending.startPending

theorem Invariant.holds.stopMoves (h : v.holds s) : v.holds s.stopMoves :=
  have ht : v.holds (if s.lens.focus.inFlight then s.statFocusDone else s) := .ite (fun _ => h.statFocusDone) (fun _ => h)
  ht.lens (by exact id)

theorem Invariant.holds.lensSoftReset (h : v.holds s) : v.holds s.lensSoftReset := by
  unfold State.lensSoftReset
  split
  · exact h.stopMoves
  · exact h.stopMoves.lens (by exact id)
  · exact h.stopMoves.lens (by exact id)
  all_goals exact h

/-! ### Frame Control -/

theorem Invariant.holds.quietRestart (h : v.holds s) : v.holds s.quietRestart := by
  unfold State.quietRestart
  split <;> exact h.fc (by exact id)

theorem Invariant.holds.quietSync {was : Bool} (h : v.holds s) : v.holds (s.quietSync was) :=
  .ite (fun _ => h) (fun _ => .ite (fun _ => h.fc (by exact id)) (fun _ => .ite (fun _ => h.quietRestart) (fun _ => h)))

theorem Invariant.holds.watchBusy {f : State → State} (hf : v.holds (f s)) : v.holds (s.watchBusy f) := hf.quietSync

theorem Invariant.holds.burstCheck {was : Bool} (h : v.holds s) : v.holds (s.burstCheck was) := by
  have ht : v.holds (s.withFc (fun c => { c with burstCount := 0 })) := h.fc fun hc => ⟨hc.1, Nat.zero_le _⟩
  exact .ite (fun _ => ht.raise.setPenalty.trackCheck) (fun _ => h)

theorem Invariant.holds.clearShots (h : v.holds s) : v.holds s.clearShots :=
  .burstCheck (s := s.withFc _) (h.fc fun hc => ⟨Nat.zero_le _, hc.2⟩)

theorem Invariant.holds.beginTransfer {x : InEffect} (h : v.holds s) : v.holds (s.beginTransfer x) :=
  (h.fc (by exact id)).put
theorem Invariant.holds.beginLive {n : Nat} (h : v.holds s) : v.holds (s.beginLive n) := h.beginTransfer.fc (by exact id)
theorem Invariant.holds.planFirst (h : v.holds s) : v.holds s.planFirst := h.beginLive
theorem Invariant.holds.planNext (h : v.holds s) : v.holds s.planNext :=
  .ite (fun _ => h.beginLive) (fun _ => h.fc (by exact id))
theorem Invariant.holds.enterLive (h : v.holds s) : v.holds s.enterLive :=
  .planFirst (s := s.withFc _) (h.fc (by exact id))

theorem Invariant.holds.countCapture (h : v.holds s) : v.holds s.countCapture :=
  h.fc fun ⟨howed, _⟩ => ⟨howed, min_le_left _ _⟩

theorem State.ready_of_gateOpen {s : State} (h : s.gateOpen = true) : s.store.state = .ready := by
  simpa [State.gateMet] using List.all_eq_true.1 h .storeNotReady (by simp [waitReasons])

/-- The gate passes with the store Ready alone, so that no slot fills in SelfRefresh (R18, R140). -/
theorem Invariant.holds.gatePass (h : v.holds s) (hready : s.store.state = .ready) : v.holds s.gatePass := by
  unfold State.gatePass
  extract_lets slot t u c w
  have ht : v.holds t := h.countCapture.slotFill (by simpa using hready)
  have hw : v.holds w := ht.recordOpen.beginTransfer
  exact .derive (s := w.withFc _) (hw.fc (by exact id))

theorem Invariant.holds.gateFailed (h : v.holds s) : v.holds s.gateFailed :=
  .ite (fun _ => h.enterLive) (fun _ => h.fc (by exact id))
theorem Invariant.holds.evaluateGate (h : v.holds s) : v.holds s.evaluateGate :=
  .ite (fun hopen => h.gatePass (State.ready_of_gateOpen hopen)) (fun _ => h.gateFailed)
theorem Invariant.holds.liveBoundary (h : v.holds s) : v.holds s.liveBoundary :=
  .ite (fun _ => h.fc (by exact id)) (fun _ => .ite (fun hopen => h.gatePass (State.ready_of_gateOpen hopen))
    (fun _ => .ite (fun _ => h.planFirst) (fun _ => h)))
theorem Invariant.holds.leaveIdle (h : v.holds s) : v.holds s.leaveIdle :=
  .ite (fun _ => .ite (fun hopen => h.gatePass (State.ready_of_gateOpen hopen)) (fun _ => h.ep.enterLive)) (fun _ => h)
theorem Invariant.holds.stopLoop (h : v.holds s) : v.holds s.stopLoop := .ite (fun _ => h.fc (by exact id)) (fun _ => h)
theorem Invariant.holds.renewTlive (h : v.holds s) : v.holds s.renewTlive := h.setTlive
theorem Invariant.holds.goStill (h : v.holds s) : v.holds s.goStill :=
  (Invariant.holds.stopLoop (s := s.withFc _) (h.fc (by exact id))).afIdle.calAbort.stopSampling.derive.storeSettle
theorem Invariant.holds.wakeBoth (h : v.holds s) : v.holds s.wakeBoth :=
  .ite (fun _ => .ite (fun _ => h.chosen.leaveSelfRefresh.storeSettle.leaveIdle)
    (fun _ => h.chosen.leaveIdle.leaveSelfRefresh.storeSettle)) (fun _ => h.leaveSelfRefresh.storeSettle.leaveIdle)

theorem Invariant.holds.goLive {x : Cadence} (h : v.holds s) : v.holds (s.goLive x) :=
  have ht : v.holds (s.withFc (fun c => { c with cadence := x })).renewTlive :=
    .renewTlive (s := s.withFc _) (h.fc (by exact id))
  .ite (fun _ => ht.resumeSampling.derive.wakeBoth) (fun _ => ht)

theorem Invariant.holds.setCadence {x : Cadence} (h : v.holds s) : v.holds (s.setCadence x) :=
  .ite (fun _ => h) (fun _ => .ite (fun _ => h.goStill) (fun _ => h.goLive))

theorem Invariant.holds.activity (h : v.holds s) : v.holds s.activity := by
  have ht : v.holds ((s.setCadence .liveFast).withFc (fun c => { c with quiet2 := none })) := h.setCadence.fc (by exact id)
  exact .ite (fun _ => ht.fc (by exact id)) (fun _ => ht)

theorem Invariant.holds.startFrame {x : InEffect} {b : Bool} (h : v.holds s) : v.holds (s.startFrame x b) :=
  (Invariant.holds.statOpen (s := s.withFc _) (h.fc (by exact id))).put

theorem Invariant.holds.liveStart {x : Transfer} {b : Bool} (h : v.holds s) : v.holds (s.liveStart x b) := by
  unfold State.liveStart
  extract_lets y d t
  have ht : v.holds t := h.startFrame
  exact .planNext (.ite (fun _ => ht.raise) (fun _ => ht))

theorem Invariant.holds.liveEnd (h : v.holds s) : v.holds s.liveEnd := .onFrame (s := s.withFc _) (h.fc (by exact id))
theorem Invariant.holds.onCap {f : Capture → Capture} (h : v.holds s) : v.holds (s.onCap f) := h.fc (by exact id)
theorem Invariant.holds.issueClose (h : v.holds s) : v.holds s.issueClose := (h.onCap.fc (by exact id)).put

theorem Invariant.holds.captureStart {c : Capture} (h : v.holds s) : v.holds (s.captureStart c) := by
  unfold State.captureStart
  extract_lets g a q o u t1 t2 t3
  have ht1 : v.holds t1 := h.fc (by exact id)
  have ht3 : v.holds t3 := ht1.startFrame.residualStart.recordStart
  exact .ite (fun _ => ht3.raise) (fun _ => ht3)

theorem Invariant.holds.release {c : Capture} (h : v.holds s) : v.holds (s.release c) := by
  unfold State.release
  extract_lets d p span t
  have ht : v.holds t := h.captureStart
  refine .ite (fun _ => h.captureStart) (fun _ => .ite (fun _ => ?_) (fun _ => .ite (fun _ => ht.issueClose) (fun _ => ht)))
  exact .issueClose (s := s.withFc _) (h.fc (by exact id))

theorem Invariant.holds.releaseDue {c : Capture} (h : v.holds s) : v.holds (s.releaseDue c) :=
  .ite (fun _ => h.release) (fun _ => h.beginTransfer.fc (by exact id))
theorem Invariant.holds.secondTimeout {c : Capture} (h : v.holds s) : v.holds (s.secondTimeout c) := h.raise.release
theorem Invariant.holds.triggerDue {c : Capture} (h : v.holds s) : v.holds (s.triggerDue c) :=
  .ite (fun _ => h.fc (by exact id)) (fun _ => h.captureStart)

theorem Invariant.holds.acknowledge {x : Transfer} (h : v.holds s) : v.holds (s.acknowledge x) := by
  unfold State.acknowledge
  extract_lets t
  have ht : v.holds t := h.fc (by exact id)
  split
  · exact ht
  · next c _ =>
    have hu : v.holds (t.withFc (fun y => { y with cap := some { c with acked := true } })) := ht.fc (by exact id)
    exact .ite (fun _ => .ite (fun _ => hu.release) (fun _ => hu)) (fun _ => ht)

theorem Invariant.holds.pulseEnd (h : v.holds s) : v.holds s.pulseEnd := .ite (fun _ => h.put) (fun _ => h)

theorem Invariant.holds.captureEnd (h : v.holds s) : v.holds s.captureEnd := by
  unfold State.captureEnd
  extract_lets t
  have ht : v.holds t := h.fc (by exact id)
  exact ht.pulseEnd.onFrame.recordEnd.startAllPending.gradeEnd.derive

theorem Invariant.holds.takeRecord (h : v.holds s) : v.holds s.takeRecord := by
  unfold State.takeRecord
  split
  · exact h
  · exact h.meter.afRecord

theorem Invariant.holds.movesProbe {t : State} (ht : v.holds t) : v.holds (s.movesProbe t) :=
  .ite (fun _ => ht.probeMove) (fun _ => ht)
theorem Invariant.holds.handRecord (h : v.holds s) : v.holds s.handRecord := h.takeRecord.movesProbe
theorem Invariant.holds.reopen (h : v.holds s) : v.holds s.reopen := (h.fc (by exact id)).put

theorem Invariant.holds.afterReadout {k : FrameKind} (h : v.holds s) : v.holds (s.afterReadout k) := by
  unfold State.afterReadout
  split
  · exact .ite (fun _ => h.liveBoundary) (fun _ => h)
  · split
    · exact .evaluateGate (s := s.withFc _) (h.fc (by exact id))
    · exact h.reopen

theorem Invariant.holds.captureReadout {b : Bool} (h : v.holds s) : v.holds (s.captureReadout b) := by
  have ht : v.holds (s.withFc (fun c => { c with owed := c.owed - 1 })) :=
    h.fc fun ⟨howed, hburst⟩ => ⟨(Nat.sub_le _ _).trans howed, hburst⟩
  exact ht.slotFull.recordComplete.burstCheck

theorem Invariant.holds.recordFirst {k : FrameKind} (h : v.holds s) : v.holds (s.recordFirst k) := by
  unfold State.recordFirst
  split
  · exact h.handRecord.afterReadout
  · exact h.takeRecord.afterReadout.movesProbe

theorem Invariant.holds.readoutEnd {f : InputFrame} {b : Bool} (h : v.holds s) : v.holds (s.readoutEnd f b) := by
  unfold State.readoutEnd
  extract_lets t u w
  have ht : v.holds t := h.fc (by exact id)
  have hu : v.holds u := .statSwap (.ite (fun _ => ht.raise) (fun _ => ht))
  have hw : v.holds w := by
    unfold w
    split
    · exact hu
    · exact hu.captureReadout
  exact .ite (fun _ => hw.chosen.recordFirst) (fun _ => hw.chosen.afterReadout.handRecord)

theorem Invariant.holds.endReadout {b : Bool} (h : v.holds s) : v.holds (s.endReadout b) := by
  unfold State.endReadout
  split
  · exact h
  · exact .ite (fun _ => .watchBusy h.readoutEnd) (fun _ => h)

theorem Invariant.holds.settleEnd (h : v.holds s) : v.holds s.settleEnd := by
  have ht : v.holds (s.withFc (fun c => { c with settle := none, shutter := .opened })) := h.fc (by exact id)
  exact .ite (fun _ => ht.evaluateGate) (fun _ => ht)

theorem Invariant.holds.abortReopen (h : v.holds s) : v.holds s.abortReopen := (h.fc (by exact id)).put

theorem Invariant.holds.abortCapture (h : v.holds s) : v.holds s.abortCapture := by
  unfold State.abortCapture
  split
  · exact h
  · extract_lets t u due
    have ht : v.holds t := .ite (fun _ => h.pulseEnd) (fun _ => h)
    have hu : v.holds u := .ite (fun _ => ht.issueClose) (fun _ => ht)
    exact .ite (fun _ => hu.abortReopen) (fun _ => hu.fc (by exact id))

theorem Invariant.holds.fcSoftReset (h : v.holds s) : v.holds s.fcSoftReset := by
  have ht : v.holds (if s.inFlight then s.abortCapture else s) := .ite (fun _ => h.abortCapture) (fun _ => h)
  exact ht.fc fun _ => ⟨Nat.zero_le _, Nat.zero_le _⟩

theorem Statistics.softReset_shaped {x : Statistics} (h : x.shaped) : x.softReset.shaped :=
  ⟨Bank.cleared_shaped, Bank.cleared_shaped, fun _ hr => absurd hr (by simp [Statistics.softReset]), h.2.2.2⟩

/-- A soft reset clears the pending sets; it keeps every invariant that does not speak of them (R182). -/
theorem Invariant.holds.softReset (h : v.holds s) (hv : ∀ p k, v ≠ .pends p k) : v.holds s.softReset := by
  unfold State.softReset
  extract_lets wasInFlight l t1 t2 t3 t4 t5 t6 t7 t8
  have ht1 : v.holds t1 := by
    cases v <;> try exact h
    · exact Links.refresh_follow _
    · exact absurd rfl (hv _ _)
  have ht2 : v.holds t2 := ht1.fcSoftReset.lensSoftReset
  have ht3 : v.holds t3 :=
    Invariant.holds.st (s := { t2 with af := t2.af.softReset }) (ht2.af (by exact id)) Statistics.softReset_shaped
  have ht4 : v.holds t4 := ht3.recordSoftReset
  have ht5 : v.holds t5 := (Invariant.holds.leaveSelfRefresh (s := t4.withStore _) (ht4.store Store.softReset_sound)).storeSettle
  have ht6 : v.holds t6 := ht5.stabSoftReset.resumeSampling
  have ht8 : v.holds t8 := ht6.ep.derive.renewTlive.plannerRun
  exact .ite (fun _ => ht8.ep.enterLive) (fun _ => ht8)

/-! ### Lens Drive -/

theorem Invariant.holds.startTimers (h : v.holds s) : v.holds s.startTimers := by
  have ht : v.holds (s.withFc (fun c => { c with started := true })) := h.fc (by exact id)
  exact .ite (fun _ => h) (fun _ => .ite (fun _ => ht) (fun _ => ht.quietRestart))

theorem Invariant.holds.becomeReady (h : v.holds s) : v.holds s.becomeReady :=
  (h.lens (by exact id)).raise.derive.plannerRun.startTimers.leaveIdle
theorem Invariant.holds.leaveReady (h : v.holds s) : v.holds s.leaveReady :=
  (Invariant.holds.clearShots (s := s.withLens _) (h.lens (by exact id))).stopLoop.afIdle.calAbort.derive
theorem Invariant.holds.becomeStowed (h : v.holds s) : v.holds s.becomeStowed := (h.lens (by exact id)).raise
theorem Invariant.holds.lensFault {x : LensCause} (h : v.holds s) : v.holds (s.lensFault x) := (h.lens (by exact id)).raise
theorem Invariant.holds.driveLens {which : Actuator} {x : Int} {n : Nat} (h : v.holds s) : v.holds (s.driveLens which x n) :=
  .ite (fun _ => h.drive.statFocusDone) (fun _ => h.drive)
theorem Invariant.holds.driveBlind {which : Actuator} {n : Nat} (h : v.holds s) : v.holds (s.driveBlind which n) :=
  h.setAct.onFrame
theorem Invariant.holds.nextStep {which : Actuator} (h : v.holds s) : v.holds (s.nextStep which) := h.setAct
theorem Invariant.holds.setDrive {d : Drive} (h : v.holds s) : v.holds (s.setDrive d) := h.lens (by exact id)
theorem Invariant.holds.homeStart (h : v.holds s) : v.holds s.homeStart := h.driveBlind.driveBlind.setDrive
theorem Invariant.holds.homeZoom (h : v.holds s) : v.holds s.homeZoom := h.driveBlind.setDrive

theorem Invariant.holds.homeStopStep {which : Actuator} {f i : Nat} (h : v.holds s) : v.holds (s.homeStopStep which f i) := by
  unfold State.homeStopStep
  extract_lets f' i' left t u w
  have ht : v.holds t := .ite (fun _ => h.setAct) (fun _ => h.nextStep)
  have hu : v.holds u := .ite (fun _ => ht.statFocusDone) (fun _ => ht)
  have hw : v.holds w := hu.setDrive
  exact .ite (fun _ => hw.homeZoom) (fun _ => hw)

theorem Invariant.holds.homeOutStep {l : HomeLevel} {n : Nat} (h : v.holds s) : v.holds (s.homeOutStep l n) :=
  .ite (fun _ => h.nextStep.setDrive) (fun _ => .ite (fun _ => h.lensFault) (fun _ => h.nextStep.setDrive))

theorem Invariant.holds.homeFound (h : v.holds s) : v.holds s.homeFound := by
  have ht : v.holds (((s.setAct .zoom (s.act .zoom).atZero).reinterpolate.setDrive .homePark).driveLens .focus
      s.loader.table.park 0) := h.setAct.reinterpolate.setDrive.driveLens
  exact .ite (fun _ => ht) (fun _ => ht.becomeStowed)

theorem Invariant.holds.homeInStep {l : HomeLevel} {n : Nat} (h : v.holds s) : v.holds (s.homeInStep l n) :=
  .ite (fun _ => h.homeFound) (fun _ => .ite (fun _ => h.lensFault) (fun _ => h.nextStep.setDrive))

theorem Invariant.holds.extendFocus (h : v.holds s) : v.holds s.extendFocus := by
  unfold State.extendFocus
  extract_lets t u
  have ht : v.holds t := Invariant.holds.setDrive (s := s.setDistance32) (h.lens (by exact id))
  have hu : v.holds u := ht.driveLens
  exact .ite (fun _ => hu) (fun _ => hu.becomeReady)

theorem Invariant.holds.extendCheck (h : v.holds s) : v.holds s.extendCheck := .ite (fun _ => h) (fun _ => h.extendFocus)
theorem Invariant.holds.extendStart (h : v.holds s) : v.holds s.extendStart :=
  (Invariant.holds.driveLens (s := s.withLens _) (h.lens (by exact id))).driveLens.extendCheck
theorem Invariant.holds.retractCheck (h : v.holds s) : v.holds s.retractCheck := .ite (fun _ => h.becomeStowed) (fun _ => h)
theorem Invariant.holds.watchBegin {l : HomeLevel} (h : v.holds s) : v.holds (s.watchBegin l) := h.setDrive
theorem Invariant.holds.retractZoom (h : v.holds s) : v.holds s.retractZoom :=
  .ite (fun _ => h.setAct) (fun _ => h.setAct.driveBlind)

theorem Invariant.holds.retractStart (h : v.holds s) : v.holds s.retractStart := by
  unfold State.retractStart
  extract_lets t u
  have ht : v.holds t := .ite (fun _ => h.leaveReady) (fun _ => h.lens (by exact id))
  have hu : v.holds u := ht.driveLens.driveLens.retractZoom
  exact .ite (fun _ => hu.watchBegin) (fun _ => hu.setDrive)

theorem Invariant.holds.zoomBy {x : Int} (h : v.holds s) : v.holds (s.zoomBy x) := h.setAct.reinterpolate

theorem Lens.slipped_counted {l : Lens} (h : l.counted) (x : Int) : (l.slipped x).counted := by
  unfold Lens.slipped
  split
  · exact h
  · exact min_le_left _ _

theorem Invariant.holds.rebase (h : v.holds s) : v.holds s.rebase := by
  unfold State.rebase
  extract_lets x t
  have ht : v.holds t := .setAct (s := s.withLens _) (h.lens fun hl => Lens.slipped_counted hl x)
  exact ht.reinterpolate.setDrive.retractCheck

theorem Invariant.holds.retractZoomStep {l : HomeLevel} (h : v.holds s) : v.holds (s.retractZoomStep l) := by
  unfold State.retractZoomStep
  split
  · exact .ite (fun _ => h.zoomBy.nextStep.watchBegin) (fun _ => h.zoomBy.nextStep)
  · exact .ite (fun _ => h.zoomBy.nextStep.setDrive)
      (fun _ => .ite (fun _ => h.zoomBy.lensFault) (fun _ => h.zoomBy.nextStep.setDrive))
  · exact .ite (fun _ => h.zoomBy.rebase) (fun _ => .ite (fun _ => h.zoomBy.lensFault) (fun _ => h.zoomBy.nextStep))

theorem Invariant.holds.plainStep {which : Actuator} (h : v.holds s) : v.holds (s.plainStep which) :=
  .ite (fun _ => h.setAct) (fun _ => h.setAct.nextStep)

theorem Invariant.holds.zoomStep (h : v.holds s) : v.holds s.zoomStep := by
  have ht : v.holds (s.plainStep .zoom).reinterpolate := h.plainStep.reinterpolate
  exact .ite (fun _ => .ite (fun _ => ht.extendCheck) (fun _ => ht.zoomDone))
    (fun _ => .ite (fun _ => ht.trackingPoint) (fun _ => ht))

theorem Invariant.holds.focusDriven (h : v.holds s) : v.holds s.focusDriven := by
  unfold State.focusDriven
  split
  · exact h.becomeStowed
  · exact h.becomeReady
  · exact h.retractCheck
  · exact h

theorem Invariant.holds.focusStep (h : v.holds s) : v.holds s.focusStep :=
  .ite (fun _ => h.plainStep) (fun _ => .ite (fun _ => h.plainStep.statFocusDone.afFocusDone)
    (fun _ => h.plainStep.statFocusDone.focusDriven))

theorem Invariant.holds.irisStep (h : v.holds s) : v.holds s.irisStep := by
  refine .ite (fun _ => h.plainStep) (fun _ => ?_)
  split
  · exact h.plainStep.extendCheck
  · exact h.plainStep.retractCheck
  · exact h.plainStep

theorem Invariant.holds.actuatorStep {which : Actuator} {l : HomeLevel} (h : v.holds s) : v.holds (s.actuatorStep which l) := by
  unfold State.actuatorStep
  extract_lets t
  have ht : v.holds t := h.put.lens (by exact id)
  split
  · exact ht.homeStopStep
  · exact ht.homeStopStep
  · exact ht.homeOutStep
  · exact ht.homeInStep
  · exact ht.retractZoomStep
  · exact ht.retractZoomStep
  · exact ht.retractZoomStep
  · exact ht.zoomStep
  · exact ht.focusStep
  · exact ht.irisStep

theorem Invariant.holds.linkZoom {x : Int} {n : Nat} (h : v.holds s) : v.holds (s.linkZoom x n) := h.requestZoom.afAbort
theorem Invariant.holds.linkFocus {x : Int} (h : v.holds s) : v.holds (s.linkFocus x) :=
  (Invariant.holds.requestFocus (s := s.setDistance _) (h.lens (by exact id))).afIdle
theorem Invariant.holds.tableGiven (h : v.holds s) : v.holds s.tableGiven :=
  .ite (fun _ => h.reinterpolate.homeStart) (fun _ => h.reinterpolate)
theorem Invariant.holds.loadEnd {l : List Byte} (h : v.holds s) : v.holds (s.loadEnd l) :=
  .tableGiven (.ite (fun _ => h.loader) (fun _ => h.loader.raise))
theorem Invariant.holds.loadStart (h : v.holds s) : v.holds s.loadStart := h.loader.put

/-! ### Requests -/

theorem Invariant.holds.activeStep {f : State → State} (hf : v.holds (f s)) : v.holds (s.activeStep f) := hf.activity.quietSync
theorem Invariant.holds.activityOnly (h : v.holds s) : v.holds s.activityOnly := .activeStep (f := id) h

theorem Invariant.holds.prepareOn {p : Port} (h : v.holds s) : v.holds (s.prepareOn p) := by
  have ht : v.holds (s.setPrepare p true) := h.fc (by exact id)
  exact .ite (fun _ => ht) (fun _ => ht.planPrepareBegins.afPrepareBegins.derive)

theorem Invariant.holds.prepareOff {p : Port} (h : v.holds s) : v.holds (s.prepareOff p) := by
  have ht : v.holds (s.setPrepare p false) := h.fc (by exact id)
  exact .ite (fun _ => ht.planPrepareEnds.afPrepareEnds.derive) (fun _ => ht)

theorem Invariant.holds.addShots {n : Nat} (h : v.holds s) : v.holds (s.addShots n) :=
  .ite (fun _ => h.fc (by exact id)) (fun _ => h.fc fun hc => ⟨min_le_left _ _, hc.2⟩)
theorem Invariant.holds.shoot {n : Nat} (h : v.holds s) : v.holds (s.shoot n) := h.addShots.calAbort.afShoot
theorem Invariant.holds.extend (h : v.holds s) : v.holds s.extend := .ite (fun _ => h.extendStart) (fun _ => h)
theorem Invariant.holds.retract (h : v.holds s) : v.holds s.retract := .ite (fun _ => h.retractStart) (fun _ => h)

theorem Invariant.holds.setPattern {n : Nat} {w : List Nat} (h : v.holds s) (hw : w.length = 35) : v.holds (s.setPattern n w) := by
  refine h.st fun ⟨hactive, hcompleted, hlast, htables, hweights⟩ =>
    ⟨hactive, hcompleted, hlast, by simpa using htables, fun l hl => ?_⟩
  rcases List.mem_or_eq_of_mem_set hl with hold | rfl
  · exact hweights l hold
  · refine ⟨by simpa using hw, fun x hx => ?_⟩
    obtain ⟨y, _, rfl⟩ := List.mem_map.1 hx
    exact min_le_right _ _

theorem Invariant.holds.drainOpen {p : Port} {i : Nat} (h : v.holds s) : v.holds (s.drainOpen p i) :=
  .streamOpen (s := s.withStore _) (h.store fun hb => hb.onSlot (by simp))
theorem Invariant.holds.reviewOpen {p : Port} {i a n : Nat} (h : v.holds s) : v.holds (s.reviewOpen p i a n) :=
  .streamOpen (s := s.withStore _) (h.store fun hb => hb.onSlot (fun _ => id))
theorem Invariant.holds.closeStream {p : Port} (h : v.holds s) : v.holds (s.closeStream p) :=
  .ite (fun _ => (h.streamClose (by simp)).storeSettle) (fun _ => h)

/-! ### SET SETTINGS (R178) -/

theorem SettingRange.take_holds {r : SettingRange} {x : Int} (h : ∀ l, r = .codes l → x ∈ l)
    (hr : ∀ lo hi, r = .range lo hi → lo ≤ hi) : r.holds (r.take x) = true := by
  cases r with
  | range lo hi =>
    have := hr lo hi rfl
    exact Bool.and_eq_true_iff.2 ⟨decide_eq_true (le_max_left _ _), decide_eq_true (max_le this (min_le_left _ _))⟩
  | codes l => simpa [SettingRange.holds, SettingRange.take] using h l rfl

end
end Sys2Proof.Machine
end

section
/-! The settings that SET SETTINGS writes stay legal (R28, R32, R178), and with them every step keeps the four safety invariants. -/

namespace Sys2Proof.Machine

/-! ### One setting written -/

@[simp] theorem writeSetting_length (l : List Int) (i : Nat) (v : Int) : (writeSetting l i v).length = l.length :=
  List.length_set

theorem settingOf_writeSetting {l : List Int} {i j : Nat} (v : Int) (hi : 1 ≤ i) (hil : i ≤ l.length) (hj : 1 ≤ j) :
    settingOf (writeSetting l i v) j = if j = i then v else settingOf l j := by
  rw [settingOf, settingOf, writeSetting, List.getD_eq_getElem?_getD, List.getElem?_set, List.getD_eq_getElem?_getD]
  by_cases h : j = i
  · rw [if_pos (by omega), if_pos (by omega), if_pos h, Option.getD_some]
  · rw [if_neg (by omega), if_neg h]

/-- The part of legality that each setting has by itself. -/
def settingsRanged (l : List Int) : Prop := l.length = 57 ∧ ∀ i, 1 ≤ i → i ≤ 57 → (rangeOf i).holds (settingOf l i) = true

theorem settingsRanged.write {l : List Int} {i : Nat} {x : Int} (h : settingsRanged l) (hi : 1 ≤ i ∧ i ≤ 57)
    (hx : (rangeOf i).holds x = true) : settingsRanged (writeSetting l i x) := by
  obtain ⟨hlength, hrange⟩ := h
  refine ⟨by simpa using hlength, fun j hj hj57 => ?_⟩
  rw [settingOf_writeSetting x hi.1 (hlength ▸ hi.2) hj]
  split
  · next hji => exact hji ▸ hx
  · exact hrange j hj hj57

theorem SettingRange.range_holds_iff {lo hi x : Int} : (SettingRange.range lo hi).holds x = true ↔ lo ≤ x ∧ x ≤ hi := by
  rw [SettingRange.holds, Bool.and_eq_true, decide_eq_true_eq, decide_eq_true_eq]

theorem rangeOf_bounds {i : Nat} (hindex : 1 ≤ i ∧ i ≤ 57) {lo hi : Int} (h : rangeOf i = .range lo hi) : lo ≤ hi := by
  obtain ⟨hfirst, hlast⟩ := hindex
  have hall : ∀ j ∈ List.range 58, (match rangeOf j with | .range lo hi => decide (lo ≤ hi) | .codes _ => true) = true := by decide
  have hj := hall i (List.mem_range.2 (by omega))
  rw [h] at hj
  exact of_decide_eq_true hj

theorem pairOk_iff (x : Nat × Int) :
    pairOk x = true ↔ (1 ≤ x.1 ∧ x.1 ≤ 57) ∧ ∀ codes, rangeOf x.1 = .codes codes → x.2 ∈ codes := by
  rw [pairOk, Bool.and_eq_true, Bool.and_eq_true, decide_eq_true_eq, decide_eq_true_eq]
  refine and_congr_right fun _ => ?_
  split
  · next hr => simp [hr]
  · next codes hr => simp [hr]

theorem rangeOf_take_holds {x : Nat × Int} (hx : pairOk x = true) : (rangeOf x.1).holds ((rangeOf x.1).take x.2) = true := by
  obtain ⟨hindex, hcodes⟩ := (pairOk_iff x).1 hx
  exact SettingRange.take_holds hcodes fun _ _ => rangeOf_bounds hindex

theorem nearestWidth_spec (x : Int) : 64 ≤ nearestWidth x ∧ nearestWidth x ≤ 8192 ∧ nearestWidth x % 64 = 0 := by
  simp only [nearestWidth, clamp]
  omega

theorem nearestHeight_spec (x : Int) : 64 ≤ nearestHeight x ∧ nearestHeight x ≤ 8192 ∧ nearestHeight x % 2 = 0 := by
  simp only [nearestHeight, clamp]
  omega

/-! ### Pairs keep the settings legal -/

theorem settingsLegal_iff (l : List Int) :
    settingsLegal l ↔ settingsRanged l ∧ settingOf l ixFrameWidth % 64 = 0 ∧ settingOf l ixFrameHeight % 2 = 0 ∧
      settingOf l ixAfLeft + settingOf l ixAfWidth ≤ 96 ∧ settingOf l ixAfTop + settingOf l ixAfHeight ≤ 96 := by
  rw [settingsLegal, settingsRanged, and_assoc]

theorem settingsRanged.bounds {l : List Int} (h : settingsRanged l) {i : Nat} {lo hi : Int} (hindex : 1 ≤ i ∧ i ≤ 57)
    (hr : rangeOf i = .range lo hi) : lo ≤ settingOf l i ∧ settingOf l i ≤ hi :=
  SettingRange.range_holds_iff.1 (hr ▸ h.2 i hindex.1 hindex.2)

theorem lowerWindow_of_other {i : Nat} (l : List Int) (hwidth : i ≠ ixAfWidth) (hheight : i ≠ ixAfHeight) :
    lowerWindow l i = l := by
  rw [lowerWindow, if_neg hwidth, if_neg hheight]

/-- A left or top of at most what the width or height leaves (R32). -/
theorem window_holds {left width : Int} (hleft : 0 ≤ left ∧ left ≤ 93) (hwidth : width ≤ 96) :
    (SettingRange.range 0 93).holds (min left (96 - width)) = true :=
  SettingRange.range_holds_iff.2 (by omega)

/-- A value other than the window's width or height: what is taken for it keeps the settings legal. -/
theorem takenValue_legal {l : List Int} {i : Nat} {x : Int} (h : settingsLegal l) (hx : pairOk (i, x) = true)
    (hwidth : i ≠ ixAfWidth) (hheight : i ≠ ixAfHeight) : settingsLegal (writeSetting l i (takenValue l i x)) := by
  obtain ⟨hindex, -⟩ := (pairOk_iff _).1 hx
  obtain ⟨hranged, hcolumns, hrows, hleft, htop⟩ := (settingsLegal_iff l).1 h
  have hw := hranged.bounds (i := ixAfWidth) (by decide) rfl
  have hh := hranged.bounds (i := ixAfHeight) (by decide) rfl
  have hread (v : Int) {j : Nat} (hj : 1 ≤ j) : settingOf (writeSetting l i v) j = if j = i then v else settingOf l j :=
    settingOf_writeSetting v hindex.1 (hranged.1 ▸ hindex.2) hj
  refine (settingsLegal_iff _).2 ⟨hranged.write hindex ?_, ?_⟩
  · unfold takenValue
    split_ifs with hc hr hl ht
    · subst hc
      obtain ⟨hlow, hhigh, -⟩ := nearestWidth_spec x
      exact SettingRange.range_holds_iff.2 ⟨hlow, hhigh⟩
    · subst hr
      obtain ⟨hlow, hhigh, -⟩ := nearestHeight_spec x
      exact SettingRange.range_holds_iff.2 ⟨hlow, hhigh⟩
    · subst hl
      exact SettingRange.range_holds_iff.2 (by simp only [clamp]; omega)
    · subst ht
      exact SettingRange.range_holds_iff.2 (by simp only [clamp]; omega)
    · exact rangeOf_take_holds hx
  · have hcolumns' := (nearestWidth_spec x).2.2
    have hrows' := (nearestHeight_spec x).2.2
    simp only [ixAfWidth, ixAfHeight] at hwidth hheight hw hh hleft htop
    simp only [ixFrameWidth, ixFrameHeight, ixAfLeft, ixAfTop, ixAfWidth, ixAfHeight, hread, Nat.one_le_ofNat, takenValue, clamp] at *
    refine ⟨?_, ?_, ?_, ?_⟩ <;> split_ifs <;> omega

/-- A width or height, the left or top lowered to what it leaves (R32): the settings stay legal. -/
theorem lowerWindow_legal {l : List Int} {i : Nat} {x : Int} (h : settingsLegal l) (hi : i = ixAfWidth ∨ i = ixAfHeight)
    (hx : (rangeOf i).holds x = true) : settingsLegal (lowerWindow (writeSetting l i x) i) := by
  obtain ⟨hranged, hcolumns, hrows, hleft, htop⟩ := (settingsLegal_iff l).1 h
  have hl := hranged.bounds (i := ixAfLeft) (by decide) rfl
  have ht := hranged.bounds (i := ixAfTop) (by decide) rfl
  have hread (m : List Int) (hm : m.length = 57) (k : Nat) (hk : 1 ≤ k ∧ k ≤ 57) (v : Int) {j : Nat} (hj : 1 ≤ j) :
      settingOf (writeSetting m k v) j = if j = k then v else settingOf m j :=
    settingOf_writeSetting v hk.1 (hm ▸ hk.2) hj
  have hlen := hranged.1
  rcases hi with rfl | rfl
  · have hfits := SettingRange.range_holds_iff.1 hx
    have hone : settingsRanged (writeSetting l ixAfWidth x) := hranged.write (by decide) hx
    refine (settingsLegal_iff _).2 ⟨hone.write (by decide) (window_holds ?_ ?_), ?_⟩ <;>
      simp [lowerWindow, hread, hlen, ixAfLeft, ixAfWidth, ixFrameWidth, ixFrameHeight, ixAfTop, ixAfHeight] at * <;> omega
  · have hfits := SettingRange.range_holds_iff.1 hx
    have hone : settingsRanged (writeSetting l ixAfHeight x) := hranged.write (by decide) hx
    refine (settingsLegal_iff _).2 ⟨hone.write (by decide) (window_holds ?_ ?_), ?_⟩ <;>
      simp [lowerWindow, hread, hlen, ixAfLeft, ixAfWidth, ixFrameWidth, ixFrameHeight, ixAfTop, ixAfHeight] at * <;> omega

/-- A pair keeps the settings legal (R28, R32, R178): by the setting it names. -/
theorem applyPair_legal {l : List Int} {b : Bool} {x : Nat × Int} (h : settingsLegal l) (hx : pairOk x = true) :
    settingsLegal (applyPair (l, b) x).1 := by
  obtain ⟨i, y⟩ := x
  by_cases hi : i = ixAfWidth ∨ i = ixAfHeight
  · refine lowerWindow_legal h hi ?_
    rcases hi with rfl | rfl <;> exact rangeOf_take_holds hx
  · rw [not_or] at hi
    rw [applyPair, lowerWindow_of_other _ hi.1 hi.2]
    exact takenValue_legal h hx hi.1 hi.2

theorem applyPairs_legal {l : List Int} {pairs : List (Nat × Int)} (h : settingsLegal l) (hpairs : pairs.all pairOk = true) :
    settingsLegal (applyPairs l pairs).1 := by
  have hall (x : List Int × Bool) (hx : settingsLegal x.1) : settingsLegal (pairs.foldl applyPair x).1 := by
    induction pairs generalizing x with
    | nil => exact hx
    | cons y pairs ih =>
      rw [List.all_cons, Bool.and_eq_true] at hpairs
      exact ih hpairs.2 _ (applyPair_legal hx hpairs.1)
  exact hall (l, false) h

section
variable {v : Invariant} {s : State}

theorem Invariant.holds.settings {l : List Int} (h : v.holds s) (hl : settingsLegal s.settings → settingsLegal l) :
    v.holds { s with settings := l } := by
  cases v <;> first | exact h | exact hl h

theorem Invariant.holds.periodChanged {u : State} (h : v.holds s) : v.holds (s.periodChanged u) :=
  .ite (fun _ => h.renewTlive) (fun _ => h)

theorem Invariant.holds.applySettings {pairs : List (Nat × Int)} (h : v.holds s) (hpairs : pairs.all pairOk = true) :
    v.holds (s.applySettings pairs) := by
  unfold State.applySettings
  extract_lets t1 t2 t3 t4
  have ht1 : v.holds t1 := h.settings fun hl => applyPairs_legal hl hpairs
  have ht2 : v.holds t2 := ht1.periodChanged
  have ht3 : v.holds t3 := .ite (fun _ => ht2.plannerRun) (fun _ => ht2)
  have ht4 : v.holds t4 := ht3.trackCheck.derive
  exact .ite (fun _ => ht4) (fun _ => ht4.staleThreshold)

/-! ### Each command (R177) -/

/-- The invariants that every command but power-on keeps: the requests of the links alone remove kinds from the sets. -/
def Invariant.kept (v : Invariant) : Prop := (∀ p k, v ≠ .pends p k) ∧ ∀ k, v ≠ .occurred k

/-- A request that changes the event sets brings the lines up to date (R184). -/
theorem Invariant.holds.withLinks {f : Links → Links} (h : v.holds s) (hv : v.kept) : v.holds (s.withLinks f) := by
  cases v <;> try exact h
  case lines => exact s.withLinks_linesFollow f
  case pends p k => exact absurd rfl (hv.1 p k)
  case occurred k => exact absurd rfl (hv.2 k)

theorem timed_keeps {due : Option Nat} {f : State → State} (h : v.holds s) (hf : ∀ {u}, v.holds u → v.holds (f u)) :
    completes (s.timed due f) v.holds := by
  cases due with
  | none => exact ⟨_, rfl, h.begin⟩
  | some d => exact ⟨_, rfl, hf h.begin.reach⟩

theorem request_keeps {p : Port} {ok : Bool} {refused : State → State} {owner : State → Answer} (h : v.holds s)
    (hrefused : ∀ {u}, v.holds u → v.holds (refused u)) (howner : ok = true → ∀ {u}, v.holds u → v.holds (owner u).state) :
    completes (s.request p ok refused owner) v.holds := by
  cases ok with
  | false => exact ⟨_, rfl, Invariant.holds.sendTo (x := answer (refused s.begin) .badLength) (hrefused h.begin)⟩
  | true => exact ⟨_, rfl, (howner rfl h.begin).sendTo⟩

theorem Invariant.holds.answer {x : Status} (h : v.holds s) : v.holds (Machine.answer s x).state := h

/-- An owner's answer that is one of two. -/
theorem Invariant.holds.iteAnswer {c : Prop} [Decidable c] {x y : Answer} (hx : c → v.holds x.state) (hy : ¬ c → v.holds y.state) :
    v.holds (if c then x else y).state := by
  split
  · next hc => exact hx hc
  · next hc => exact hy hc

theorem Invariant.holds.pixel {x : Sample} {l : List Byte} (h : v.holds s) : v.holds (s.pixel x l) := by
  unfold State.pixel
  split
  · exact h
  · have ht : v.holds { s with st := s.st.sample x.toNat } := h.st fun hx => Statistics.sample_shaped hx _
    refine .ite (fun _ => ?_) (fun _ => h)
    split
    · exact ht
    · exact (Invariant.holds.foldl (fun _ _ hu => hu.ingestByte) l ht).storeSettle

theorem Invariant.holds.liveTransfer (h : v.holds s) : v.holds s.liveTransfer := by
  unfold State.liveTransfer
  split
  · exact h.beginLive
  · exact h
  · exact h

theorem Invariant.holds.liveStartNow (h : v.holds s) : v.holds s.liveStartNow := by
  unfold State.liveStartNow
  split
  · exact h.liveStart
  · exact h
  · exact h

theorem Invariant.holds.withCap {f : State → Capture → State} (h : v.holds s) (hf : ∀ {c}, v.holds (f s c)) :
    v.holds (State.withCap f s) := by
  unfold State.withCap
  split
  · exact h
  · exact hf

theorem Invariant.holds.finishReply {p : Port} {r : Reply} (h : v.holds s) : v.holds (s.finishReply p r) := by
  refine .setTxn ?_
  split
  · exact h
  · exact h.take

theorem Invariant.holds.replyReady {p : Port} (h : v.holds s) : v.holds (s.replyReady p) := by
  unfold State.replyReady
  split
  · exact h.setTxn
  all_goals exact h

theorem Invariant.holds.replyEnd {p : Port} (h : v.holds s) : v.holds (s.replyEnd p) := by
  unfold State.replyEnd
  split
  · exact h.put.finishReply
  all_goals exact h

theorem Invariant.holds.replyByte {p : Port} {r : Reply} {n : Nat} (h : v.holds s) : v.holds (s.replyByte p r n) :=
  .ite (fun _ => h.put.finishReply) (fun _ => h.put.setTxn)

/-! ### Requests -/

theorem Invariant.holds.execPrepare {p : Port} {l : List Byte} (h : v.holds s) : completes (execPrepare p l s) v.holds :=
  request_keeps h (·.activityOnly) fun _ _ hu => .activeStep (f := fun x => x.prepareOn p) hu.prepareOn
theorem Invariant.holds.execUnprepare {p : Port} {l : List Byte} (h : v.holds s) : completes (execUnprepare p l s) v.holds :=
  request_keeps h id fun _ _ hu => .watchBusy (f := fun x => x.prepareOff p) hu.prepareOff
theorem Invariant.holds.execShoot {p : Port} {l : List Byte} (h : v.holds s) : completes (execShoot p l s) v.holds :=
  request_keeps h (·.activityOnly) fun _ _ hu => .iteAnswer
    (fun _ => .activeStep (f := fun x => x.shoot (shootCount l)) hu.shoot) (fun _ => hu.activityOnly)
theorem Invariant.holds.execStopBurst {p : Port} {l : List Byte} (h : v.holds s) : completes (execStopBurst p l s) v.holds :=
  request_keeps h id fun _ _ hu => .watchBusy hu.clearShots

theorem Invariant.holds.execSetPattern {p : Port} {l : List Byte} (h : v.holds s) : completes (execSetPattern p l s) v.holds := by
  refine request_keeps h id fun hl _ hu => .iteAnswer (fun _ => hu) (fun _ => hu.setPattern ?_)
  rw [patternWeights, List.length_map, List.length_drop, of_decide_eq_true hl]

theorem Invariant.holds.execReadStatistics {p : Port} {l : List Byte} (h : v.holds s) : completes (execReadStatistics p l s) v.holds :=
  request_keeps h id fun _ _ hu => .iteAnswer (fun _ => hu)
    (fun _ => .iteAnswer (fun _ => hu) (fun _ => hu))
theorem Invariant.holds.execAeLock {p : Port} {l : List Byte} (h : v.holds s) : completes (execAeLock p l s) v.holds :=
  request_keeps h id fun _ _ hu => hu.setLock
theorem Invariant.holds.execAeUnlock {p : Port} {l : List Byte} (h : v.holds s) : completes (execAeUnlock p l s) v.holds :=
  request_keeps h id fun _ _ hu => hu.setLock
theorem Invariant.holds.execGetPlan {p : Port} {l : List Byte} (h : v.holds s) : completes (execGetPlan p l s) v.holds :=
  request_keeps h id fun _ _ hu => hu
theorem Invariant.holds.execExtend {p : Port} {l : List Byte} (h : v.holds s) : completes (execExtend p l s) v.holds :=
  request_keeps h (·.activityOnly) fun _ _ hu => .activeStep hu.extend
theorem Invariant.holds.execRetract {p : Port} {l : List Byte} (h : v.holds s) : completes (execRetract p l s) v.holds :=
  request_keeps h id fun _ _ hu => .watchBusy hu.retract
theorem Invariant.holds.execZoomTo {p : Port} {l : List Byte} (h : v.holds s) : completes (execZoomTo p l s) v.holds :=
  request_keeps h (·.activityOnly) fun _ _ hu => .iteAnswer (fun _ => hu.activityOnly)
    (fun _ => .iteAnswer (fun _ => hu.activityOnly)
      (fun _ => .activeStep (f := fun x => x.linkZoom (zoomTarget l) (zoomToSpeed l)) hu.linkZoom))
theorem Invariant.holds.execZoomRun {p : Port} {l : List Byte} (h : v.holds s) : completes (execZoomRun p l s) v.holds :=
  request_keeps h (·.activityOnly) fun _ _ hu => .iteAnswer (fun _ => hu.activityOnly)
    (fun _ => .iteAnswer (fun _ => hu.activityOnly)
      (fun _ => .activeStep (f := fun x => x.linkZoom (x.runTarget (runDirection l)) (runSpeed l)) hu.linkZoom))
theorem Invariant.holds.execZoomHalt {p : Port} {l : List Byte} (h : v.holds s) : completes (execZoomHalt p l s) v.holds :=
  request_keeps h id fun _ _ hu => .iteAnswer (fun _ => hu.zoomHalt) (fun _ => hu)
theorem Invariant.holds.execFocusTo {p : Port} {l : List Byte} (h : v.holds s) : completes (execFocusTo p l s) v.holds :=
  request_keeps h (·.activityOnly) fun _ _ hu => .iteAnswer
    (fun _ => .activeStep (f := fun x => x.linkFocus (focusTarget l)) hu.linkFocus) (fun _ => hu.activityOnly)
theorem Invariant.holds.execGetLensState {p : Port} {l : List Byte} (h : v.holds s) : completes (execGetLensState p l s) v.holds :=
  request_keeps h id fun _ _ hu => hu
theorem Invariant.holds.execAfStart {p : Port} {l : List Byte} (h : v.holds s) : completes (execAfStart p l s) v.holds :=
  request_keeps h (·.activityOnly) fun _ _ hu => .iteAnswer
    (fun _ => .activeStep (f := fun x => x.afStart .command) hu.afStart) (fun _ => hu.activityOnly)
theorem Invariant.holds.execAfCancel {p : Port} {l : List Byte} (h : v.holds s) : completes (execAfCancel p l s) v.holds :=
  request_keeps h id fun _ _ hu => hu.afIdle
theorem Invariant.holds.execReadSweepLog {p : Port} {l : List Byte} (h : v.holds s) : completes (execReadSweepLog p l s) v.holds :=
  request_keeps h id fun _ _ hu => .iteAnswer (fun _ => hu) (fun _ => hu)
theorem Invariant.holds.execCalibrateBias {p : Port} {l : List Byte} (h : v.holds s) : completes (execCalibrateBias p l s) v.holds :=
  request_keeps h id fun _ _ hu => .iteAnswer (fun _ => hu.calStart) (fun _ => hu)
theorem Invariant.holds.execCalCancel {p : Port} {l : List Byte} (h : v.holds s) : completes (execCalCancel p l s) v.holds :=
  request_keeps h id fun _ _ hu => hu.calAbort
theorem Invariant.holds.execStabRestart {p : Port} {l : List Byte} (h : v.holds s) : completes (execStabRestart p l s) v.holds :=
  request_keeps h id fun _ _ hu => hu.stabRestart
theorem Invariant.holds.execGetStabState {p : Port} {l : List Byte} (h : v.holds s) : completes (execGetStabState p l s) v.holds :=
  request_keeps h id fun _ _ hu => hu

theorem Invariant.holds.execOpenDrain {p : Port} {l : List Byte} (h : v.holds s) : completes (execOpenDrain p l s) v.holds := by
  refine request_keeps h id fun _ _ hu => ?_
  split
  · exact hu
  · exact hu.drainOpen

theorem Invariant.holds.execOpenReview {p : Port} {l : List Byte} (h : v.holds s) : completes (execOpenReview p l s) v.holds := by
  refine request_keeps h id fun _ _ hu => ?_
  split
  · exact hu
  · exact hu.reviewOpen

theorem Invariant.holds.execCloseStream {p : Port} {l : List Byte} (h : v.holds s) : completes (execCloseStream p l s) v.holds :=
  request_keeps h id fun _ _ hu => hu.closeStream
theorem Invariant.holds.execRejoin {p : Port} {l : List Byte} (h : v.holds s) : completes (execRejoin p l s) v.holds :=
  request_keeps h id fun _ _ hu => hu.store (by exact id)
theorem Invariant.holds.execReleaseSlot {p : Port} {l : List Byte} (h : v.holds s) : completes (execReleaseSlot p l s) v.holds :=
  request_keeps h id fun _ _ hu => .iteAnswer (fun _ => hu)
    (fun _ => .iteAnswer (fun _ => hu.slotRelease) (fun _ => hu))
theorem Invariant.holds.execClearStore {p : Port} {l : List Byte} (h : v.holds s) : completes (execClearStore p l s) v.holds :=
  request_keeps h id fun _ _ hu => hu.storeClear
theorem Invariant.holds.execGetStoreState {p : Port} {l : List Byte} (h : v.holds s) : completes (execGetStoreState p l s) v.holds :=
  request_keeps h id fun _ _ hu => hu
theorem Invariant.holds.execReadSlots {p : Port} {l : List Byte} (h : v.holds s) : completes (execReadSlots p l s) v.holds :=
  request_keeps h id fun _ _ hu => .iteAnswer (fun _ => hu) (fun _ => hu)
theorem Invariant.holds.execTakeRecord {p : Port} {l : List Byte} (h : v.holds s) : completes (execTakeRecord p l s) v.holds :=
  request_keeps h id fun _ _ hu => hu
theorem Invariant.holds.execQueueStatus {p : Port} {l : List Byte} (h : v.holds s) : completes (execQueueStatus p l s) v.holds :=
  request_keeps h id fun _ _ hu => hu
theorem Invariant.holds.execSetSettings {p : Port} {l : List Byte} (h : v.holds s) : completes (execSetSettings p l s) v.holds :=
  request_keeps h id fun _ _ hu => .iteAnswer (fun hok => hu.applySettings hok) (fun _ => hu)
theorem Invariant.holds.execGetSettings {p : Port} {l : List Byte} (h : v.holds s) : completes (execGetSettings p l s) v.holds :=
  request_keeps h id fun _ _ hu => .iteAnswer (fun _ => hu) (fun _ => hu)
theorem Invariant.holds.execGetState {p : Port} {l : List Byte} (h : v.holds s) : completes (execGetState p l s) v.holds :=
  request_keeps h id fun _ _ hu => hu
theorem Invariant.holds.execNudge {p : Port} {l : List Byte} (h : v.holds s) : completes (execNudge p l s) v.holds :=
  request_keeps h (·.activityOnly) fun _ _ hu => hu.activityOnly
theorem Invariant.holds.execSoftReset {p : Port} {l : List Byte} (h : v.holds s) (hv : v.kept) : completes (execSoftReset p l s) v.holds :=
  request_keeps h id fun _ _ hu => (hu.softReset hv.1).answer
theorem Invariant.holds.execReadEvents {p : Port} {l : List Byte} (h : v.holds s) : completes (execReadEvents p l s) v.holds :=
  request_keeps h id fun _ _ hu => hu

theorem Invariant.holds.execAckEvents {p : Port} {l : List Byte} (h : v.holds s) (hv : v.kept) : completes (execAckEvents p l s) v.holds := by
  refine request_keeps h id fun _ _ hu => ?_
  split
  · exact hu
  · exact .withLinks (f := fun l => { l with pend := l.pend.set p (l.pend.get p &&& ~~~_) }) hu hv

theorem Invariant.holds.execSetEventMask {p : Port} {l : List Byte} (h : v.holds s) (hv : v.kept) : completes (execSetEventMask p l s) v.holds := by
  refine request_keeps h id fun _ _ hu => ?_
  split
  · exact hu
  · exact .withLinks (f := fun l => { l with mask := l.mask.set p _ }) hu hv

theorem Invariant.holds.execClearOccurrences {p : Port} {l : List Byte} (h : v.holds s) (hv : v.kept) : completes (execClearOccurrences p l s) v.holds := by
  refine request_keeps h id fun _ _ hu => ?_
  split
  · exact hu
  · exact .withLinks (f := fun l => { l with occ := l.occ &&& ~~~_ }) hu hv

theorem Invariant.holds.execReloadTable {p : Port} {l : List Byte} (h : v.holds s) : completes (execReloadTable p l s) v.holds :=
  request_keeps h id fun _ _ hu => .iteAnswer (fun _ => hu.loadStart) (fun _ => hu)

/-! ### Events -/

theorem Invariant.holds.execQuietTimer1Expiry (h : v.holds s) : completes (execQuietTimer1Expiry s) v.holds :=
  timed_keeps h fun hu => .fc (.setCadence (s := State.withFc _ _) (hu.fc (by exact id))) (by exact id)
theorem Invariant.holds.execQuietTimer2Expiry (h : v.holds s) : completes (execQuietTimer2Expiry s) v.holds :=
  timed_keeps h fun hu => .setCadence (s := State.withFc _ _) (hu.fc (by exact id))
theorem Invariant.holds.execLiveSettingsTransfer (h : v.holds s) : completes (execLiveSettingsTransfer s) v.holds :=
  timed_keeps h (·.liveTransfer)
theorem Invariant.holds.execLiveExposureStart (h : v.holds s) : completes (execLiveExposureStart s) v.holds :=
  timed_keeps h (·.liveStartNow)
theorem Invariant.holds.execLiveExposureEnd (h : v.holds s) : completes (execLiveExposureEnd s) v.holds :=
  timed_keeps h (·.liveEnd)
theorem Invariant.holds.execReadoutTimeout (h : v.holds s) : completes (execReadoutTimeout s) v.holds :=
  timed_keeps h (·.endReadout)
theorem Invariant.holds.execCaptureRelease (h : v.holds s) : completes (execCaptureRelease s) v.holds :=
  timed_keeps h fun hu => hu.withCap hu.releaseDue
theorem Invariant.holds.execSecondTransferTimeout (h : v.holds s) : completes (execSecondTransferTimeout s) v.holds :=
  timed_keeps h fun hu => hu.withCap hu.secondTimeout
theorem Invariant.holds.execCaptureTrigger (h : v.holds s) : completes (execCaptureTrigger s) v.holds :=
  timed_keeps h fun hu => hu.withCap hu.triggerDue
theorem Invariant.holds.execCloseCommand (h : v.holds s) : completes (execCloseCommand s) v.holds :=
  timed_keeps h (·.issueClose)
theorem Invariant.holds.execCaptureExposureEnd (h : v.holds s) : completes (execCaptureExposureEnd s) v.holds :=
  timed_keeps h (·.captureEnd)
theorem Invariant.holds.execReopenSettleExpiry (h : v.holds s) : completes (execReopenSettleExpiry s) v.holds :=
  timed_keeps h fun hu => .watchBusy hu.settleEnd
theorem Invariant.holds.execAbortReopen (h : v.holds s) : completes (execAbortReopen s) v.holds :=
  timed_keeps h (·.abortReopen)
theorem Invariant.holds.execActuatorStep {which : Actuator} {level : HomeLevel} (h : v.holds s) : completes (execActuatorStep which level s) v.holds :=
  timed_keeps h fun hu => .watchBusy (f := fun x => x.actuatorStep which level) hu.actuatorStep
theorem Invariant.holds.execGyroSampleReceived {x y : Rate} (h : v.holds s) : completes (execGyroSampleReceived x y s) v.holds :=
  timed_keeps h fun hu => hu.askOnce.gyroReceived.nextGyro
theorem Invariant.holds.execGyroSampleMissed (h : v.holds s) : completes (execGyroSampleMissed s) v.holds :=
  timed_keeps h fun hu => hu.askOnce.gyroMissed.nextGyro.askGyro
theorem Invariant.holds.execRecenterTick (h : v.holds s) : completes (execRecenterTick s) v.holds :=
  timed_keeps h (·.recenterTick)
theorem Invariant.holds.execCalibrationTimeout (h : v.holds s) : completes (execCalibrationTimeout s) v.holds :=
  timed_keeps h (·.calTimeout)
theorem Invariant.holds.execStoreStartupEnd (h : v.holds s) : completes (execStoreStartupEnd s) v.holds :=
  timed_keeps h (·.startupEnd)
theorem Invariant.holds.execTrickleExpiry (h : v.holds s) : completes (execTrickleExpiry s) v.holds :=
  timed_keeps h (·.trickleEnd)
theorem Invariant.holds.execGrantEnd (h : v.holds s) : completes (execGrantEnd s) v.holds :=
  timed_keeps h (·.grantDone)
theorem Invariant.holds.execDramWake (h : v.holds s) : completes (execDramWake s) v.holds :=
  timed_keeps h fun {u} hu => .storeSettle (s := u.withStore _) (hu.store (by exact id))
theorem Invariant.holds.execStallLimitExpiry {p : Port} (h : v.holds s) : completes (execStallLimitExpiry p s) v.holds :=
  timed_keeps h (·.streamCut)
theorem Invariant.holds.execStaleTimerExpiry (h : v.holds s) : completes (execStaleTimerExpiry s) v.holds :=
  timed_keeps h fun hu => hu.rq.raise
theorem Invariant.holds.execTableLoadEnd {image : List Byte} (h : v.holds s) : completes (execTableLoadEnd image s) v.holds :=
  timed_keeps h (·.loadEnd)

theorem Invariant.holds.execSettingsAcknowledgement {n : Nat} (h : v.holds s) :
    completes (execSettingsAcknowledgement n s) v.holds := by
  unfold Machine.execSettingsAcknowledgement
  split
  · exact ⟨_, rfl, h.begin⟩
  · exact ⟨_, rfl, h.begin.acknowledge⟩

/-- Every command but power-on and a byte time, from the lemma about its effect. -/
theorem exec_keeps_apart {i : Instr} (hv : v.kept) (h : v.holds s) (hreset : i ≠ .powerOnReset)
    (hbyte : ∀ p din, i ≠ .linkByteEnd p din) : completes (exec i s) v.holds := by
  cases i with
  | powerOnReset => exact absurd rfl hreset
  | linkByteEnd p din => exact absurd rfl (hbyte p din)
  | transactionStart p => exact ⟨_, rfl, .ite (fun _ => h.begin.setTxn) (fun _ => h.begin)⟩
  | transactionEnd p => exact ⟨_, rfl, h.begin.setTxn⟩
  | badCommandRequest p n => exact ⟨_, rfl, Invariant.holds.sendTo (x := answer s.begin .badCommand) h.begin⟩
  | replyReady p => exact ⟨_, rfl, h.begin.replyReady⟩
  | replyEnd p => exact ⟨_, rfl, h.begin.replyEnd⟩
  | prepare p l => exact h.execPrepare
  | unprepare p l => exact h.execUnprepare
  | shoot p l => exact h.execShoot
  | stopBurst p l => exact h.execStopBurst
  | setPattern p l => exact h.execSetPattern
  | readStatistics p l => exact h.execReadStatistics
  | aeLock p l => exact h.execAeLock
  | aeUnlock p l => exact h.execAeUnlock
  | getPlan p l => exact h.execGetPlan
  | extend p l => exact h.execExtend
  | retract p l => exact h.execRetract
  | zoomTo p l => exact h.execZoomTo
  | zoomRun p l => exact h.execZoomRun
  | zoomHalt p l => exact h.execZoomHalt
  | focusTo p l => exact h.execFocusTo
  | getLensState p l => exact h.execGetLensState
  | afStart p l => exact h.execAfStart
  | afCancel p l => exact h.execAfCancel
  | readSweepLog p l => exact h.execReadSweepLog
  | calibrateBias p l => exact h.execCalibrateBias
  | calCancel p l => exact h.execCalCancel
  | stabRestart p l => exact h.execStabRestart
  | getStabState p l => exact h.execGetStabState
  | openDrain p l => exact h.execOpenDrain
  | openReview p l => exact h.execOpenReview
  | closeStream p l => exact h.execCloseStream
  | rejoin p l => exact h.execRejoin
  | releaseSlot p l => exact h.execReleaseSlot
  | clearStore p l => exact h.execClearStore
  | getStoreState p l => exact h.execGetStoreState
  | readSlots p l => exact h.execReadSlots
  | takeRecord p l => exact h.execTakeRecord
  | queueStatus p l => exact h.execQueueStatus
  | setSettings p l => exact h.execSetSettings
  | getSettings p l => exact h.execGetSettings
  | getState p l => exact h.execGetState
  | nudge p l => exact h.execNudge
  | softReset p l => exact h.execSoftReset hv
  | readEvents p l => exact h.execReadEvents
  | ackEvents p l => exact h.execAckEvents hv
  | setEventMask p l => exact h.execSetEventMask hv
  | clearOccurrences p l => exact h.execClearOccurrences hv
  | reloadTable p l => exact h.execReloadTable
  | quietTimer1Expiry => exact h.execQuietTimer1Expiry
  | quietTimer2Expiry => exact h.execQuietTimer2Expiry
  | liveSettingsTransfer => exact h.execLiveSettingsTransfer
  | liveExposureStart => exact h.execLiveExposureStart
  | liveExposureEnd => exact h.execLiveExposureEnd
  | readoutTimeout => exact h.execReadoutTimeout
  | captureRelease => exact h.execCaptureRelease
  | secondTransferTimeout => exact h.execSecondTransferTimeout
  | captureTrigger => exact h.execCaptureTrigger
  | closeCommand => exact h.execCloseCommand
  | captureExposureEnd => exact h.execCaptureExposureEnd
  | reopenSettleExpiry => exact h.execReopenSettleExpiry
  | abortReopen => exact h.execAbortReopen
  | actuatorStep which level => exact h.execActuatorStep
  | gyroSampleReceived x y => exact h.execGyroSampleReceived
  | gyroSampleMissed => exact h.execGyroSampleMissed
  | recenterTick => exact h.execRecenterTick
  | calibrationTimeout => exact h.execCalibrationTimeout
  | storeStartupEnd => exact h.execStoreStartupEnd
  | trickleExpiry => exact h.execTrickleExpiry
  | grantEnd => exact h.execGrantEnd
  | dramWake => exact h.execDramWake
  | stallLimitExpiry p => exact h.execStallLimitExpiry
  | staleTimerExpiry => exact h.execStaleTimerExpiry
  | tableLoadEnd image => exact h.execTableLoadEnd
  | settingsAcknowledgement n => exact h.execSettingsAcknowledgement
  | pixelData x l => exact ⟨_, rfl, h.begin.pixel⟩
  | frameEndMarker => exact ⟨_, rfl, h.begin.endReadout⟩
  | streamByte p => exact ⟨_, rfl, h.begin.streamByteOut⟩

end
end Sys2Proof.Machine
end

section
/-! A byte time hands a request to the command that its number and payload spell (R174); with it every step keeps the invariants. -/

namespace Sys2Proof.Machine

theorem requestOf_unknown {number : Byte} (h : number.toNat = 0 ∨ 43 < number.toNat) (p : Port) (l : List Byte) :
    requestOf p number l = .badCommandRequest p number := by
  rw [requestOf]
  split
  · rfl
  · rw [List.getElem?_eq_none (show requestRows.length ≤ number.toNat - 1 from (show (43 : Nat) ≤ _ by omega))]

/-- Table 9-3 and the dispatch of a request by its number agree. -/
theorem takeRequest_eq (p : Port) (number : Byte) (l : List Byte) (s : State) :
    takeRequest p number l s = exec (requestOf p number l) s := by
  unfold takeRequest
  split
  case h_44 =>
    have hunknown : number.toNat = 0 ∨ 43 < number.toNat := by
      simp only [imp_false] at *
      omega
    rw [requestOf_unknown hunknown]
    rfl
  all_goals
    next h => rw [requestOf, h, if_neg (by decide)]; rfl

/-- A request is never power-on or a byte time. -/
theorem requestOf_request (p : Port) (number : Byte) (l : List Byte) :
    requestOf p number l ≠ .powerOnReset ∧ ∀ q din, requestOf p number l ≠ .linkByteEnd q din := by
  have hrows : ∀ r ∈ requestRows, r.build p l ≠ .powerOnReset ∧ ∀ q din, r.build p l ≠ .linkByteEnd q din := by
    simp [requestRows, requestRowsLow, requestRowsHigh, fixedRow]
  rw [requestOf]
  split
  · simp
  · split
    · next r hr => exact hrows r (List.mem_of_getElem? hr)
    · simp

variable {v : Invariant} {s : State}

theorem withDataOut_keeps {p : Port} {x : Byte} {o : Host.Outcome State Fault Refusal} (h : completes o v.holds) :
    completes (withDataOut p x o) v.holds := by
  obtain ⟨t, rfl, ht⟩ := h
  exact ⟨_, rfl, ht.put⟩

theorem Invariant.holds.takeRequest {p : Port} {number : Byte} {l : List Byte} (h : v.holds s) (hv : v.kept) :
    completes (takeRequest p number l s) v.holds := by
  obtain ⟨hreset, hbyte⟩ := requestOf_request p number l
  exact takeRequest_eq p number l s ▸ exec_keeps_apart hv h hreset hbyte

theorem Invariant.holds.execLinkByteEnd {p : Port} {din : Byte} (h : v.holds s) (hv : v.kept) :
    completes (execLinkByteEnd p din s) v.holds := by
  unfold Machine.execLinkByteEnd
  split
  · exact ⟨_, rfl, h.begin⟩
  · exact ⟨_, rfl, h.begin.setTxn.put⟩
  · unfold lengthByte
    split
    · exact withDataOut_keeps (h.takeRequest hv)
    · exact ⟨_, rfl, h.begin.setTxn.put⟩
  · unfold payloadByte
    split
    · exact withDataOut_keeps (h.takeRequest hv)
    · exact ⟨_, rfl, h.begin.setTxn.put⟩
  · exact ⟨_, rfl, h.begin.put⟩
  · exact ⟨_, rfl, h.begin.put⟩
  · exact ⟨_, rfl, h.begin.replyByte⟩

theorem exec_keeps {i : Instr} (hv : v.kept) (h : v.holds s) (hreset : i ≠ .powerOnReset) : completes (exec i s) v.holds := by
  by_cases hbyte : ∃ p din, i = .linkByteEnd p din
  · obtain ⟨p, din, rfl⟩ := hbyte
    exact h.execLinkByteEnd hv
  · exact exec_keeps_apart hv h hreset fun p din hi => hbyte ⟨p, din, hi⟩

/-! ### The step -/

theorem State.reset_countsOk : State.reset.countsOk :=
  ⟨by decide, by decide, by decide, by decide, by decide, by decide, by decide, Bank.cleared_shaped, Bank.cleared_shaped,
    fun _ hr => absurd hr (by simp [State.reset, Statistics.powerOn]), by decide, by decide⟩

theorem State.reset_safe : State.reset.safe :=
  ⟨Tests.reset_follows, Tests.default_settings_legal, Tests.reset_sound, State.reset_countsOk⟩

/-- The parts of `State.safe`. -/
def Invariant.ofSafety : Invariant → Bool
  | .lines | .settings | .store | .counts => true
  | .follows _ | .pends _ _ | .occurred _ => false

theorem Invariant.ofSafety_kept (hv : v.ofSafety = true) : v.kept := by
  refine ⟨fun p k hk => ?_, fun k hk => ?_⟩ <;> simp [hk, Invariant.ofSafety] at hv

theorem Invariant.holds_idle (hv : v.ofSafety = true) (h : v.holds s) : v.holds s.idle := by
  unfold State.idle
  split
  · refine .ite (fun _ => h.askGyro) (fun _ => ?_)
    cases v <;> first | exact h | cases hv
  · cases v <;> first | exact h | cases hv
  · cases v <;> first | exact h | cases hv

theorem exec_powerOnReset_holds (hv : v.ofSafety = true) : completes (exec .powerOnReset s) v.holds := by
  obtain ⟨hlines, hsettings, hstore, hcounts⟩ := State.reset_safe
  refine ⟨_, rfl, ?_⟩
  cases v <;> first | assumption | cases hv

/-- Each part of safety is kept by every step. -/
theorem step_keeps (hv : v.ofSafety = true) (h : v.holds s) : completes (step s) v.holds := by
  unfold step
  split
  · exact ⟨_, rfl, Invariant.holds_idle hv h.begin⟩
  · next c rest _ =>
    have ht : v.holds { s with pending := rest } := by cases v <;> first | exact h | cases hv
    by_cases hc : c = .powerOnReset
    · exact hc ▸ exec_powerOnReset_holds hv
    · exact exec_keeps (Invariant.ofSafety_kept hv) ht hc

theorem holds_of_step {t : State} (hstep : step s = .next t) (hv : v.ofSafety = true) (h : v.holds s) : v.holds t := by
  obtain ⟨u, hu, hholds⟩ := step_keeps hv h
  cases hstep.symm.trans hu
  exact hholds

/-- Settles O58: lines and settings, two of the invariants that every operation keeps. -/
theorem everyStepKeepsLinesAndSettings : Obligations.EveryStepKeepsLinesAndSettings := fun _ _ hstep =>
  ⟨holds_of_step (v := .lines) hstep rfl, holds_of_step (v := .settings) hstep rfl⟩

/-- Settles O59: the store's soundness, by the same induction over the operations. -/
theorem everyStepKeepsTheStoreSound : Obligations.EveryStepKeepsTheStoreSound := fun _ _ hstep =>
  holds_of_step (v := .store) hstep rfl

/-- Settles O60: the counts and the banks, by the same induction over the operations. -/
theorem everyStepKeepsCountsAndBanks : Obligations.EveryStepKeepsCountsAndBanks := fun _ _ hstep =>
  holds_of_step (v := .counts) hstep rfl

/-- Settles O57: each invariant at the power-on values. -/
theorem powerOnStateIsSafe : Obligations.PowerOnStateIsSafe := State.reset_safe

/-- Settles O2. -/
theorem stepTakesTheFrontCommand : Obligations.StepTakesTheFrontCommand := fun _ _ => rfl

/-- Settles O4: a command follows its state by the invariant `follows`, and a step on an empty queue is the idle part's. -/
theorem everyCommandCompletes : Obligations.EveryCommandCompletes := by
  have hexec (c : Instr) (s : State) : completes (exec c s) (fun t =>
      t.pending = s.pending ∧ (c ≠ .powerOnReset → t.epoch = s.epoch ∧ s.clock ≤ t.clock)) := by
    by_cases hc : c = .powerOnReset
    · subst hc
      exact ⟨_, rfl, rfl, fun h => absurd rfl h⟩
    · have hkept : (Invariant.follows s).kept := ⟨fun _ _ => nofun, fun _ => nofun⟩
      obtain ⟨t, ht, hpending, hepoch, hclock⟩ := exec_keeps hkept (s := s) ⟨rfl, rfl, le_rfl⟩ hc
      exact ⟨t, ht, hpending, fun _ => ⟨hepoch, hclock⟩⟩
  refine ⟨hexec, fun s => ?_⟩
  unfold step
  split
  · exact ⟨_, rfl, trivial⟩
  · obtain ⟨t, ht, -⟩ := hexec _ _
    exact ⟨t, ht, trivial⟩

end Sys2Proof.Machine
end

section
/-! Power-on, the idle step, and the transactions of the links (R27, R174, R175, R167). -/

namespace Sys2Proof.Machine

/-! ### Power-on and the idle step -/

/-- Settles O1: the reset state, value by value. -/
theorem powerOnResetSetsPowerOnValues : Obligations.PowerOnResetSetsPowerOnValues := by
  intro s
  refine ⟨_, rfl, rfl, rfl, (by decide : State.reset.timeBase = 0), ?_⟩
  and_intros <;> rfl

theorem State.idle_of_none {s : State} (h : s.dueCommands = []) :
    s.idle = if s.requestDue then s.askGyro else { s with clock := s.clock + 1 } := by
  rw [State.idle, h]

theorem State.idle_of_some {s : State} (h : s.dueCommands ≠ []) :
    s.idle.clock = s.clock ∧ s.idle.stab = s.stab ∧ ∃ c ∈ s.dueCommands, s.idle.pending = [c] := by
  unfold State.idle
  split
  · next hdue => exact absurd hdue h
  · next c hdue => exact ⟨rfl, rfl, c, by simp [hdue], rfl⟩
  · next c more _ hdue =>
    have hlt : s.choice (more.length + 1) < (c :: more).length := Nat.mod_lt _ (Nat.succ_pos _)
    refine ⟨rfl, rfl, _, ?_, rfl⟩
    rw [hdue, List.getD_eq_getElem _ _ hlt]
    exact List.getElem_mem hlt

/-- The idle part leaves everything but the clock, the waiting commands, the choices and the Stabilizer as it is. -/
theorem State.idle_same (s : State) {x : Part} (hclock : x ≠ .clock) (hchoices : x ≠ .choices) (hstab : x ≠ .stabilizer) :
    x.same s s.idle := by
  unfold State.idle
  split
  · split
    · cases x <;> simp_all [Part.same, State.dramByte]
    · cases x <;> simp_all [Part.same, State.dramByte]
  · cases x <;> simp_all [Part.same, State.dramByte]
  · cases x <;> simp_all [Part.same, State.dramByte]

/-- Settles O3: by the commands that are due. -/
theorem idleStepCountsTimeOrQueuesDueEvent : Obligations.IdleStepCountsTimeOrQueuesDueEvent := by
  intro s hpending
  have hstep : step s = .next s.begin.idle := by rw [step, hpending]
  have hdue : s.begin.dueCommands = s.dueCommands := rfl
  have hask : s.begin.requestDue = s.requestDue := rfl
  refine ⟨_, hstep, fun hnone hquiet => ?_, fun hnone hasks => ?_, fun hsome => State.idle_of_some hsome,
    fun x hclock hchoices hstab => ?_⟩
  · rw [State.idle_of_none (hdue.trans hnone), hask, hquiet]
    rfl
  · rw [State.idle_of_none (hdue.trans hnone), hask, hasks]
    rfl
  · exact Part.same_trans (s.begin_onlyChanged.2.2 x (by simp)) (s.begin.idle_same hclock hchoices hstab)

/-! ### Transactions (R174, R175) -/

theorem onlyChanged_mono {l m : List Part} {s t : State} (h : onlyChanged l s t) (hlm : l ⊆ m) : onlyChanged m s t :=
  ⟨h.1, h.2.1, fun x hx => h.2.2 x fun hl => hx (hlm hl)⟩

theorem State.setTxn_onlyChanged (s : State) (p : Port) (x : Txn) : onlyChanged [.transaction p] s (s.setTxn p x) := by
  refine ⟨rfl, rfl, fun y hy => ?_⟩
  cases y
  case transaction q => exact PerPort.get_set_ne _ _ fun hqp => hy (by simp [hqp])
  all_goals simp [Part.same, State.dramByte, State.setTxn]

@[simp] theorem State.setTxn_txn (s : State) (p : Port) (x : Txn) : (s.setTxn p x).links.txn.get p = x := PerPort.get_set ..

theorem State.put_onlyChanged (s : State) (o : Output) : onlyChanged [] s (s.put o) := by
  refine ⟨rfl, rfl, fun y _ => ?_⟩
  cases y <;> simp [Part.same, State.dramByte]

theorem onlyChanged_refl (s : State) : onlyChanged [] s s := ⟨rfl, rfl, fun x _ => by cases x <;> simp [Part.same]⟩

/-- A frame after the beginning of a step. -/
theorem onlyChanged_of_begin {l : List Part} {s t : State} (h : onlyChanged l s.begin t) : onlyChanged l s t := by
  simpa using onlyChanged_trans s.begin_onlyChanged h

/-- The record that a reply carried goes with the reply's end; nothing but the transaction and the queue moves (R167). -/
theorem State.take_onlyChanged (s : State) (n : Word32) : onlyChanged [.records] s (s.take n) := by
  refine ⟨by simp, by simp, fun y hy => ?_⟩
  cases y <;> simp [Part.same, State.dramByte] at hy ⊢

theorem State.finishReply_onlyChanged (s : State) (p : Port) (r : Reply) :
    onlyChanged [.transaction p, .records] s (s.finishReply p r) := by
  unfold State.finishReply
  split
  · exact onlyChanged_mono (s.setTxn_onlyChanged p .finished) (by simp)
  · exact onlyChanged_trans (s.take_onlyChanged _) (State.setTxn_onlyChanged _ p .finished)

@[simp] theorem State.finishReply_txn (s : State) (p : Port) (r : Reply) : (s.finishReply p r).links.txn.get p = .finished :=
  State.setTxn_txn ..

theorem State.finishReply_rq_of_none {s : State} {p : Port} {r : Reply} (h : r.takes = none) : (s.finishReply p r).rq = s.rq := by
  unfold State.finishReply
  rw [h]
  rfl

theorem State.finishReply_rq_of_some {s : State} {p : Port} {r : Reply} {n : Word32} (h : r.takes = some n) :
    (s.finishReply p r).rq = (s.take n).rq := by
  unfold State.finishReply
  rw [h]
  rfl

@[simp] theorem State.finishReply_outs (s : State) (p : Port) (r : Reply) : (s.finishReply p r).outs = s.outs := by
  unfold State.finishReply
  split <;> simp [State.setTxn]

/-! ### Byte times (Table 9-1) -/

section
variable {s : State} {p : Port} {din : Byte}

theorem exec_linkByteEnd_of_preparing {r : Reply} {due : Nat} (h : s.links.txn.get p = .preparing r due) :
    exec (.linkByteEnd p din) s = .next (s.begin.put (.dataOut p filler)) := by
  change execLinkByteEnd p din s = _
  rw [execLinkByteEnd, h]

theorem exec_linkByteEnd_of_finished (h : s.links.txn.get p = .finished) :
    exec (.linkByteEnd p din) s = .next (s.begin.put (.dataOut p filler)) := by
  change execLinkByteEnd p din s = _
  rw [execLinkByteEnd, h]

theorem exec_linkByteEnd_of_reply {r : Reply} {sent : Nat} (h : s.links.txn.get p = .reply r sent) :
    exec (.linkByteEnd p din) s = .next (s.begin.replyByte p r sent) := by
  change execLinkByteEnd p din s = _
  rw [execLinkByteEnd, h]

theorem exec_linkByteEnd_of_command (h : s.links.txn.get p = .command) :
    exec (.linkByteEnd p din) s = .next ((s.begin.setTxn p (.length din)).put (.dataOut p filler)) := by
  change execLinkByteEnd p din s = _
  rw [execLinkByteEnd, h]

theorem exec_linkByteEnd_of_length {number : Byte} (h : s.links.txn.get p = .length number) :
    exec (.linkByteEnd p din) s = lengthByte p number din s := by
  change execLinkByteEnd p din s = _
  rw [execLinkByteEnd, h]

theorem exec_linkByteEnd_of_payload {number : Byte} {got : List Byte} {want : Nat}
    (h : s.links.txn.get p = .payload number got want) :
    exec (.linkByteEnd p din) s = payloadByte p number got want din s := by
  change execLinkByteEnd p din s = _
  rw [execLinkByteEnd, h]

end

/-- A byte time in which only filler goes out. -/
theorem State.filler_sent (s : State) (p : Port) :
    (s.begin.put (.dataOut p filler)).outs = [.dataOut p 0x00#8] ∧ onlyChanged [] s (s.begin.put (.dataOut p filler)) :=
  ⟨rfl, onlyChanged_of_begin (s.begin.put_onlyChanged _)⟩

theorem State.replyByte_of_more {s : State} {p : Port} {r : Reply} {sent : Nat} (h : sent + 1 < r.bytes.length) :
    s.replyByte p r sent = (s.put (.dataOut p (r.bytes.getD sent filler))).setTxn p (.reply r (sent + 1)) :=
  if_neg (Nat.not_le.mpr h)

theorem State.replyByte_of_last {s : State} {p : Port} {r : Reply} {sent : Nat} (h : sent + 1 = r.bytes.length) :
    s.replyByte p r sent = (s.put (.dataOut p (r.bytes.getD sent filler))).finishReply p r :=
  if_pos h.ge

/-- Settles O5: select and the byte times, by the transaction state of the port. -/
theorem transactionsFollowSelectAndByteTimes : Obligations.TransactionsFollowSelectAndByteTimes := by
  refine ⟨fun s p => ⟨fun hdeselected => ?falling, ?rising⟩, fun s p r din => ⟨fun due hpreparing => ⟨?waits, ?ready⟩,
    fun sent hreply hmore => ?next, fun sent hreply hlast => ?last, fun hfinished => ?idle⟩⟩
  case falling => exact ⟨_, congrArg Host.Outcome.next (if_pos hdeselected), by simp,
    onlyChanged_of_begin (s.begin.setTxn_onlyChanged p _)⟩
  case rising => exact ⟨_, rfl, by simp, onlyChanged_of_begin (s.begin.setTxn_onlyChanged p _)⟩
  case waits => exact ⟨_, exec_linkByteEnd_of_preparing hpreparing, s.filler_sent p⟩
  case ready =>
    have hready : s.begin.replyReady p = s.begin.setTxn p (.reply r 0) := by
      rw [State.replyReady, show s.begin.links.txn.get p = .preparing r due from hpreparing]
    exact ⟨_, congrArg Host.Outcome.next hready, by simp, onlyChanged_of_begin (s.begin.setTxn_onlyChanged p _)⟩
  case next =>
    rw [exec_linkByteEnd_of_reply hreply, State.replyByte_of_more hmore]
    exact ⟨_, rfl, rfl, by simp, onlyChanged_of_begin (onlyChanged_trans (s.begin.put_onlyChanged _) (State.setTxn_onlyChanged _ p _))⟩
  case last =>
    rw [exec_linkByteEnd_of_reply hreply, State.replyByte_of_last hlast]
    refine ⟨_, rfl, by simp [filler], by simp, ?_, fun htakes => ?_⟩
    · exact onlyChanged_of_begin (onlyChanged_trans (s.begin.put_onlyChanged _) (State.finishReply_onlyChanged _ p r))
    · rw [State.finishReply_rq_of_none htakes]
      simp
  case idle => exact ⟨_, exec_linkByteEnd_of_finished hfinished, s.filler_sent p⟩

/-! ### Records taken and the stale timer (R167, R170) -/

theorem State.take_of_absent {s : State} {n : Word32} (h : ∀ x ∈ s.rq.queue, x.capNo ≠ n) : s.take n = s := by
  refine if_neg ?_
  simpa using h

theorem State.take_of_queued {s : State} {n : Word32} (h : ∃ x ∈ s.rq.queue, x.capNo = n) :
    s.take n = (s.withRq (fun q => { q with queue := q.queue.filter (fun r => r.capNo ≠ n) })).staleRestart := by
  refine if_pos ?_
  simpa using h

theorem State.take_queue (s : State) (n : Word32) : (s.take n).rq.queue = s.rq.queue.filter (fun x => x.capNo ≠ n) := by
  by_cases h : ∃ x ∈ s.rq.queue, x.capNo = n
  · rw [State.take_of_queued h]
    rfl
  · have habsent : ∀ x ∈ s.rq.queue, x.capNo ≠ n := fun x hx hn => h ⟨x, hx, hn⟩
    rw [State.take_of_absent habsent, List.filter_eq_self.2 (by simpa using habsent)]

theorem State.staleRestart_stale (s : State) :
    s.staleRestart.rq.stale = if 0 < s.rq.queue.length ∧ s.rq.queue.length < s.settingNat 56
      then some (s.clock + ms (10 * s.settingNat 57)) else none := by
  simp only [State.staleRestart, State.countWithin, State.staleSpan, Bool.and_eq_true, decide_eq_true_eq]
  rfl

theorem State.take_stale {s : State} {n : Word32} (h : ∃ x ∈ s.rq.queue, x.capNo = n) :
    (s.take n).rq.stale = if 0 < (s.take n).rq.queue.length ∧ (s.take n).rq.queue.length < s.settingNat 56
      then some (s.clock + ms (10 * s.settingNat 57)) else none := by
  rw [State.take_of_queued h]
  exact State.staleRestart_stale _

theorem exec_replyEnd_of_reply {s : State} {p : Port} {r : Reply} {sent : Nat} (h : s.links.txn.get p = .reply r sent) :
    exec (.replyEnd p) s = .next ((s.begin.put (.dataOut p (r.bytes.getLastD 0))).finishReply p r) := by
  change Host.Outcome.next (s.begin.replyEnd p) = _
  rw [State.replyEnd, show s.begin.links.txn.get p = .reply r sent from h]

theorem Kind.bit_pos (k : Kind) : k.bit.getLsbD k.pos = true := by cases k <;> rfl

/-- A raised kind stands in the occurrence set and in every port's pending set (R183). -/
theorem State.raise_raised (s : State) (k : Kind) : (s.raise k).occurred k ∧ ∀ q, (s.raise k).pends q k := by
  simp [State.occurred, State.pends, Kind.bit_pos]

theorem State.raise_onlyChanged (s : State) (k : Kind) : onlyChanged [.events] s (s.raise k) := by
  refine ⟨by simp, by simp, fun y hy => ?_⟩
  cases y <;> simp [Part.same, State.dramByte] at hy ⊢

theorem State.reach_onlyChanged (s : State) (d : Nat) : onlyChanged [.clock] s (s.reach d) := by
  refine ⟨rfl, rfl, fun y hy => ?_⟩
  cases y <;> simp [Part.same, State.dramByte] at hy ⊢

theorem State.withRq_onlyChanged (s : State) (f : RecordQueue → RecordQueue) : onlyChanged [.records] s (s.withRq f) := by
  refine ⟨rfl, rfl, fun y hy => ?_⟩
  cases y <;> simp [Part.same, State.dramByte] at hy ⊢

/-- Settles O7: the reply's end takes the record it carried, by whether the record is still queued; and the timer's expiry. -/
theorem takesAndStaleTimerMoveTheQueue : Obligations.TakesAndStaleTimerMoveTheQueue := by
  refine ⟨fun s p r sent hreply => ?_, fun s d hstale => ?_⟩
  · rw [exec_replyEnd_of_reply hreply]
    refine ⟨_, rfl, by simp, ?_, ?_, fun htakes => ?_, fun n htakes => ?_⟩
    · exact onlyChanged_of_begin (onlyChanged_trans (s.begin.put_onlyChanged _) (State.finishReply_onlyChanged _ p r))
    · cases htakes : r.takes with
      | none => rw [State.finishReply_rq_of_none htakes]; simp
      | some n => rw [State.finishReply_rq_of_some htakes]; simp
    · rw [State.finishReply_rq_of_none htakes]
      simp
    · rw [State.finishReply_rq_of_some htakes]
      refine ⟨fun habsent => ?_, ?_, fun hqueued => ?_⟩
      · rw [State.take_of_absent (s := s.begin.put _) habsent]
        simp
      · exact State.take_queue _ n
      · exact State.take_stale hqueued
  · have hexpiry : exec .staleTimerExpiry s = .next (((s.begin.reach d).withRq (fun q => { q with stale := none })).raise .queueStale) := by
      change execStaleTimerExpiry s = _
      rw [execStaleTimerExpiry, hstale, State.timed_some]
    obtain ⟨hoccurred, hpends⟩ := State.raise_raised ((s.begin.reach d).withRq (fun q => { q with stale := none })) .queueStale
    refine ⟨_, hexpiry, by simp, by simp, hoccurred, hpends, ?_⟩
    exact onlyChanged_mono (onlyChanged_of_begin (onlyChanged_trans (onlyChanged_trans (s.begin.reach_onlyChanged d)
      (State.withRq_onlyChanged _ _)) (State.raise_onlyChanged _ _))) (by simp)

/-! ### A request byte by byte (R174) -/

/-- A port of a state that has changed in its own transaction alone, and the state of that transaction. -/
def State.awaits (s : State) (p : Port) (x : Txn) (u : State) : Prop := onlyChanged [.transaction p] s u ∧ u.links.txn.get p = x

theorem State.awaits.byte {s u : State} {p : Port} {x y : Txn} (h : s.awaits p x u) :
    s.awaits p y ((u.begin.setTxn p y).put (.dataOut p filler)) := by
  refine ⟨onlyChanged_mono (onlyChanged_trans h.1 (onlyChanged_of_begin (onlyChanged_trans (u.begin.setTxn_onlyChanged p y)
    (State.put_onlyChanged _ _)))) (by simp), ?_⟩
  exact State.setTxn_txn ..

theorem runAll_cons {c : Instr} {rest : List Instr} {s t : State} (h : exec c s = .next t) : runAll (c :: rest) s = runAll rest t := by
  rw [runAll, h]

theorem runAll_singleton (c : Instr) (s : State) : runAll [c] s = exec c s := by
  rw [runAll]
  split <;> simp_all [runAll]

/-- The bytes of a payload after those already received: at the last one the request is taken. -/
theorem runAll_payload {s : State} {p : Port} {number : Byte} (got rest : List Byte) {u : State} (hrest : rest ≠ [])
    (h : s.awaits p (.payload number got rest.length) u) :
    ∃ w, onlyChanged [.transaction p] s w ∧
      runAll (rest.map (.linkByteEnd p)) u = withDataOut p 0x00#8 (exec (requestOf p number (got ++ rest)) w) := by
  induction rest generalizing got u with
  | nil => exact absurd rfl hrest
  | cons din rest ih =>
    cases rest with
    | nil =>
      refine ⟨u, h.1, ?_⟩
      rw [List.map_singleton, runAll_singleton, exec_linkByteEnd_of_payload h.2, payloadByte, if_pos (by simp), takeRequest_eq]
      rfl
    | cons next rest =>
      have hbyte : exec (.linkByteEnd p din) u =
          .next ((u.begin.setTxn p (.payload number (got ++ [din]) (next :: rest).length)).put (.dataOut p filler)) := by
        rw [exec_linkByteEnd_of_payload h.2, payloadByte, if_neg (by simp)]
        rfl
      obtain ⟨w, hw, hrun⟩ := ih (got ++ [din]) (List.cons_ne_nil _ _) h.byte
      rw [List.append_assoc, List.singleton_append] at hrun
      exact ⟨w, hw, by rw [List.map_cons, runAll_cons hbyte, hrun]⟩

/-- Settles O6: the number and the length byte, then the payload by its bytes. -/
theorem requestIsTakenAtItsLastByte : Obligations.RequestIsTakenAtItsLastByte := by
  intro s p number payload hcommand
  have hnumber : exec (.linkByteEnd p number) s = .next ((s.begin.setTxn p (.length number)).put (.dataOut p filler)) :=
    exec_linkByteEnd_of_command hcommand
  have hawaits : s.awaits p (.length number) ((s.begin.setTxn p (.length number)).put (.dataOut p filler)) :=
    State.awaits.byte ⟨onlyChanged_mono (onlyChanged_refl s) (by simp), hcommand⟩
  refine ⟨fun hsome hmost => ?payload, fun hnone => ?taken⟩
  case payload =>
    have hcount : (BitVec.ofNat 8 payload.length).toNat = payload.length := by
      rw [BitVec.toNat_ofNat, Nat.mod_eq_of_lt (by omega)]
    have hlength := exec_linkByteEnd_of_length (din := BitVec.ofNat 8 payload.length) hawaits.2
    rw [lengthByte, if_neg (by omega), hcount] at hlength
    obtain ⟨u, hu, hrun⟩ := runAll_payload [] payload (List.ne_nil_of_length_pos hsome) hawaits.byte
    exact ⟨u, hu, by rw [List.map_cons, List.map_cons, runAll_cons hnumber, runAll_cons hlength, hrun, List.nil_append]⟩
  case taken =>
    have hcount : (BitVec.ofNat 8 payload.length).toNat = payload.length := by
      rw [BitVec.toNat_ofNat, Nat.mod_eq_of_lt (by omega)]
    refine ⟨_, hawaits.1, ?_⟩
    rw [runAll_cons hnumber, runAll_singleton, exec_linkByteEnd_of_length hawaits.2, lengthByte, if_pos (by omega), hcount,
      takeRequest_eq]
    rfl

end Sys2Proof.Machine
end

section
/-! The reading commands: what each reply payload carries, field by field (Tables 11-6 and 11-7). -/

namespace Sys2Proof.Machine

/-! ### Answers of reading commands -/

theorem answers_reading {i : Instr} {s : State} {p : Port} {body : List Byte}
    (hexec : exec i s = .next ((reading s.begin body).sendTo p)) : answers i s p .ok body [] (fun t => t.outs = []) :=
  answers_of_sendTo (reading s.begin body) hexec rfl s.begin_onlyChanged rfl

theorem answers_refused {i : Instr} {s : State} {p : Port} {st : Status}
    (hexec : exec i s = .next ((answer s.begin st).sendTo p)) : answers i s p st [] [] (fun t => t.outs = []) :=
  answers_of_sendTo (answer s.begin st) hexec rfl s.begin_onlyChanged rfl

/-! ### Fields of a payload made of pieces (R197) -/

/-- A field that lies behind the first piece. -/
@[simp] theorem field_append_beyond (l m : List Byte) {off n : Nat} (h : l.length ≤ off) :
    field (l ++ m) off n = field m (off - l.length) n := by
  obtain ⟨k, rfl⟩ := Nat.exists_eq_add_of_le h
  rw [field_append_right, Nat.add_sub_cancel_left]

/-- A field that ends within the first piece. -/
@[simp] theorem field_append_within (l m : List Byte) {off n : Nat} (h : off + n ≤ l.length) :
    field (l ++ m) off n = field l off n := field_append_left l m h

@[simp] theorem field_be_zero (n v : Nat) : field (be n v) 0 n = v % 256 ^ n := field_be n v

@[simp] theorem field_beInt (n : Nat) (v : Int) : field (beInt n v) 0 n = signedValue n v % 256 ^ n := field_be n _

@[simp] theorem field_beFlag (b : Bool) : field (beFlag b) 0 1 = flagValue 0 b % 256 ^ 1 := by
  rw [beFlag, field_be, flagValue, pow_zero]

@[simp] theorem field_beWord (w : Option Word32) : field (beWord w) 0 4 = (w.map BitVec.toNat).getD 0 % 256 ^ 4 := field_be 4 _

@[simp] theorem bePos_none : bePos none = be 2 65535 := rfl

@[simp] theorem bePos_natCast (v : Nat) : bePos (some (v : Int)) = be 2 v := by
  rw [bePos, if_neg (Int.not_lt.mpr (Int.natCast_nonneg v)), Int.toNat_natCast]

theorem be_zeros (n : Nat) : be n 0 = List.replicate n 0#8 := by
  induction n with
  | zero => rfl
  | succ n ih => rw [be, Nat.zero_div, ih, List.replicate_succ']

theorem field_replicate_zero (m off n : Nat) : field (List.replicate m 0#8) off n = 0 := by
  have hzero (k : Nat) : bigEndian (List.replicate k 0#8) = 0 := by
    induction k with
    | zero => rfl
    | succ k ih => rw [List.replicate_succ', bigEndian, List.foldl_append, ← bigEndian, ih]; rfl
  rw [field, List.drop_replicate, List.take_replicate, hzero]

/-- Every field of zero bytes is zero. -/
@[simp] theorem field_be_zeros (m off n : Nat) : field (be m 0) off n = 0 := by rw [be_zeros, field_replicate_zero]

/-- Fields of entry k in a reply of entries of one size behind a header. -/
theorem carries_entry {α : Type} {header : List Byte} {l : List α} {f : α → List Byte} {size k : Nat} {a : α}
    {fields shifted : List (Nat × Nat × Nat)} (hsize : ∀ x, (f x).length = size) (ha : l[k]? = some a)
    (hwithin : ∀ x ∈ fields, x.1 + x.2.1 ≤ size) (hentry : carries (f a) fields)
    (hshifted : shifted = fields.map (fun x => (header.length + (k * size + x.1), x.2))) :
    carries (header ++ l.flatMap f) shifted := by
  subst hshifted
  intro y hy
  obtain ⟨x, hx, rfl⟩ := List.mem_map.1 hy
  rw [field_append_right, field_flatMap_const l f hsize ha (hwithin x hx)]
  exact hentry x hx

theorem getElem?_window {α : Type} {l : List α} {first count k : Nat} (h : k < count) :
    ((l.drop first).take count)[k]? = l[first + k]? := by
  rw [List.getElem?_take_of_lt h, List.getElem?_drop]

theorem flagValue_succ (k : Nat) (b : Bool) : flagValue (k + 1) b = 2 * flagValue k b := by
  cases b
  · rfl
  · exact Nat.pow_succ'

/-- The flags of a byte, from bit k on. -/
def flagSum : Nat → List Bool → Nat
  | _, [] => 0
  | k, b :: l => flagValue k b + flagSum (k + 1) l

theorem flagSum_succ (k : Nat) (l : List Bool) : flagSum (k + 1) l = 2 * flagSum k l := by
  induction l generalizing k with
  | nil => rfl
  | cons b l ih => rw [flagSum, flagSum, ih, flagValue_succ, Nat.mul_add]

/-- A byte of flags is the sum of its flags' values. -/
theorem packBits_eq (l : List Bool) : packBits l = flagSum 0 l := by
  induction l with
  | nil => rfl
  | cons b l ih => rw [packBits, flagSum, flagSum_succ, ih, flagValue, pow_zero]

@[simp] theorem carries_nil (body : List Byte) : carries body [] := fun _ h => absurd h List.not_mem_nil

@[simp] theorem carries_cons (body : List Byte) (x : Nat × Nat × Nat) (l : List (Nat × Nat × Nat)) :
    carries body (x :: l) ↔ field body x.1 x.2.1 = x.2.2 % 256 ^ x.2.1 ∧ carries body l := List.forall_mem_cons ..

/-! ### GET STATE (R180) and READ EVENTS (R185) -/

/-- The wait reasons as flags, the first at bit 0 (Table 1-6). -/
theorem State.waitFlags (s : State) : waitReasons.map (fun r => !s.gateMet r) =
    [!s.burstRunning, decide (s.lens.state ≠ .ready), s.moving, decide (s.freeSlots = 0), decide (s.store.state ≠ .ready), s.stab.urgent,
      decide (s.stab.state = .calibrating),
      s.shotPriority = .focus && (s.af.state = .coarse || s.af.state = .fine || s.af.state = .probe)] := by
  have hfocus : (!(decide (s.shotPriority = .release) || !s.af.state.focusing)) =
      (decide (s.shotPriority = .focus) && (decide (s.af.state = .coarse) || decide (s.af.state = .fine) || decide (s.af.state = .probe))) := by
    cases s.shotPriority <;> cases s.af.state <;> rfl
  have hslots : (!decide (0 < s.freeSlots)) = decide (s.freeSlots = 0) := by simp [Nat.pos_iff_ne_zero]
  simp only [waitReasons, List.map, State.gateMet, hfocus, hslots]
  simp [State.lensReady]

theorem State.stateReply_carries (s : State) : carries s.stateReply
     [(0, 4, s.timeBase.toNat), (4, 4, s.fc.fseq.toNat), (8, 4, s.fc.capNo.toNat), (12, 1, s.fc.burstCount),
      (13, 1, s.fc.cadence.code), (14, 1, s.fc.state.code),
      (15, 1, flagValue 0 (!s.burstRunning) + flagValue 1 (s.lens.state ≠ .ready) + flagValue 2 s.moving +
        flagValue 3 (s.freeSlots = 0) + flagValue 4 (s.store.state ≠ .ready) + flagValue 5 s.stab.urgent +
        flagValue 6 (s.stab.state = .calibrating) +
        flagValue 7 (s.shotPriority = .focus && (s.af.state = .coarse || s.af.state = .fine || s.af.state = .probe))),
      (16, 1, flagValue 0 s.fc.prepare.a + flagValue 1 s.fc.prepare.b + flagValue 2 s.fc.prepare.c),
      (17, 1, s.fc.owed), (18, 1, flagValue 0 s.fc.continuous), (19, 1, s.lens.state.code), (20, 1, s.af.state.code),
      (21, 1, s.af.result.code), (22, 1, s.stab.state.code), (23, 1, flagValue 0 (s.stab.cause ≠ .none)),
      (24, 1, s.store.state.code), (25, 1, s.freeSlots), (26, 1, s.loader.source.code),
      (27, 1, flagValue 0 s.loader.loading.isSome), (28, 1, s.loader.result.code.1), (29, 1, s.loader.result.code.2),
      (30, 2, s.loader.table.ident), (32, 2, s.loader.table.revision)] := by
  simp [State.stateReply, packBits_eq, State.waitFlags, flagSum, Nat.add_assoc]

/-- Settles O9. -/
theorem getStateReportsTheState : Obligations.GetStateReportsTheState := fun s _ =>
  ⟨_, s.stateReply_length, answers_reading rfl, s.stateReply_carries⟩

/-- The Error kinds are the positions from 14 on. -/
theorem errorKinds_toNat (k : KindSet) : (k &&& errorKinds).toNat = k.toNat / 2 ^ 14 * 2 ^ 14 := by
  have hmask : (errorKinds : KindSet).toNat = (2 ^ 6 - 1) <<< 14 := by decide
  have hsplit : k.toNat &&& ((2 ^ 6 - 1) <<< 14) = (k.toNat >>> 14 &&& (2 ^ 6 - 1)) <<< 14 := by
    refine Nat.eq_of_testBit_eq fun i => ?_
    simp only [Nat.testBit_and, Nat.testBit_shiftLeft, Nat.testBit_shiftRight]
    by_cases hi : 14 ≤ i
    · rw [Nat.add_sub_cancel' hi]; simp [hi]
    · simp [hi]
  rw [BitVec.toNat_and, hmask, hsplit, Nat.and_two_pow_sub_one_eq_mod, Nat.shiftRight_eq_div_pow, Nat.shiftLeft_eq,
    Nat.mod_eq_of_lt (by have := k.isLt; omega)]

theorem bne_zero_iff (k : KindSet) : (k != 0) = true ↔ k.toNat ≠ 0 := by
  rw [bne_iff_ne, ne_eq, ← BitVec.toNat_inj]
  rfl

theorem errorPending_eq (k : KindSet) : errorPending k = decide (2 ^ 14 ≤ k.toNat) := by
  rw [Bool.eq_iff_iff, errorPending, bne_zero_iff, errorKinds_toNat, decide_eq_true_eq]
  omega

theorem informationPending_eq (k : KindSet) : informationPending k = decide (k.toNat % 2 ^ 14 ≠ 0) := by
  rw [Bool.eq_iff_iff, informationPending, bne_zero_iff, BitVec.toNat_and, show (~~~errorKinds : KindSet).toNat = 2 ^ 14 - 1 by decide,
    Nat.and_two_pow_sub_one_eq_mod, decide_eq_true_eq]

/-- Settles O10. -/
theorem readEventsReportsTheSets : Obligations.ReadEventsReportsTheSets := by
  intro s p
  refine ⟨_, s.eventsReply_length p, answers_reading rfl, ?_⟩
  simp [State.eventsReply, packBits_eq, flagSum, errorPending_eq, informationPending_eq]

/-! ### Plans and the Stabilizer (R64, R132) -/

/-- Settles O11. -/
theorem planAndStabilizerAreReported : Obligations.PlanAndStabilizerAreReported := by
  refine fun s p => ⟨⟨_, s.planReply_length, answers_reading rfl, ?_⟩, ⟨_, s.stabReply_length, answers_reading rfl, ?_⟩⟩
  · simp [State.planReply, Plan.reply, packBits_eq, flagSum, Nat.add_assoc]
  · simp [State.stabReply, ShiftAxis.reply]

/-! ### Lens Drive and Focus Search (R86, R107) -/

theorem State.lensReply_carries (s : State) : carries s.lensReply
    [(0, 1, s.lens.state.code), (1, 1, s.lens.cause.code),
        (2, 1, flagValue 0 s.lens.d.isSome + flagValue 1 s.lens.slip.isSome),
        (7, 1, flagValue 0 s.lens.zoom.inFlight + flagValue 1 s.lens.zoom.pending.isSome), (8, 1, s.lens.zoom.origin.code),
        (12, 1, s.lens.zoom.speed), (18, 1, flagValue 0 s.lens.focus.inFlight + flagValue 1 s.lens.focus.pending.isSome),
        (27, 1, flagValue 0 s.lens.iris.inFlight + flagValue 1 s.lens.iris.pending.isSome),
        (32, 1, signedValue 1 (s.lens.d.getD 0)), (33, 2, signedValue 2 s.lens.iv.amin),
        (35, 2, signedValue 2 s.lens.iv.tlimit), (41, 2, signedValue 2 s.lens.iv.gain), (45, 1, signedValue 1 s.lens.pmax),
        (46, 2, signedValue 2 s.loader.table.zwide), (50, 2, signedValue 2 (s.lens.slip.getD 0)), (52, 1, s.lens.slips)] := by
  simp [State.lensReply, ActRecord.reply, packBits_eq, flagSum]

/-- The entries stand behind 18 bytes. -/
theorem State.sweepReply_drop (s : State) (first : Nat) :
    (s.sweepReply first).drop 18 = ((s.af.log.drop first).take 24).flatMap SweepEntry.reply := by
  simp [State.sweepReply, List.drop_append, List.drop_of_length_le]

/-- Fields of entry k of a reply whose entries, of one size, stand behind its first n bytes. -/
theorem carries_entry_of_drop {α : Type} {body : List Byte} {l : List α} {f : α → List Byte} {n size k : Nat} {a : α}
    {fields shifted : List (Nat × Nat × Nat)} (hn : n ≤ body.length) (hbody : body.drop n = l.flatMap f)
    (hsize : ∀ x, (f x).length = size) (ha : l[k]? = some a) (hwithin : ∀ x ∈ fields, x.1 + x.2.1 ≤ size)
    (hentry : carries (f a) fields) (hshifted : shifted = fields.map (fun x => (n + (k * size + x.1), x.2))) :
    carries body shifted := by
  rw [← List.take_append_drop n body, hbody]
  exact carries_entry hsize ha hwithin hentry (by rw [hshifted, List.length_take, Nat.min_eq_left hn])

theorem State.sweepReply_length (s : State) (first : Nat) :
    (s.sweepReply first).length = 18 + 9 * min 24 (s.af.log.length - first) := by
  simp [State.sweepReply, length_flatMap_const _ _ 9 SweepEntry.reply_length]
  omega

theorem peakReply_carries (x : Option Peak) :
    carries (peakReply x) [(0, 2, (x.map Peak.f).getD 0), (2, 2, signedValue 2 ((x.map Peak.pos).getD 0))] := by
  cases x with
  | none => simp [peakReply, signedValue]
  | some y => simp [peakReply]

theorem State.sweepReply_carries (s : State) (first : Nat) : carries (s.sweepReply first)
    [(0, 1, s.af.state.code), (1, 1, s.af.result.code), (2, 1, s.af.origin.code), (4, 1, s.af.log.length),
          (5, 1, flagValue 0 s.af.wrapped + flagValue 1 s.af.peak.isSome + flagValue 2 s.af.best.isSome),
          (6, 2, s.af.flock), (8, 2, (s.af.peak.map Peak.f).getD 0), (10, 2, signedValue 2 ((s.af.peak.map Peak.pos).getD 0)),
          (12, 2, (s.af.best.map Peak.f).getD 0), (14, 2, signedValue 2 ((s.af.best.map Peak.pos).getD 0)),
          (16, 1, first), (17, 1, min 24 (s.af.log.length - first))] := by
  have hpeak := peakReply_carries s.af.peak
  have hbest := peakReply_carries s.af.best
  simp only [carries_cons, carries_nil, and_true] at hpeak hbest
  simp [State.sweepReply, packBits_eq, flagSum, Nat.add_assoc, hpeak, hbest]

theorem State.sweepReply_entry (s : State) {first k : Nat} (hk : k < 24) {e : SweepEntry} (he : s.af.log[first + k]? = some e) :
    carries (s.sweepReply first)
      [(18 + 9 * k, 2, signedValue 2 e.pos), (20 + 9 * k, 2, e.f), (22 + 9 * k, 4, e.seq.toNat), (26 + 9 * k, 1, e.phase.code)] := by
  refine carries_entry_of_drop (fields := [(0, 2, signedValue 2 e.pos), (2, 2, e.f), (4, 4, e.seq.toNat), (8, 1, e.phase.code)])
    (by rw [State.sweepReply_length]; omega) (s.sweepReply_drop first) SweepEntry.reply_length ((getElem?_window hk).trans he)
    (by simp) ?_ ?_
  · simp [SweepEntry.reply]
  · simp
    omega

theorem exec_readSweepLog_of_within {first : Byte} (h : first.toNat ≤ 63) (p : Port) (s : State) :
    exec (.readSweepLog p [first]) s = .next ((reading s.begin (s.begin.sweepReply first.toNat)).sendTo p) := by
  change execReadSweepLog p [first] s = _
  rw [execReadSweepLog, show lengthIs 1 [first] = true from rfl, State.request_ok, firstByte_cons, if_neg (by omega)]

theorem exec_readSweepLog_of_outside {first : Byte} (h : 63 < first.toNat) (p : Port) (s : State) :
    exec (.readSweepLog p [first]) s = .next ((answer s.begin .badArgument).sendTo p) := by
  change execReadSweepLog p [first] s = _
  rw [execReadSweepLog, show lengthIs 1 [first] = true from rfl, State.request_ok, firstByte_cons, if_pos h]

/-- Settles O12. -/
theorem lensAndSweepLogAreReported : Obligations.LensAndSweepLogAreReported := by
  refine fun s p => ⟨⟨_, s.lensReply_length, answers_reading rfl, s.lensReply_carries, fun hpos => ?_, fun v hpos hv => ?_⟩,
    fun first hfirst => ⟨_, s.sweepReply_length _, answers_reading (exec_readSweepLog_of_within hfirst p s), s.sweepReply_carries _,
      fun k hk e he => s.sweepReply_entry hk he⟩,
    fun first hfirst => answers_refused (exec_readSweepLog_of_outside hfirst p s)⟩
  · simp [State.lensReply, ActRecord.reply, hpos]
  · simp [State.lensReply, ActRecord.reply, hpos]
    omega

/-! ### READ STATISTICS (R40) -/

@[simp] theorem statisticsPart_cons (x : Byte) (l : List Byte) : statisticsPart (x :: l) = x.toNat := firstByte_cons x l
@[simp] theorem statisticsFirst_cons (x y : Byte) (l : List Byte) : statisticsFirst (x :: y :: l) = y.toNat := settingsCount_cons x y l

/-- READ STATISTICS by its two operands. -/
theorem exec_readStatistics (part first : Byte) (p : Port) (s : State) :
    exec (.readStatistics p [part, first]) s = .next (Answer.sendTo (if part.toNat = 0 then reading s.begin s.begin.summaryReply
      else if part.toNat = 1 ∧ first.toNat ≤ 34 then reading s.begin (s.begin.zonesReply first.toNat)
      else answer s.begin .badArgument) p) := by
  change execReadStatistics p [part, first] s = _
  rw [execReadStatistics, show lengthIs 2 [part, first] = true from rfl, State.request_ok, statisticsPart_cons, statisticsFirst_cons]

theorem State.summaryReply_carries {s : State} {r : StatRecord} (h : s.st.last = some r) : carries s.summaryReply
      [(0, 1, 0), (1, 1, 1), (2, 4, r.seq.toNat), (6, 1, r.kind.code),
        (7, 2, signedValue 2 r.t), (9, 2, signedValue 2 r.a), (11, 2, signedValue 2 r.g), (13, 2, signedValue 2 r.q),
        (15, 1, flagValue 0 r.flags.incomplete + flagValue 1 r.flags.settingsLate + flagValue 2 r.flags.irisMoved +
          flagValue 3 r.flags.focusMoved + flagValue 4 r.flags.zoomMoved + flagValue 5 r.flags.recentered +
          flagValue 6 r.flags.capture),
        (16, 1, flagValue 0 r.aeEligible + flagValue 1 r.afEligible), (17, 4, r.stamp.toNat), (21, 2, r.m),
        (23, 1, r.pattern), (24, 4, r.h), (28, 4, r.n)] := by
  simp [State.summaryReply, h, FrameFlags.pack, packBits_eq, flagSum, Nat.add_assoc]

theorem State.summaryReply_drop {s : State} {r : StatRecord} (h : s.st.last = some r) (hr : r.bank.shaped) :
    s.summaryReply.drop 32 = r.bank.feats.flatMap (be 2) := by
  have hlen : r.bank.feats.length = 9 := hr.2
  simp [State.summaryReply, h, List.drop_append, List.drop_of_length_le, List.take_of_length_le, hlen]

theorem State.summaryReply_length {s : State} (h : ∀ r, s.st.last = some r → r.bank.shaped) : s.summaryReply.length = 50 := by
  cases hlast : s.st.last with
  | none => simp [State.summaryReply, hlast]
  | some r =>
    have hlen : r.bank.feats.length = 9 := (h r hlast).2
    simp [State.summaryReply, hlast, hlen, List.take_of_length_le, length_flatMap_const _ _ 2 (be_length 2)]

theorem State.summaryReply_feats {s : State} {r : StatRecord} (h : s.st.last = some r) (hr : r.bank.shaped) {j : Nat} (hj : j < 9) :
    carries s.summaryReply [(32 + 2 * j, 2, r.bank.feats.getD j 0)] := by
  have hlength : s.summaryReply.length = 50 := State.summaryReply_length (by simpa [h] using hr)
  have hfeat : r.bank.feats[j]? = some (r.bank.feats.getD j 0) := by
    have hlt : j < r.bank.feats.length := hr.2 ▸ hj
    rw [List.getElem?_eq_getElem hlt, List.getD_eq_getElem _ _ hlt]
  refine carries_entry_of_drop (fields := [(0, 2, r.bank.feats.getD j 0)]) (by omega) (State.summaryReply_drop h hr) (be_length 2)
    hfeat (by simp) (by simp) ?_
  simp
  omega

@[simp] theorem Zone.reply_length (z : Zone) : z.reply.length = 16 := by simp [Zone.reply]

theorem State.zonesReply_carries (s : State) (first : Nat) : carries (s.zonesReply first)
    [(0, 1, 1), (1, 1, flagValue 0 s.st.last.isSome), (6, 1, first), (7, 1, min 12 (35 - first))] := by
  cases hlast : s.st.last with
  | none => simp [State.zonesReply, hlast, flagValue]
  | some r => simp [State.zonesReply, hlast, flagValue]

theorem State.zonesReply_length {s : State} {first : Nat} (h : ∀ r, s.st.last = some r → r.bank.shaped) :
    (s.zonesReply first).length = 8 + 16 * min 12 (35 - first) := by
  cases hlast : s.st.last with
  | none =>
    simp [State.zonesReply, hlast]
    omega
  | some r =>
    have hlen : r.bank.zones.length = 35 := (h r hlast).1
    simp [State.zonesReply, hlast, hlen, length_flatMap_const _ _ 16 Zone.reply_length]
    omega

theorem State.zonesReply_none {s : State} (h : s.st.last = none) (first : Nat) :
    field (s.zonesReply first) 2 4 = 0 ∧ ∀ k, field (s.zonesReply first) (8 + 16 * k) 16 = 0 := by
  have hdrop : (s.zonesReply first).drop 8 = List.replicate (min 12 (35 - first) * 16) 0#8 := by
    simp [State.zonesReply, h, List.drop_append, List.drop_of_length_le, be_zeros]
    exact List.flatten_replicate_replicate (m := 16)
  refine ⟨by simp [State.zonesReply, h], fun k => ?_⟩
  rw [field, ← List.drop_drop, hdrop, ← field, field_replicate_zero]

theorem State.zonesReply_zone {s : State} {r : StatRecord} {first k : Nat} (h : s.st.last = some r) (hr : r.bank.shaped)
    (hk : k < 12) {z : Zone} (hz : r.bank.zones[first + k]? = some z) :
    carries (s.zonesReply first) [(8 + 16 * k, 4, z.sum),
          (12 + 16 * k, 4, z.count), (16 + 16 * k, 2, z.min), (18 + 16 * k, 2, z.max), (20 + 16 * k, 4, z.high)] := by
  have hlength := State.zonesReply_length (s := s) (first := first) (by simpa [h] using hr)
  have hlt : first + k < r.bank.zones.length := (List.getElem?_eq_some_iff.1 hz).1
  have hdrop : (s.zonesReply first).drop 8 = ((r.bank.zones.drop first).take (min 12 (35 - first))).flatMap Zone.reply := by
    simp [State.zonesReply, h, List.drop_append, List.drop_of_length_le]
  refine carries_entry_of_drop (fields := [(0, 4, z.sum), (4, 4, z.count), (8, 2, z.min), (10, 2, z.max), (12, 4, z.high)])
    (by omega) hdrop Zone.reply_length ((getElem?_window (by rw [hr.1] at hlt; omega)).trans hz) (by simp) ?_ ?_
  · simp [Zone.reply]
  · simp
    omega

/-- Settles O13: by the part asked for, and by whether there is a record. -/
theorem statisticsAreReported : Obligations.StatisticsAreReported := by
  intro s p part first hshaped
  have hexec := exec_readStatistics part first p s
  refine ⟨fun hpart => ?summary, fun hpart hfirst => ?zones, fun hother => ?refused⟩
  case summary =>
    rw [if_pos hpart] at hexec
    refine ⟨_, State.summaryReply_length hshaped, answers_reading hexec, fun hnone => ?_, fun r hr =>
      ⟨State.summaryReply_carries hr, fun j hj => State.summaryReply_feats hr (hshaped r hr) hj⟩⟩
    simp only [State.summaryReply, hnone]
    exact be_zeros 50
  case zones =>
    rw [if_neg (by omega), if_pos ⟨hpart, hfirst⟩] at hexec
    refine ⟨_, State.zonesReply_length hshaped, answers_reading hexec, State.zonesReply_carries s _, fun hnone => ?_, fun r hr => ⟨?_, fun k hk z hz =>
      State.zonesReply_zone hr (hshaped r hr) hk hz⟩⟩
    · obtain ⟨hseq, hzones⟩ := State.zonesReply_none (s := s) hnone first.toNat
      exact ⟨hseq, fun k _ => hzones k⟩
    · simp [State.zonesReply, hr]
  case refused =>
    rw [if_neg (by omega), if_neg (by omega)] at hexec
    exact answers_refused hexec

/-! ### GET STORE STATE and READ SLOTS (R157) -/

theorem State.storeReply_carries (s : State) : carries s.storeReply
    [(0, 1, s.store.state.code), (1, 1, s.store.backlog), (2, 1, flagValue 0 s.store.urgent),
        (3, 1, s.freeSlots), (4, 1, (s.store.firstSlot .filling).getD 255), (5, 4, s.store.buf.length),
        (9, 1, flagValue 0 (0 < s.store.remnant)), (10, 1, s.store.ring1.code), (11, 1, portCode s.store.ring2)] := by
  simp [State.storeReply]

/-- A port's part of GET STORE STATE's reply. -/
theorem State.storeReply_port (s : State) {y : Port × Nat} (hy : y ∈ [(Port.a, 12), (.b, 30), (.c, 48)]) {off n : Nat}
    (h : off + n ≤ 18) : field s.storeReply (y.2 + off) n = field (s.storePortReply y.1) off n := by
  have hdrop : ∃ rest, s.storeReply.drop y.2 = s.storePortReply y.1 ++ rest := by
    rcases List.mem_cons.1 hy with rfl | hy
    · exact ⟨_, by simp [State.storeReply, List.drop_append, List.drop_of_length_le]; rfl⟩
    rcases List.mem_cons.1 hy with rfl | hy
    · exact ⟨_, by simp [State.storeReply, List.drop_append, List.drop_of_length_le]; rfl⟩
    rcases List.mem_singleton.1 hy with rfl
    exact ⟨[], by simp [State.storeReply, List.drop_append, List.drop_of_length_le]⟩
  obtain ⟨rest, hrest⟩ := hdrop
  rw [field, ← List.drop_drop, hrest, ← field, field_append_left _ _ (by simpa using h)]

theorem State.storeReply_port_carries (s : State) {y : Port × Nat} (hy : y ∈ [(Port.a, 12), (.b, 30), (.c, 48)])
    {fields : List (Nat × Nat × Nat)} (hwithin : ∀ x ∈ fields, x.1 + x.2.1 ≤ 18) (h : carries (s.storePortReply y.1) fields) :
    carries s.storeReply (fields.map fun x => (y.2 + x.1, x.2)) := by
  intro z hz
  obtain ⟨x, hx, rfl⟩ := List.mem_map.1 hz
  rw [s.storeReply_port hy (hwithin x hx)]
  exact h x hx

theorem State.slotsReply_length (s : State) (first : Nat) :
    (s.slotsReply first).length = 2 + 13 * min 16 (32 - first) := by
  simp [State.slotsReply, length_flatMap_const _ _ 13 (fun i => Slot.reply_length (s.store.slotAt i) i)]
  omega

theorem State.slotsReply_carries (s : State) (first : Nat) :
    carries (s.slotsReply first) [(0, 1, first), (1, 1, min 16 (32 - first))] := by
  simp [State.slotsReply]

theorem Store.slotAt_of_getElem? {b : Store} {i : Nat} {x : Slot} (h : b.slots[i]? = some x) : b.slotAt i = x := by
  rw [Store.slotAt, List.getD_eq_getElem?_getD, h, Option.getD_some]

theorem State.slotsReply_slot (s : State) {first k : Nat} (hk : k < min 16 (32 - first)) {x : Slot}
    (hx : s.store.slots[first + k]? = some x) : carries (s.slotsReply first)
      [(2 + 13 * k, 1, first + k), (3 + 13 * k, 1, x.state.code),
          (4 + 13 * k, 1, flagValue 0 x.capNo.isSome + flagValue 1 x.incomplete + flagValue 2 x.drainPort.isSome),
          (5 + 13 * k, 4, (x.capNo.map BitVec.toNat).getD 0), (9 + 13 * k, 4, x.bytes), (13 + 13 * k, 1, x.pins),
          (14 + 13 * k, 1, (x.drainPort.map portCode).getD 0)] := by
  obtain ⟨h16, h32⟩ := lt_min_iff.mp hk
  have hindex : (((List.range 32).drop first).take (min 16 (32 - first)))[k]? = some (first + k) := by
    rw [getElem?_window hk, List.getElem?_range (by omega)]
  refine carries_entry_of_drop (n := 2) (f := fun i => (s.store.slotAt i).reply i)
    (fields := [(0, 1, first + k), (1, 1, x.state.code),
      (2, 1, flagValue 0 x.capNo.isSome + flagValue 1 x.incomplete + flagValue 2 x.drainPort.isSome),
      (3, 4, (x.capNo.map BitVec.toNat).getD 0), (7, 4, x.bytes), (11, 1, x.pins), (12, 1, (x.drainPort.map portCode).getD 0)])
    (by rw [State.slotsReply_length]; omega) ?_ (fun i => Slot.reply_length _ i) hindex (by simp) ?_ ?_
  · simp [State.slotsReply, List.drop_append, List.drop_of_length_le]
  · rw [Store.slotAt_of_getElem? hx]
    simp [Slot.reply, packBits_eq, flagSum, Nat.add_assoc]
  · simp
    omega

theorem exec_readSlots (first : Byte) (p : Port) (s : State) :
    exec (.readSlots p [first]) s = .next (Answer.sendTo
      (if 31 < first.toNat then answer s.begin .badArgument else reading s.begin (s.begin.slotsReply first.toNat)) p) := by
  change execReadSlots p [first] s = _
  rw [execReadSlots, show lengthIs 1 [first] = true from rfl, State.request_ok, firstByte_cons]

/-- A port's part of GET STORE STATE's reply, field by field. -/
theorem State.storePortReply_carries (s : State) (q : Port) :
    carries (s.storePortReply q) [(0, 1, flagValue 0 (!s.promoted q)), (1, 1, flagValue 0 (s.store.cut.get q)),
      (12, 2, (s.store.fifos.get q).length)] := by
  have hrank : flagValue 0 (!s.promoted q) = if s.promoted q then 0 else 1 := by cases s.promoted q <;> rfl
  simp [State.storePortReply, hrank]

/-- Settles O14. -/
theorem storeAndSlotsAreReported : Obligations.StoreAndSlotsAreReported := by
  refine fun s p => ⟨⟨_, s.storeReply_length, answers_reading rfl, s.storeReply_carries, fun y hy => ?ports⟩,
    fun first hfirst => ⟨_, s.slotsReply_length _, answers_reading ?_, s.slotsReply_carries _, fun k hk x hx => s.slotsReply_slot hk hx⟩,
    fun first hfirst => answers_refused ?_⟩
  case ports =>
    refine ⟨s.storeReply_port_carries hy (by simp) (s.storePortReply_carries y.1), fun hnone => ?_, fun x hx => ?_, fun hnone => ?_,
      fun x hx => ?_⟩
    · rw [s.storeReply_port hy (by omega)]
      simp [State.storePortReply, streamReply, hnone]
    · exact s.storeReply_port_carries hy (fields := [(2, 1, x.kind.code), (3, 1, x.slot), (4, 4, x.next), (8, 4, x.endOff)]) (by simp)
        (by simp [State.storePortReply, streamReply, hx])
    · rw [s.storeReply_port hy (by omega)]
      simp [State.storePortReply, endReply, hnone]
    · exact s.storeReply_port_carries hy (fields := [(15, 1, x.kind.code), (16, 1, x.slot), (17, 1, x.reason.code)]) (by simp)
        (by simp [State.storePortReply, endReply, hx])
  · rw [exec_readSlots, if_neg (by omega)]
    rfl
  · rw [exec_readSlots, if_pos hfirst]

/-! ### TAKE RECORD and QUEUE STATUS (R166, R171) -/

theorem State.recordReply_none {s : State} (h : s.rq.queue = []) : s.recordReply = List.replicate 59 0 := by
  rw [State.recordReply, h]
  exact (congrArg (be 1 0 ++ ·) (be_zeros 58)).trans rfl

theorem State.recordReply_carries {s : State} {r : CaptureRecord} {rest : List CaptureRecord} (h : s.rq.queue = r :: rest) :
    carries s.recordReply [(1, 1, 1), (3, 4, r.capNo.toNat), (7, 1, r.slot),
        (8, 1, r.burstIndex), (9, 1, r.mode.code), (10, 4, r.startPart.seq.toNat), (14, 4, r.startPart.stamp.toNat),
        (18, 2, signedValue 2 r.startPart.t), (20, 2, signedValue 2 r.startPart.a), (22, 2, signedValue 2 r.startPart.g),
        (24, 2, signedValue 2 r.startPart.q), (29, 2, signedValue 2 r.startPart.focal), (34, 1, r.startPart.afState.code),
        (36, 1, r.startPart.stabState.code), (37, 4, r.endPart.stamp.toNat), (46, 2, r.readPart.m), (48, 4, r.readPart.h),
        (52, 2, r.readPart.f), (54, 1, flagValue 0 r.readPart.timedOut + flagValue 1 r.readPart.incomplete),
        (55, 4, r.readPart.bytes)] := by
  simp [State.recordReply, CaptureRecord.reply, h, packBits_eq, flagSum]

/-- The number and slot of a record that may be absent. -/
theorem recordId_carries (x : Option (Word32 × Nat)) :
    carries (recordId x) [(0, 4, (x.map (fun y => y.1.toNat)).getD 0), (4, 1, (x.map Prod.snd).getD 0)] := by
  cases x <;> simp [recordId]

theorem State.queueReply_carries (s : State) : carries s.queueReply [(0, 1, s.rq.queue.length), (1, 1, s.settingNat 56), (2, 1, s.settingNat 57),
        (3, 1, flagValue 0 (s.rq.queue ≠ []) + flagValue 1 (s.rq.queue ≠ []) + flagValue 2 s.rq.stale.isSome +
          flagValue 3 s.rq.opened.isSome),
        (4, 4, (s.rq.queue.head?.map (fun r => r.capNo.toNat)).getD 0), (8, 1, (s.rq.queue.head?.map CaptureRecord.slot).getD 0),
        (9, 4, (s.rq.queue.getLast?.map (fun r => r.capNo.toNat)).getD 0),
        (13, 1, (s.rq.queue.getLast?.map CaptureRecord.slot).getD 0),
        (16, 4, (s.rq.opened.map (fun o => o.capNo.toNat)).getD 0), (20, 1, (s.rq.opened.map OpenRecord.slot).getD 0),
        (21, 1, (s.rq.opened.map (fun o => o.phase.code)).getD 0)] := by
  have hids (x : Option (Word32 × Nat)) := recordId_carries x
  simp only [carries_cons, carries_nil, and_true] at hids
  have hempty : (!s.rq.queue.isEmpty) = decide (s.rq.queue ≠ []) := by cases s.rq.queue <;> rfl
  simp [State.queueReply, packBits_eq, flagSum, Nat.add_assoc, hids, hempty, Function.comp_def]

/-- Settles O15: the oldest record's part by whether there is one. -/
theorem queueAndOldestRecordAreReported : Obligations.QueueAndOldestRecordAreReported := by
  refine fun s p => ⟨⟨_, s.recordReply_length, ⟨_, rfl, Answer.sendTo_replies _ p, ?_, rfl⟩, ?_, State.recordReply_none,
    fun r rest => State.recordReply_carries⟩, ⟨_, s.queueReply_length, answers_reading rfl, s.queueReply_carries⟩⟩
  · exact onlyChanged_of_begin (Answer.sendTo_onlyChanged _ p)
  · simp [State.recordReply]

end Sys2Proof.Machine
end

section
/-! The requests of the event sets (R184, R187) and SET SETTINGS (R178, R28, R32). -/

namespace Sys2Proof.Machine

/-! ### SET EVENT MASK and CLEAR OCCURRENCES -/

theorem exec_setEventMask_of_none {payload : List Byte} (hlen : payload.length = 4) (hk : kindSetOf payload = none) (p : Port)
    (s : State) : exec (.setEventMask p payload) s = .next ((answer s.begin .badArgument).sendTo p) := by
  change execSetEventMask p payload s = _
  simp [execSetEventMask, lengthIs, hlen, hk, State.request_ok]

theorem exec_setEventMask_of_some {payload : List Byte} {k : KindSet} (hlen : payload.length = 4) (hk : kindSetOf payload = some k)
    (p : Port) (s : State) : exec (.setEventMask p payload) s =
      .next ((answer (s.begin.withLinks (fun l => { l with mask := l.mask.set p k })) .ok).sendTo p) := by
  change execSetEventMask p payload s = _
  simp [execSetEventMask, lengthIs, hlen, hk, State.request_ok]

theorem exec_clearOccurrences_of_none {payload : List Byte} (hlen : payload.length = 4) (hk : kindSetOf payload = none) (p : Port)
    (s : State) : exec (.clearOccurrences p payload) s = .next ((answer s.begin .badArgument).sendTo p) := by
  change execClearOccurrences p payload s = _
  simp [execClearOccurrences, lengthIs, hlen, hk, State.request_ok]

theorem exec_clearOccurrences_of_some {payload : List Byte} {k : KindSet} (hlen : payload.length = 4)
    (hk : kindSetOf payload = some k) (p : Port) (s : State) : exec (.clearOccurrences p payload) s =
      .next ((answer (s.begin.withLinks (fun l => { l with occ := l.occ &&& ~~~k })) .ok).sendTo p) := by
  change execClearOccurrences p payload s = _
  simp [execClearOccurrences, lengthIs, hlen, hk, State.request_ok]

theorem State.withLinks_begin_onlyChanged (s : State) (f : Links → Links) (htxn : (f s.links).txn = s.links.txn) :
    onlyChanged [.events] s (s.begin.withLinks f) := onlyChanged_of_begin (s.begin.withLinks_onlyChanged f htxn)

/-- Settles O17: a kind set decodes to none or to its kinds, and the refreshed lines follow the sets. -/
theorem setEventMaskReplacesTheCallingPortsMask : Obligations.SetEventMaskReplacesTheCallingPortsMask := by
  intro s p payload hlen
  refine ⟨fun hbad => answers_of_begin _ (exec_setEventMask_of_none hlen (kindSetOf_eq_none hbad) p s) rfl rfl, fun k hk => ?_⟩
  have hfollow := Answer.sendTo_linesFollow (x := answer (s.begin.withLinks (fun l => { l with mask := l.mask.set p k })) .ok)
    (s.begin.withLinks_linesFollow _) p
  refine answers_of_sendTo (answer (s.begin.withLinks _) .ok) (exec_setEventMask_of_some hlen (kindSetOf_eq_some hk) p s) rfl
    (s.withLinks_begin_onlyChanged _ rfl) ⟨by simp, fun q hq => ?_, by simp, by simp, ?_, hfollow⟩
  · simp [PerPort.get_set_ne _ _ hq]
  · simpa using hfollow p

/-- Lines that follow the sets are those a refresh gives (R184). -/
theorem Links.refresh_line_of_follow {l : Links} (h : l.follow) : l.refresh.line = l.line := by
  have hport (p : Port) : l.refresh.line.get p = l.line.get p := by
    rw [Links.refresh_line, Bool.eq_iff_iff, lineOf_eq_true_iff, h p]
  obtain ⟨ha, hb, hc⟩ := And.intro (hport .a) (And.intro (hport .b) (hport .c))
  cases hl : l.line
  cases hr : l.refresh.line
  simp_all [PerPort.get]

/-- Settles O18: only the occurrence set is written, and lines that follow the sets are not moved by a refresh. -/
theorem clearOccurrencesRemovesKindsFromTheSharedSet : Obligations.ClearOccurrencesRemovesKindsFromTheSharedSet := by
  intro s p payload hlen
  refine ⟨fun hbad => answers_of_begin _ (exec_clearOccurrences_of_none hlen (kindSetOf_eq_none hbad) p s) rfl rfl, fun k hk => ?_⟩
  refine answers_of_sendTo (answer (s.begin.withLinks _) .ok) (exec_clearOccurrences_of_some hlen (kindSetOf_eq_some hk) p s) rfl
    (s.withLinks_begin_onlyChanged _ rfl) ⟨by simp, by simp, by simp, fun hfollow => ?_⟩
  exact Links.refresh_line_of_follow (l := { s.links with occ := s.links.occ &&& ~~~k }) hfollow

/-! ### SET SETTINGS: the pairs -/

theorem applyPairs_append_singleton (l : List Int) (pairs : List (Nat × Int)) (x : Nat × Int) :
    applyPairs l (pairs ++ [x]) = applyPair (applyPairs l pairs) x := by
  rw [applyPairs, List.foldl_append]
  rfl

theorem lastPair_append_singleton (pairs : List (Nat × Int)) (x : Nat × Int) (i : Nat) :
    lastPair (pairs ++ [x]) i = if x.1 = i then some x.2 else lastPair pairs i := by
  rw [lastPair, List.reverse_append, List.reverse_singleton, List.singleton_append, List.find?_cons]
  by_cases h : x.1 = i
  · simp [h]
  · simp [h, lastPair]

@[simp] theorem lowerWindow_length (l : List Int) (i : Nat) : (lowerWindow l i).length = l.length := by
  unfold lowerWindow
  split_ifs <;> simp

@[simp] theorem applyPair_length (x : List Int × Bool) (y : Nat × Int) : (applyPair x y).1.length = x.1.length := by
  simp [applyPair]

theorem applyPairs_length (l : List Int) (pairs : List (Nat × Int)) : (applyPairs l pairs).1.length = l.length := by
  induction pairs using List.reverseRecOn with
  | nil => rfl
  | append_singleton pairs x ih => rw [applyPairs_append_singleton, applyPair_length, ih]

/-- Lowering the window writes its left or top alone. -/
theorem settingOf_lowerWindow {l : List Int} {i j : Nat} (hl : l.length = 57) (hj : 1 ≤ j) (hleft : j ≠ ixAfLeft) (htop : j ≠ ixAfTop) :
    settingOf (lowerWindow l i) j = settingOf l j := by
  unfold lowerWindow
  split_ifs
  · rw [settingOf_writeSetting _ (by decide) (hl ▸ by decide) hj, if_neg hleft]
  · rw [settingOf_writeSetting _ (by decide) (hl ▸ by decide) hj, if_neg htop]
  · rfl

theorem takenValue_eq_legalValue (l : List Int) {i : Nat} (v : Int) (hleft : i ≠ ixAfLeft) (htop : i ≠ ixAfTop) :
    takenValue l i v = legalValue i v := by
  rw [takenValue, legalValue, if_neg hleft, if_neg htop]
  rfl

theorem settingOf_applyPair {x : List Int × Bool} {y : Nat × Int} {i : Nat} (hl : x.1.length = 57) (hy : 1 ≤ y.1 ∧ y.1 ≤ 57)
    (hi : 1 ≤ i) (hleft : i ≠ ixAfLeft) (htop : i ≠ ixAfTop) :
    settingOf (applyPair x y).1 i = if y.1 = i then legalValue i y.2 else settingOf x.1 i := by
  rw [applyPair, settingOf_lowerWindow (by simpa using hl) hi hleft htop,
    settingOf_writeSetting _ hy.1 (hl ▸ hy.2) hi]
  by_cases h : y.1 = i
  · rw [if_pos h.symm, if_pos h, h, takenValue_eq_legalValue _ _ hleft htop]
  · rw [if_neg (Ne.symm h), if_neg h]

/-- The last pair that names a setting stands (R178). -/
theorem settingOf_applyPairs {l : List Int} {pairs : List (Nat × Int)} {i : Nat} (hl : l.length = 57)
    (hpairs : ∀ x ∈ pairs, 1 ≤ x.1 ∧ x.1 ≤ 57) (hi : 1 ≤ i) (hleft : i ≠ ixAfLeft) (htop : i ≠ ixAfTop) :
    settingOf (applyPairs l pairs).1 i = ((lastPair pairs i).map (legalValue i)).getD (settingOf l i) := by
  induction pairs using List.reverseRecOn with
  | nil => rfl
  | append_singleton pairs x ih =>
    rw [applyPairs_append_singleton, lastPair_append_singleton,
      settingOf_applyPair ((applyPairs_length l pairs).trans hl) (hpairs x (by simp)) hi hleft htop,
      ih fun y hy => hpairs y (by simp [hy])]
    split <;> rfl

/-- A pair outside the window is taken as changed just when its nearest legal value is another. -/
theorem applyPair_changed_of_other (x : List Int × Bool) {y : Nat × Int} (h : y.1 < ixAfLeft ∨ ixAfHeight < y.1) :
    (applyPair x y).2 = (x.2 || !decide (legalValue y.1 y.2 = y.2)) := by
  simp only [ixAfLeft, ixAfHeight] at h
  rw [applyPair, lowerWindow_of_other _ (by simp only [ixAfWidth]; omega) (by simp only [ixAfHeight]; omega),
    takenValue_eq_legalValue _ _ (by simp only [ixAfLeft]; omega) (by simp only [ixAfTop]; omega)]
  simp

theorem applyPairs_changed_of_other (l : List Int) {pairs : List (Nat × Int)}
    (h : ∀ x ∈ pairs, x.1 < ixAfLeft ∨ ixAfHeight < x.1) :
    (applyPairs l pairs).2 = !pairs.all (fun x => decide (legalValue x.1 x.2 = x.2)) := by
  induction pairs using List.reverseRecOn with
  | nil => rfl
  | append_singleton pairs x ih =>
    rw [applyPairs_append_singleton, applyPair_changed_of_other _ (h x (by simp)), ih fun y hy => h y (by simp [hy])]
    simp

/-- One pair taken as another value makes the request one that was adjusted. -/
theorem applyPairs_changed_of_mem (l : List Int) {pairs : List (Nat × Int)}
    (h : ∃ x ∈ pairs, x.1 ≠ ixAfLeft ∧ x.1 ≠ ixAfTop ∧ legalValue x.1 x.2 ≠ x.2) : (applyPairs l pairs).2 = true := by
  induction pairs using List.reverseRecOn with
  | nil => simp at h
  | append_singleton pairs x ih =>
    rw [applyPairs_append_singleton, applyPair]
    obtain ⟨y, hy, hleft, htop, hchanged⟩ := h
    rcases List.mem_append.1 hy with hmem | hmem
    · simp [ih ⟨y, hmem, hleft, htop, hchanged⟩]
    · rw [List.mem_singleton] at hmem
      subst hmem
      rw [takenValue_eq_legalValue _ _ hleft htop]
      simp [hchanged]

/-! ### SET SETTINGS: the request -/

theorem exec_setSettings {payload : List Byte} (hlen : settingsLengthOk payload = true) (p : Port) (s : State) :
    exec (.setSettings p payload) s = .next (Answer.sendTo (if (settingPairs payload).all pairOk then
        answer (s.begin.applySettings (settingPairs payload))
          (if (applyPairs s.settings (settingPairs payload)).2 then .adjusted else .ok)
      else answer s.begin .badArgument) p) := by
  change execSetSettings p payload s = _
  rw [execSetSettings, hlen, State.request_ok]
  rfl

@[simp] theorem State.applySettings_frame (s : State) (pairs : List (Nat × Int)) :
    (s.applySettings pairs).pending = s.pending ∧ (s.applySettings pairs).clock = s.clock ∧
    (s.applySettings pairs).settings = (applyPairs s.settings pairs).1 ∧ (s.applySettings pairs).store = s.store ∧
    (s.applySettings pairs).links = s.links ∧ (s.applySettings pairs).loader = s.loader ∧
    (s.applySettings pairs).epoch = s.epoch ∧ (s.applySettings pairs).free = s.free := by
  simp only [State.applySettings]; (repeat' split) <;> simp

@[simp] theorem State.applySettings_fields (s : State) (pairs : List (Nat × Int)) :
    (s.applySettings pairs).rq.queue = s.rq.queue ∧ (s.applySettings pairs).rq.opened = s.rq.opened ∧
    (s.applySettings pairs).fc.cadence = s.fc.cadence ∧ (s.applySettings pairs).fc.owed = s.fc.owed := by
  simp only [State.applySettings]; (repeat' split) <;> simp

/-- What SET SETTINGS may move: the settings and the owning blocks (R178). -/
def settingsParts : List Part := [.settings, .frames, .statistics, .planner, .lens, .focus, .stabilizer, .records]

theorem State.applySettings_onlyChanged (s : State) (pairs : List (Nat × Int)) : onlyChanged settingsParts s (s.applySettings pairs) := by
  refine ⟨by simp, by simp, fun y hy => ?_⟩
  cases y <;> simp [Part.same, State.dramByte, settingsParts] at hy ⊢

/-- SET SETTINGS taken: its reply and the settings that stand after it. -/
theorem answers_setSettings {payload : List Byte} (hlen : settingsLengthOk payload = true)
    (hpairs : (settingPairs payload).all pairOk = true) (p : Port) (s : State) {f : State → Prop}
    (hf : ∀ t : State, t.settings = (applyPairs s.settings (settingPairs payload)).1 → t.rq.queue = s.rq.queue →
      t.rq.opened = s.rq.opened → t.fc.cadence = s.fc.cadence → t.fc.owed = s.fc.owed → f t) :
    answers (.setSettings p payload) s p (if (applyPairs s.settings (settingPairs payload)).2 then .adjusted else .ok) []
      settingsParts f := by
  have hexec := exec_setSettings hlen p s
  rw [if_pos hpairs] at hexec
  exact answers_of_sendTo (answer (s.begin.applySettings _) _) hexec rfl (onlyChanged_of_begin (s.begin.applySettings_onlyChanged _))
    (hf _ (by simp) (by simp) (by simp) (by simp) (by simp))

theorem settingsLengthOk_of {payload : List Byte} (h5 : 5 ≤ payload.length) (h250 : payload.length ≤ 250)
    (hmod : payload.length % 5 = 0) : settingsLengthOk payload = true := by
  simp [settingsLengthOk, h5, h250, hmod]

/-- Settles O20: the pairs are judged first; then the settings after them, the frame, and the reply follow from the pairs. -/
theorem setSettingsTakesTheLastPairs : Obligations.SetSettingsTakesTheLastPairs := by
  refine ⟨fun s p payload h5 h250 hmod hbad => ?refused, fun s p payload h5 h250 hmod hlength hgood => ?taken⟩
  case refused =>
    have hall : ¬ (settingPairs payload).all pairOk = true := fun hall => by
      obtain ⟨x, hx, hno⟩ := hbad
      obtain ⟨hindex, hcodes⟩ := (pairOk_iff x).1 (List.all_eq_true.1 hall x hx)
      rcases hno with hzero | hlarge | ⟨codes, hrange, hnot⟩
      · omega
      · omega
      · exact hnot (hcodes codes hrange)
    have hexec := exec_setSettings (settingsLengthOk_of h5 h250 hmod) p s
    rw [if_neg hall] at hexec
    exact answers_refused hexec
  case taken =>
    have hall : (settingPairs payload).all pairOk = true := List.all_eq_true.2 fun x hx =>
      let ⟨hfirst, hlast, hcodes⟩ := hgood x hx
      (pairOk_iff x).2 ⟨⟨hfirst, hlast⟩, hcodes⟩
    refine ⟨_, answers_setSettings (settingsLengthOk_of h5 h250 hmod) hall p s fun t hsettings hqueue hopened hcadence howed =>
      ⟨?_, fun i hi _ hleft htop => ?_, hqueue, hopened, hcadence, howed⟩, fun hother => ?_, fun hmem => ?_⟩
    · rw [hsettings, applyPairs_length, hlength]
    · rw [State.setting, hsettings]
      exact settingOf_applyPairs hlength (fun x hx => let ⟨hfirst, hlast, _⟩ := hgood x hx; ⟨hfirst, hlast⟩) hi hleft htop
    · rw [applyPairs_changed_of_other _ hother]
      split <;> simp_all
    · rw [if_pos (applyPairs_changed_of_mem _ hmem)]

/-! ### The AF window (R32) -/

theorem writeSetting_self (l : List Int) (i : Nat) : writeSetting l i (settingOf l i) = l := by
  rw [writeSetting, settingOf]
  by_cases h : i - 1 < l.length
  · rw [List.getD_eq_getElem _ _ h, List.set_getElem_self]
  · rw [List.set_eq_of_length_le (not_lt.mp h)]

theorem writeSetting_eq_self_iff {l : List Int} {i : Nat} (hi : 1 ≤ i) (hil : i ≤ l.length) (v : Int) :
    writeSetting l i v = l ↔ v = settingOf l i := by
  refine ⟨fun h => ?_, fun h => h ▸ writeSetting_self l i⟩
  rw [← h, settingOf_writeSetting v hi hil hi, if_pos rfl]

/-- The left or top of the AF window with the width or height that bounds it. -/
def windowPairs : List (Nat × Nat) := [(ixAfLeft, ixAfWidth), (ixAfTop, ixAfHeight)]

theorem windowPairs_range {w : Nat × Nat} (hw : w ∈ windowPairs) :
    (1 ≤ w.1 ∧ w.1 ≤ 57) ∧ (1 ≤ w.2 ∧ w.2 ≤ 57) ∧ w.1 ≠ w.2 ∧ rangeOf w.1 = .range 0 93 ∧ rangeOf w.2 = .range 3 96 := by
  rcases List.mem_cons.1 hw with rfl | hw
  · exact ⟨by decide, by decide, by decide, rfl, rfl⟩
  · rcases List.mem_singleton.1 hw with rfl
    exact ⟨by decide, by decide, by decide, rfl, rfl⟩

/-- A left or top is judged against the width or height as it stands. -/
theorem applyPair_window_left {w : Nat × Nat} (hw : w ∈ windowPairs) (l : List Int) (v : Int) :
    applyPair (l, false) (w.1, v) = (writeSetting l w.1 (max 0 (min (96 - settingOf l w.2) v)),
      decide (max 0 (min (96 - settingOf l w.2) v) ≠ v)) := by
  rcases List.mem_cons.1 hw with rfl | hw
  · simp [applyPair, takenValue, lowerWindow, clamp]
  · rcases List.mem_singleton.1 hw with rfl
    simp [applyPair, takenValue, lowerWindow, clamp]

theorem takenValue_window_width {w : Nat × Nat} (hw : w ∈ windowPairs) (l : List Int) (v : Int) :
    takenValue l w.2 v = max 3 (min 96 v) := by
  rcases List.mem_cons.1 hw with rfl | hw
  · rfl
  · rcases List.mem_singleton.1 hw with rfl
    rfl

theorem lowerWindow_width {w : Nat × Nat} (hw : w ∈ windowPairs) (l : List Int) :
    lowerWindow l w.2 = writeSetting l w.1 (min (settingOf l w.1) (96 - settingOf l w.2)) := by
  rcases List.mem_cons.1 hw with rfl | hw
  · rfl
  · rcases List.mem_singleton.1 hw with rfl
    rfl

/-- A width or height lowers a left or top that no longer fits. -/
theorem applyPair_window_width {w : Nat × Nat} (hw : w ∈ windowPairs) {l : List Int} (hl : l.length = 57) (v : Int) :
    applyPair (l, false) (w.2, v) =
      (writeSetting (writeSetting l w.2 (max 3 (min 96 v))) w.1 (min (settingOf l w.1) (96 - max 3 (min 96 v))),
        decide (max 3 (min 96 v) ≠ v) || decide (min (settingOf l w.1) (96 - max 3 (min 96 v)) ≠ settingOf l w.1)) := by
  obtain ⟨hleft, hwidth, hne, -, -⟩ := windowPairs_range hw
  have hread := settingOf_writeSetting (max 3 (min 96 v)) hwidth.1 (hl ▸ hwidth.2) hwidth.1
  have hother := settingOf_writeSetting (max 3 (min 96 v)) hwidth.1 (hl ▸ hwidth.2) hleft.1
  rw [if_pos rfl] at hread
  rw [if_neg hne] at hother
  have hsame := writeSetting_eq_self_iff (l := writeSetting l w.2 (max 3 (min 96 v))) hleft.1
    (by simpa [hl] using hleft.2) (min (settingOf l w.1) (96 - max 3 (min 96 v)))
  rw [hother] at hsame
  simp only [applyPair, takenValue_window_width hw, lowerWindow_width hw, hread, hother, Bool.false_or, ne_eq, hsame]

theorem settingPairs_five (i a b c d : Byte) : settingPairs [i, a, b, c, d] = [(i.toNat, signedField [a, b, c, d] 0 4)] := rfl

/-- SET SETTINGS with one pair, of a numeric setting. -/
theorem answers_setSettings_pair {i a b c d : Byte} {j : Nat} {v : Int} {s : State} {x : List Int × Bool} {low high : Int} {A : Prop}
    [Decidable A] (hj : 1 ≤ j ∧ j ≤ 57) (hi : i.toNat = j) (hv : signedField [a, b, c, d] 0 4 = v) (hrange : rangeOf j = .range low high)
    (hx : applyPair (s.settings, false) (j, v) = x) (hunchanged : x.2 = false ↔ A) (p : Port)
    {f : State → Prop} (hf : ∀ t : State, t.settings = x.1 → f t) :
    answers (.setSettings p [i, a, b, c, d]) s p (if A then .ok else .adjusted) [] settingsParts f := by
  have hlen : settingsLengthOk [i, a, b, c, d] = true := settingsLengthOk_of (by simp) (by simp) (by simp)
  have hall : (settingPairs [i, a, b, c, d]).all pairOk = true := by
    rw [settingPairs_five, List.all_cons, List.all_nil, Bool.and_true, pairOk_iff, hi]
    exact ⟨hj, fun codes hcodes => by simp [hrange] at hcodes⟩
  have hpairs : applyPairs s.settings (settingPairs [i, a, b, c, d]) = x := by
    rw [settingPairs_five, hi, hv, applyPairs, List.foldl_cons, List.foldl_nil, hx]
  have h := answers_setSettings hlen hall p s (f := f) fun t hsettings _ _ _ _ => hf t (by rw [hsettings, hpairs])
  rw [hpairs] at h
  convert h using 1
  cases hchanged : x.2 <;> simp_all

/-- Settles O21: one pair, by whether it names the left or top or the width or height. -/
theorem afWindowStaysWithinTheFrame : Obligations.AfWindowStaysWithinTheFrame := by
  intro w hw s p i a b c d v hlength hv
  obtain ⟨hleft, hwidth, hne, hleftRange, hwidthRange⟩ := windowPairs_range hw
  refine ⟨fun hi hfits => ?left, fun hi => ?width⟩
  case left =>
    refine answers_setSettings_pair hleft hi hv hleftRange (applyPair_window_left hw s.settings v) ?_ p fun t ht => ?_
    · simp only [State.setting, decide_eq_false_iff_not, ne_eq, not_not] at hfits ⊢
      omega
    · simp only [State.setting, ht]
      rw [settingOf_writeSetting _ hleft.1 (hlength ▸ hleft.2) hleft.1,
        settingOf_writeSetting _ hleft.1 (hlength ▸ hleft.2) hwidth.1, if_pos rfl, if_neg hne.symm]
      exact ⟨rfl, rfl⟩
  case width =>
    refine answers_setSettings_pair hwidth hi hv hwidthRange (applyPair_window_width hw hlength v) ?_ p fun t ht => ?_
    · simp only [State.setting, Bool.or_eq_false_iff, decide_eq_false_iff_not, ne_eq, not_not]
      omega
    · have hlength' : (writeSetting s.settings w.2 (max 3 (min 96 v))).length = 57 := by simpa using hlength
      simp only [State.setting, ht]
      rw [settingOf_writeSetting _ hleft.1 (hlength' ▸ hleft.2) hleft.1,
        settingOf_writeSetting _ hleft.1 (hlength' ▸ hleft.2) hwidth.1, if_pos rfl, if_neg hne.symm,
        settingOf_writeSetting _ hwidth.1 (hlength ▸ hwidth.2) hwidth.1, if_pos rfl]
      exact ⟨rfl, rfl⟩

/-! ### Settings read and written back (R178, R179) -/

/-- A legal value is taken as it is. -/
theorem takenValue_of_legal {l : List Int} (h : settingsLegal l) {i : Nat} (hi : 1 ≤ i ∧ i ≤ 57) :
    takenValue l i (settingOf l i) = settingOf l i := by
  obtain ⟨hranged, hcolumns, hrows, hleft, htop⟩ := (settingsLegal_iff l).1 h
  unfold takenValue
  split_ifs with hc hr hl ht
  · subst hc
    have := hranged.bounds hi (lo := 64) (hi := 8192) rfl
    simp only [nearestWidth, clamp]
    omega
  · subst hr
    have := hranged.bounds hi (lo := 64) (hi := 8192) rfl
    simp only [nearestHeight, clamp]
    omega
  · subst hl
    have := hranged.bounds hi (lo := 0) (hi := 93) rfl
    simp only [clamp]
    omega
  · subst ht
    have := hranged.bounds hi (lo := 0) (hi := 93) rfl
    simp only [clamp]
    omega
  · cases hrange : rangeOf i with
    | range low high =>
      have := hranged.bounds hi hrange
      simp only [SettingRange.take, clamp]
      omega
    | codes l => rfl

theorem lowerWindow_of_legal {l : List Int} (h : settingsLegal l) (i : Nat) : lowerWindow l i = l := by
  obtain ⟨-, -, -, hleft, htop⟩ := (settingsLegal_iff l).1 h
  unfold lowerWindow
  split_ifs
  · rw [min_eq_left (by omega), writeSetting_self]
  · rw [min_eq_left (by omega), writeSetting_self]
  · rfl

theorem applyPair_of_legal {l : List Int} (h : settingsLegal l) {i : Nat} (hi : 1 ≤ i ∧ i ≤ 57) :
    applyPair (l, false) (i, settingOf l i) = (l, false) := by
  simp only [applyPair, takenValue_of_legal h hi, writeSetting_self, lowerWindow_of_legal h, ne_eq, not_true_eq_false, decide_false,
    Bool.or_false]

theorem applyPairs_of_legal {l : List Int} (h : settingsLegal l) {is : List Nat} (his : ∀ i ∈ is, 1 ≤ i ∧ i ≤ 57) :
    applyPairs l (is.map fun i => (i, settingOf l i)) = (l, false) := by
  induction is with
  | nil => rfl
  | cons i is ih =>
    rw [applyPairs, List.map_cons, List.foldl_cons, applyPair_of_legal h (his i (by simp)), ← applyPairs]
    exact ih fun j hj => his j (by simp [hj])

/-- Every value that a setting may hold fits in four bytes. -/
theorem holds_fits {i : Nat} (hi : 1 ≤ i ∧ i ≤ 57) {x : Int} (h : (rangeOf i).holds x = true) :
    -2147483648 ≤ x ∧ x < 2147483648 := by
  have hall : ∀ j ∈ List.range 58, (match rangeOf j with
      | .range low high => decide (-2147483648 ≤ low) && decide (high < 2147483648)
      | .codes l => l.all (fun y => decide (-2147483648 ≤ y) && decide (y < 2147483648))) = true := by decide
  have hj := hall i (List.mem_range.2 (by omega))
  cases hrange : rangeOf i with
  | range low high =>
    rw [hrange] at hj h
    have hx := SettingRange.range_holds_iff.1 h
    simp only [Bool.and_eq_true, decide_eq_true_eq] at hj
    omega
  | codes l =>
    rw [hrange] at hj h
    have hx := List.all_eq_true.1 hj x (by simpa [SettingRange.holds] using h)
    simpa using hx

theorem signedField_beInt {x : Int} (h : -2147483648 ≤ x ∧ x < 2147483648) : signedField (beInt 4 x) 0 4 = x := by
  simp only [signedField, field_beInt, signedValue]
  norm_num
  split <;> omega

/-- A pair of the reply is read back as the pair it sends. -/
theorem settingPairs_pairReply (s : State) {i : Nat} (hi : i ≤ 57) (hfits : -2147483648 ≤ s.setting i ∧ s.setting i < 2147483648)
    (rest : List Byte) : settingPairs (s.pairReply i ++ rest) = (i, s.setting i) :: settingPairs rest := by
  have hread : settingPairs (s.pairReply i ++ rest) =
      ((BitVec.ofNat 8 i).toNat, signedField (beInt 4 (s.setting i)) 0 4) :: settingPairs rest := rfl
  rw [hread, signedField_beInt hfits, BitVec.toNat_ofNat, Nat.mod_eq_of_lt (by omega)]

theorem settingPairs_settingsReply {s : State} (h : settingsLegal s.settings) {is : List Nat} (his : ∀ i ∈ is, 1 ≤ i ∧ i ≤ 57) :
    settingPairs (is.flatMap s.pairReply) = is.map fun i => (i, s.setting i) := by
  induction is with
  | nil => rfl
  | cons i is ih =>
    have hi := his i (by simp)
    rw [List.flatMap_cons, settingPairs_pairReply s hi.2 (holds_fits hi (h.2.1 i hi.1 hi.2)), ih fun j hj => his j (by simp [hj])]
    rfl

theorem settingsFrom_mem {first count i : Nat} (hfirst : 1 ≤ first) (h : i ∈ settingsFrom first count) : 1 ≤ i ∧ i ≤ 57 := by
  obtain ⟨j, hj⟩ := List.getElem?_of_mem h
  have hlt : j < min count (58 - first) := by
    rw [← settingsFrom_length]
    exact (List.getElem?_eq_some_iff.1 hj).1
  rw [settingsFrom_getElem? hlt] at hj
  cases hj
  omega

/-- Settles O22: legal settings read are pairs that change nothing. -/
theorem settingsReadBackAreSettingsWritten : Obligations.SettingsReadBackAreSettingsWritten := by
  intro s p q first count hlegal hfirst hfirst57 hcount hcount50
  refine ⟨_, answers_of_begin (reading s.begin _) (exec_getSettings_of_within ⟨hfirst, hfirst57, hcount, hcount50⟩ p s) rfl rfl,
    fun u hu => ?_⟩
  have hmem : ∀ i ∈ settingsFrom first.toNat count.toNat, 1 ≤ i ∧ i ≤ 57 := fun i hi => settingsFrom_mem hfirst hi
  have hpairs : settingPairs (s.begin.settingsReply first.toNat count.toNat) =
      (settingsFrom first.toNat count.toNat).map fun i => (i, settingOf s.settings i) :=
    settingPairs_settingsReply (s := s.begin) hlegal hmem
  have happly : applyPairs u.settings (settingPairs (s.begin.settingsReply first.toNat count.toNat)) = (s.settings, false) := by
    rw [hu, hpairs, applyPairs_of_legal hlegal hmem]
  have hall : (settingPairs (s.begin.settingsReply first.toNat count.toNat)).all pairOk = true := by
    rw [hpairs, List.all_map, List.all_eq_true]
    intro i hi
    have hi' := hmem i hi
    refine (pairOk_iff _).2 ⟨hi', fun codes hcodes => ?_⟩
    have hholds := hlegal.2.1 i hi'.1 hi'.2
    rw [show rangeOf i = .codes codes from hcodes] at hholds
    simpa [SettingRange.holds] using hholds
  have hlength := s.begin.settingsReply_length first.toNat count.toNat
  have h := answers_setSettings (settingsLengthOk_of (by omega) (by omega) (by omega)) hall q u (f := fun t => t.settings = s.settings)
    fun t ht _ _ _ _ => by rw [ht, happly]
  rwa [happly] at h

end Sys2Proof.Machine
end

section
/-! What the planner's runs and the operations that bring them leave of Lens Drive: they request iris moves alone (R59), so that zoom and
focus stand as they are. -/

namespace Sys2Proof.Machine

@[simp] theorem State.drive_motors (s : State) (x : Int) (o : Origin) (n : Nat) :
    (s.drive .iris x o n).1.lens.zoom = s.lens.zoom ∧ (s.drive .iris x o n).1.lens.focus = s.lens.focus ∧
      (s.drive .iris x o n).1.lens.sensor = s.lens.sensor := by
  simp only [State.drive]; (repeat' split) <;> simp [State.setAct]

@[simp] theorem State.give_motors (s : State) (x : Int) (o : Origin) (n : Nat) :
    (s.give .iris x o n).1.lens.zoom = s.lens.zoom ∧ (s.give .iris x o n).1.lens.focus = s.lens.focus ∧
      (s.give .iris x o n).1.lens.sensor = s.lens.sensor := by
  simp only [State.give]; split
  · simp [State.setAct]
  · exact s.drive_motors _ o n

@[simp] theorem State.giveIris_motors (s : State) (x : Int) (o : Origin) :
    (s.giveIris x o).lens.zoom = s.lens.zoom ∧ (s.giveIris x o).lens.focus = s.lens.focus ∧ (s.giveIris x o).lens.sensor = s.lens.sensor := by
  simp [State.giveIris]
@[simp] theorem State.formPlans_motors (s : State) (x y : Int) :
    (s.formPlans x y).lens.zoom = s.lens.zoom ∧ (s.formPlans x y).lens.focus = s.lens.focus ∧ (s.formPlans x y).lens.sensor = s.lens.sensor := by
  simp [State.formPlans]
@[simp] theorem State.requestIris_motors (s : State) :
    s.requestIris.lens.zoom = s.lens.zoom ∧ s.requestIris.lens.focus = s.lens.focus ∧ s.requestIris.lens.sensor = s.lens.sensor := by
  simp only [State.requestIris]; (repeat' split) <;> simp
@[simp] theorem State.plannerRun_motors (s : State) :
    s.plannerRun.lens.zoom = s.lens.zoom ∧ s.plannerRun.lens.focus = s.lens.focus ∧ s.plannerRun.lens.sensor = s.lens.sensor := by
  simp only [State.plannerRun]; (repeat' split) <;> simp
@[simp] theorem State.giveLimits_motors (s : State) :
    s.giveLimits.lens.zoom = s.lens.zoom ∧ s.giveLimits.lens.focus = s.lens.focus ∧ s.giveLimits.lens.sensor = s.lens.sensor := by
  simp only [State.giveLimits]; (repeat' split) <;> simp
@[simp] theorem State.creditWatch_motors (s : State) (b : Bool) :
    (s.creditWatch b).lens.zoom = s.lens.zoom ∧ (s.creditWatch b).lens.focus = s.lens.focus ∧ (s.creditWatch b).lens.sensor = s.lens.sensor := by
  simp only [State.creditWatch]; (repeat' split) <;> simp
@[simp] theorem State.setPenalty_motors (s : State) (b : Bool) :
    (s.setPenalty b).lens.zoom = s.lens.zoom ∧ (s.setPenalty b).lens.focus = s.lens.focus ∧ (s.setPenalty b).lens.sensor = s.lens.sensor := by
  simp only [State.setPenalty]; (repeat' split) <;> simp
@[simp] theorem State.setLock_motors (s : State) (x : LockSource) :
    (s.setLock x).lens.zoom = s.lens.zoom ∧ (s.setLock x).lens.focus = s.lens.focus ∧ (s.setLock x).lens.sensor = s.lens.sensor := by
  simp only [State.setLock]; (repeat' split) <;> simp
@[simp] theorem State.planPrepareBegins_motors (s : State) :
    s.planPrepareBegins.lens.zoom = s.lens.zoom ∧ s.planPrepareBegins.lens.focus = s.lens.focus ∧ s.planPrepareBegins.lens.sensor = s.lens.sensor := by
  simp only [State.planPrepareBegins]; (repeat' split) <;> simp
@[simp] theorem State.planPrepareEnds_motors (s : State) :
    s.planPrepareEnds.lens.zoom = s.lens.zoom ∧ s.planPrepareEnds.lens.focus = s.lens.focus ∧ s.planPrepareEnds.lens.sensor = s.lens.sensor := by
  simp only [State.planPrepareEnds]; (repeat' split) <;> simp
@[simp] theorem State.setTlive_motors (s : State) (x : Int) :
    (s.setTlive x).lens.zoom = s.lens.zoom ∧ (s.setTlive x).lens.focus = s.lens.focus ∧ (s.setTlive x).lens.sensor = s.lens.sensor := by
  simp only [State.setTlive]; (repeat' split) <;> simp
@[simp] theorem State.renewTlive_motors (s : State) :
    s.renewTlive.lens.zoom = s.lens.zoom ∧ s.renewTlive.lens.focus = s.lens.focus ∧ s.renewTlive.lens.sensor = s.lens.sensor := by
  simp [State.renewTlive]
@[simp] theorem State.meter_motors (s : State) (r : StatRecord) :
    (s.meter r).lens.zoom = s.lens.zoom ∧ (s.meter r).lens.focus = s.lens.focus ∧ (s.meter r).lens.sensor = s.lens.sensor := by
  simp only [State.meter]; (repeat' split) <;> simp
@[simp] theorem State.stabSet_motors (s : State) (x : StabState) :
    (s.stabSet x).lens.zoom = s.lens.zoom ∧ (s.stabSet x).lens.focus = s.lens.focus ∧ (s.stabSet x).lens.sensor = s.lens.sensor := by
  simp only [State.stabSet]; (repeat' split) <;> simp
@[simp] theorem State.derive_motors (s : State) :
    s.derive.lens.zoom = s.lens.zoom ∧ s.derive.lens.focus = s.lens.focus ∧ s.derive.lens.sensor = s.lens.sensor := by
  simp only [State.derive]; (repeat' split) <;> simp
@[simp] theorem State.calEnd_motors (s : State) (x : CalStatus) :
    (s.calEnd x).lens.zoom = s.lens.zoom ∧ (s.calEnd x).lens.focus = s.lens.focus ∧ (s.calEnd x).lens.sensor = s.lens.sensor := by
  simp [State.calEnd]
@[simp] theorem State.calDone_motors (s : State) :
    s.calDone.lens.zoom = s.lens.zoom ∧ s.calDone.lens.focus = s.lens.focus ∧ s.calDone.lens.sensor = s.lens.sensor := by
  simp [State.calDone]
@[simp] theorem State.calAbort_motors (s : State) :
    s.calAbort.lens.zoom = s.lens.zoom ∧ s.calAbort.lens.focus = s.lens.focus ∧ s.calAbort.lens.sensor = s.lens.sensor := by
  simp only [State.calAbort]; (repeat' split) <;> simp
@[simp] theorem State.calStart_motors (s : State) :
    s.calStart.lens.zoom = s.lens.zoom ∧ s.calStart.lens.focus = s.lens.focus ∧ s.calStart.lens.sensor = s.lens.sensor := by
  simp [State.calStart]
@[simp] theorem State.calSample_motors (s : State) (x y : Int) :
    (s.calSample x y).lens.zoom = s.lens.zoom ∧ (s.calSample x y).lens.focus = s.lens.focus ∧ (s.calSample x y).lens.sensor = s.lens.sensor := by
  simp only [State.calSample]; (repeat' split) <;> simp
@[simp] theorem State.gyroFault_motors (s : State) (x : GyroCause) :
    (s.gyroFault x).lens.zoom = s.lens.zoom ∧ (s.gyroFault x).lens.focus = s.lens.focus ∧ (s.gyroFault x).lens.sensor = s.lens.sensor := by
  simp only [State.gyroFault]; (repeat' split) <;> simp
@[simp] theorem State.watchStuck_motors (s : State) (x y : Int) :
    (s.watchStuck x y).lens.zoom = s.lens.zoom ∧ (s.watchStuck x y).lens.focus = s.lens.focus ∧ (s.watchStuck x y).lens.sensor = s.lens.sensor := by
  simp only [State.watchStuck]; (repeat' split) <;> simp
@[simp] theorem State.watchMissed_motors (s : State) :
    s.watchMissed.lens.zoom = s.lens.zoom ∧ s.watchMissed.lens.focus = s.lens.focus ∧ s.watchMissed.lens.sensor = s.lens.sensor := by
  simp only [State.watchMissed]; (repeat' split) <;> simp
@[simp] theorem State.useSample_motors (s : State) (x y : Int) :
    (s.useSample x y).lens.zoom = s.lens.zoom ∧ (s.useSample x y).lens.focus = s.lens.focus ∧ (s.useSample x y).lens.sensor = s.lens.sensor := by
  simp [State.useSample]
@[simp] theorem State.gyroReceived_motors (s : State) (x y : Int) :
    (s.gyroReceived x y).lens.zoom = s.lens.zoom ∧ (s.gyroReceived x y).lens.focus = s.lens.focus ∧ (s.gyroReceived x y).lens.sensor = s.lens.sensor := by
  simp only [State.gyroReceived]; (repeat' split) <;> simp
@[simp] theorem State.gyroMissed_motors (s : State) :
    s.gyroMissed.lens.zoom = s.lens.zoom ∧ s.gyroMissed.lens.focus = s.lens.focus ∧ s.gyroMissed.lens.sensor = s.lens.sensor := by
  simp [State.gyroMissed]
@[simp] theorem State.gradeEnd_motors (s : State) :
    s.gradeEnd.lens.zoom = s.lens.zoom ∧ s.gradeEnd.lens.focus = s.lens.focus ∧ s.gradeEnd.lens.sensor = s.lens.sensor := by
  simp only [State.gradeEnd]; (repeat' split) <;> simp
@[simp] theorem State.stabRestart_motors (s : State) :
    s.stabRestart.lens.zoom = s.lens.zoom ∧ s.stabRestart.lens.focus = s.lens.focus ∧ s.stabRestart.lens.sensor = s.lens.sensor := by
  simp only [State.stabRestart]; (repeat' split) <;> simp
@[simp] theorem State.trackIris_motors (s : State) :
    s.trackIris.lens.zoom = s.lens.zoom ∧ s.trackIris.lens.focus = s.lens.focus ∧ s.trackIris.lens.sensor = s.lens.sensor := by
  simp only [State.trackIris]; (repeat' split) <;> simp
@[simp] theorem State.gatePass_motors (s : State) :
    s.gatePass.lens.zoom = s.lens.zoom ∧ s.gatePass.lens.focus = s.lens.focus ∧ s.gatePass.lens.sensor = s.lens.sensor := by
  simp [State.gatePass]
@[simp] theorem State.evaluateGate_motors (s : State) :
    s.evaluateGate.lens.zoom = s.lens.zoom ∧ s.evaluateGate.lens.focus = s.lens.focus ∧ s.evaluateGate.lens.sensor = s.lens.sensor := by
  simp only [State.evaluateGate]; (repeat' split) <;> simp
@[simp] theorem State.liveBoundary_motors (s : State) :
    s.liveBoundary.lens.zoom = s.lens.zoom ∧ s.liveBoundary.lens.focus = s.lens.focus ∧ s.liveBoundary.lens.sensor = s.lens.sensor := by
  simp only [State.liveBoundary]; (repeat' split) <;> simp
@[simp] theorem State.leaveIdle_motors (s : State) :
    s.leaveIdle.lens.zoom = s.lens.zoom ∧ s.leaveIdle.lens.focus = s.lens.focus ∧ s.leaveIdle.lens.sensor = s.lens.sensor := by
  simp only [State.leaveIdle]; (repeat' split) <;> simp
@[simp] theorem State.wakeBoth_motors (s : State) :
    s.wakeBoth.lens.zoom = s.lens.zoom ∧ s.wakeBoth.lens.focus = s.lens.focus ∧ s.wakeBoth.lens.sensor = s.lens.sensor := by
  simp only [State.wakeBoth]; (repeat' split) <;> simp
@[simp] theorem State.goLive_motors (s : State) (x : Cadence) :
    (s.goLive x).lens.zoom = s.lens.zoom ∧ (s.goLive x).lens.focus = s.lens.focus ∧ (s.goLive x).lens.sensor = s.lens.sensor := by
  simp only [State.goLive]; (repeat' split) <;> simp
@[simp] theorem State.setCadence_live_motors (s : State) :
    (s.setCadence .liveFast).lens.zoom = s.lens.zoom ∧ (s.setCadence .liveFast).lens.focus = s.lens.focus ∧
    (s.setCadence .liveFast).lens.sensor = s.lens.sensor := by
  simp only [State.setCadence]; split <;> simp
@[simp] theorem State.activity_motors (s : State) :
    s.activity.lens.zoom = s.lens.zoom ∧ s.activity.lens.focus = s.lens.focus ∧ s.activity.lens.sensor = s.lens.sensor := by
  simp only [State.activity]; (repeat' split) <;> simp
@[simp] theorem State.becomeReady_motors (s : State) :
    s.becomeReady.lens.zoom = s.lens.zoom ∧ s.becomeReady.lens.focus = s.lens.focus ∧ s.becomeReady.lens.sensor = s.lens.sensor := by
  simp [State.becomeReady]

end Sys2Proof.Machine
end

section
/-! Activity (R5, R6): what a request of an activity command does beside its own effect. -/

namespace Sys2Proof.Machine

/-! ### The quiet timers -/

theorem State.quietSync_eq (s : State) (was : Bool) :
    ∃ x y, s.quietSync was = s.withFc (fun c => { c with quiet1 := x, quiet2 := y }) := by
  unfold State.quietSync State.quietRestart
  split_ifs
  · exact ⟨s.fc.quiet1, s.fc.quiet2, rfl⟩
  · exact ⟨_, _, rfl⟩
  · split <;> exact ⟨_, _, rfl⟩
  · exact ⟨s.fc.quiet1, s.fc.quiet2, rfl⟩

theorem State.busy_congr {s t : State} (h : t.fc = s.fc) : t.busy = s.busy := by
  simp only [State.busy, State.prepareHeld, State.burstRunning, State.inFlight, h]

theorem State.quietSync_busy (s : State) (was : Bool) : (s.quietSync was).busy = s.busy := by
  obtain ⟨x, y, h⟩ := s.quietSync_eq was
  rw [h]
  rfl

/-- In LIVE-FAST activity moves the quiet timers alone. -/
theorem State.activity_of_live {s : State} (h : s.fc.cadence = .liveFast) :
    ∃ x, s.activity = s.withFc (fun c => { c with quiet1 := x, quiet2 := none }) := by
  have hsame : s.setCadence .liveFast = s := if_pos h
  unfold State.activity
  rw [hsame]
  dsimp only
  split
  · exact ⟨_, rfl⟩
  · exact ⟨s.fc.quiet1, rfl⟩

theorem State.setCadence_cadence (s : State) (x : Cadence) : (s.setCadence x).fc.cadence = x := by
  unfold State.setCadence
  split_ifs with h hstill
  · exact h
  · rw [hstill]
    simp [State.goStill]
  · simp only [State.goLive, State.wakeBoth]
    split_ifs <;> simp

theorem State.activity_cadence (s : State) : s.activity.fc.cadence = .liveFast := by
  unfold State.activity
  dsimp only
  split <;> exact s.setCadence_cadence .liveFast

theorem State.activity_quiet2 (s : State) : s.activity.fc.quiet2 = none := by
  unfold State.activity
  dsimp only
  split <;> rfl

theorem State.quietSpan1_congr {s t : State} (hclock : t.clock = s.clock) (hsettings : t.settings = s.settings) :
    t.quietSpan1 = s.quietSpan1 := by
  simp only [State.quietSpan1, State.settingNat, State.setting, hclock, hsettings]

theorem State.activity_quiet1 {s : State} (hstarted : s.activity.fc.started = true) (hbusy : s.activity.busy = false) :
    s.activity.fc.quiet1 = s.quietSpan1 := by
  unfold State.activity at hstarted hbusy ⊢
  dsimp only at hstarted hbusy ⊢
  split at hstarted
  · next h =>
    rw [if_pos h]
    exact State.quietSpan1_congr (by simp) (by simp)
  · next h =>
    rw [if_neg h] at hbusy
    exact absurd ⟨hstarted, by simp [hbusy]⟩ h

theorem State.quietSync_of_live {s : State} (hlive : s.fc.cadence = .liveFast) (hquiet2 : s.fc.quiet2 = none) (was : Bool) :
    (s.quietSync was).fc.quiet2 = none ∧ (s.fc.started = true →
      (s.quietSync was).fc.quiet1 = if s.busy then none else if was then s.quietSpan1 else s.fc.quiet1) := by
  unfold State.quietSync State.quietRestart
  rw [hlive]
  split_ifs with hstarted <;> simp_all

/-- The timers after an activity request (R5, R6), whatever its own effect, which takes no time and no setting. -/
theorem State.activeStep_tookActivity {f : State → State} {s : State} (hclock : (f s).clock = s.clock)
    (hsettings : (f s).settings = s.settings) : s.tookActivity (s.activeStep f) := by
  obtain ⟨hquiet2, hquiet1⟩ := State.quietSync_of_live (f s).activity_cadence (f s).activity_quiet2 s.busy
  refine ⟨by simp [State.activeStep, State.activity_cadence], hquiet2, fun hstarted => ?_⟩
  replace hstarted : (f s).activity.fc.started = true := by simpa [State.activeStep] using hstarted
  have hspan : (f s).activity.quietSpan1 = s.quietSpan1 := State.quietSpan1_congr (by simp [hclock]) (by simp [hsettings])
  rw [State.activeStep, hquiet1 hstarted, State.quietSync_busy, hspan]
  by_cases hbusy : (f s).activity.busy = true
  · rw [if_pos hbusy, if_pos hbusy]
  · rw [if_neg hbusy, if_neg hbusy, State.activity_quiet1 hstarted (by simpa using hbusy),
      State.quietSpan1_congr (t := f s) hclock hsettings, ite_self]
    rfl

theorem State.tookActivity_congr {s t u : State} (h : s.tookActivity t) (hfc : u.fc = t.fc) : s.tookActivity u := by
  simpa only [State.tookActivity, State.busy_congr hfc, hfc] using h

/-- In LIVE-FAST an activity request's effect is followed by the quiet timers alone. -/
theorem State.activeStep_of_live {f : State → State} {s : State} (h : (f s).fc.cadence = .liveFast) :
    ∃ x, s.activeStep f = (f s).withFc (fun c => { c with quiet1 := x, quiet2 := none }) := by
  obtain ⟨x, hx⟩ := State.activity_of_live h
  obtain ⟨y, z, hyz⟩ := (f s).activity.quietSync_eq s.busy
  have hz : z = none := by
    have hquiet2 := (State.quietSync_of_live (f s).activity_cadence (f s).activity_quiet2 s.busy).1
    rwa [hyz] at hquiet2
  exact ⟨y, by rw [State.activeStep, hyz, hx, hz]; rfl⟩

theorem State.withFc_onlyChanged (s : State) (f : FrameControl → FrameControl) : onlyChanged [.frames] s (s.withFc f) := by
  refine ⟨rfl, rfl, fun y hy => ?_⟩
  cases y <;> simp [Part.same, State.dramByte] at hy ⊢

/-! ### Activity alone (R6, R181) -/

/-- What activity may move: the cadence's consequences (R4, R7). -/
def activityParts : List Part := [.frames, .statistics, .planner, .lens, .stabilizer, .store, .records, .choices]

theorem State.activeStep_onlyChanged (f : State → State) (s : State) : onlyChanged activityParts (f s) (s.activeStep f) := by
  refine ⟨by simp, by simp, fun y hy => ?_⟩
  cases y <;> simp [Part.same, State.dramByte, activityParts] at hy ⊢

theorem State.activityOnly_onlyChanged (s : State) : onlyChanged activityParts s s.activityOnly := State.activeStep_onlyChanged id s

theorem State.activityOnly_of_live {s : State} (h : s.fc.cadence = .liveFast) :
    s.activityOnly.fc = { s.fc with quiet1 := s.activityOnly.fc.quiet1, quiet2 := none } ∧ onlyChanged [.frames] s s.activityOnly := by
  obtain ⟨x, hx⟩ := State.activeStep_of_live (f := id) h
  rw [State.activityOnly, hx]
  exact ⟨rfl, State.withFc_onlyChanged s _⟩

/-- A refusal of an activity command, or NUDGE: the activity, and what it leaves. -/
theorem State.activityOnly_sendTo (s : State) (p : Port) (st : Status) :
    s.tookActivity ((answer s.begin.activityOnly st).sendTo p) ∧
      (s.fc.cadence = .liveFast →
        ((answer s.begin.activityOnly st).sendTo p).fc =
          { s.fc with quiet1 := ((answer s.begin.activityOnly st).sendTo p).fc.quiet1, quiet2 := none } ∧
        onlyChanged [.transaction p, .frames] s ((answer s.begin.activityOnly st).sendTo p)) := by
  refine ⟨State.tookActivity_congr (State.activeStep_tookActivity (f := id) (s := s.begin) rfl rfl) (by simp [State.activityOnly]), fun hlive => ?_⟩
  obtain ⟨hfc, hframe⟩ := State.activityOnly_of_live (s := s.begin) hlive
  exact ⟨hfc, onlyChanged_mono (onlyChanged_trans (onlyChanged_of_begin hframe) (Answer.sendTo_onlyChanged _ p)) (by simp)⟩

/-- Settles O25. -/
theorem nudgeIsActivityAlone : Obligations.NudgeIsActivityAlone := by
  intro s p
  obtain ⟨htook, hlive⟩ := s.activityOnly_sendTo p .ok
  exact answers_of_sendTo (answer s.begin.activityOnly .ok) rfl rfl (onlyChanged_of_begin s.begin.activityOnly_onlyChanged)
    ⟨htook, by simp [State.activityOnly], by simp [State.activityOnly], by simp [State.activityOnly], hlive⟩

/-! ### Refused requests (R176) -/

theorem request_of_bad {s : State} {p : Port} {ok : Bool} {refused : State → State} {owner : State → Answer} (h : ok = false) :
    s.request p ok refused owner = .next ((answer (refused s.begin) .badLength).sendTo p) := by
  rw [h, State.request_bad]

/-- Every row of Table 9-3 refuses a payload of another length. -/
theorem exec_of_badLength {r : RequestRow} (hr : r ∈ requestRows) {payload : List Byte} (h : r.lengthOk payload.length = false)
    (s : State) (p : Port) : exec (r.build p payload) s =
      .next ((answer (if r.active then s.begin.activityOnly else s.begin) .badLength).sendTo p) := by
  revert r
  simp only [requestRows, requestRowsLow, requestRowsHigh, List.cons_append, List.nil_append, List.forall_mem_cons, List.not_mem_nil,
    false_implies, implies_true, and_true]
  and_intros
  all_goals
    intro h
    simp only [fixedRow, exec, execPrepare, execUnprepare, execShoot, execStopBurst, execSetPattern, execReadStatistics, execAeLock, execAeUnlock, execGetPlan,
    execExtend, execRetract, execZoomTo, execZoomRun, execZoomHalt, execFocusTo, execGetLensState, execAfStart, execAfCancel,
    execReadSweepLog, execCalibrateBias, execCalCancel, execStabRestart, execGetStabState, execOpenDrain, execOpenReview,
    execCloseStream, execRejoin, execReleaseSlot, execClearStore, execGetStoreState, execReadSlots, execTakeRecord,
    execQueueStatus, execSetSettings, execGetSettings, execGetState, execNudge, execSoftReset, execReadEvents, execAckEvents,
    execSetEventMask, execClearOccurrences, execReloadTable]
    exact request_of_bad h

/-- Settles O8: the effect of a refusal is that of an answer without one, or of activity alone. -/
theorem unknownCommandsAndWrongLengthsAreRefused : Obligations.UnknownCommandsAndWrongLengthsAreRefused := by
  refine ⟨fun s p number => answers_refused rfl, fun r hr s p payload hlength => ?_⟩
  have hexec := exec_of_badLength hr hlength s p
  cases hactive : r.active with
  | false =>
    rw [hactive, if_neg (by decide)] at hexec
    exact ⟨_, hexec, Answer.sendTo_replies _ p, fun _ => onlyChanged_of_begin (Answer.sendTo_onlyChanged _ p), by simp⟩
  | true =>
    rw [hactive, if_pos rfl] at hexec
    obtain ⟨htook, hlive⟩ := s.activityOnly_sendTo p .badLength
    refine ⟨_, hexec, Answer.sendTo_replies _ p, by simp, fun _ => ⟨?_, htook, ?_⟩⟩
    · exact onlyChanged_mono (onlyChanged_of_begin (onlyChanged_trans s.begin.activityOnly_onlyChanged (Answer.sendTo_onlyChanged _ p)))
        (by simp [activityParts])
    · refine ⟨by simp [State.activityOnly], by simp [State.activityOnly], by simp [State.activityOnly], by simp [State.activityOnly],
        by simp [State.activityOnly], ?_, ?_, by simp [State.activityOnly], hlive⟩
      · simp [State.activityOnly, State.activeStep]
      · simp [State.activityOnly, State.activeStep]

end Sys2Proof.Machine
end

section
/-! What a change of the Stabilizer's state leaves of its block, through the operations that derive the state again (R110, R111); and
what the beginning of a search leaves (R93, R94). -/

namespace Sys2Proof.Machine

/-! ### The Stabilizer's state (R110) -/

@[simp] theorem State.stabSet_state (s : State) (x : StabState) : (s.stabSet x).stab.state = x := by
  unfold State.stabSet
  split_ifs with h
  · exact h
  all_goals simp

/-- A change of state touches the calibration, the fault and the samples no more than the bias. -/
@[simp] theorem State.stabSet_stab (s : State) (x : StabState) :
    (s.stabSet x).stab.cal = s.stab.cal ∧ (s.stabSet x).stab.cause = s.stab.cause ∧ (s.stabSet x).stab.biasX = s.stab.biasX ∧
    (s.stabSet x).stab.biasY = s.stab.biasY ∧ (s.stabSet x).stab.last = s.stab.last ∧ (s.stabSet x).stab.gyro = s.stab.gyro ∧
    (s.stabSet x).stab.asked = s.stab.asked ∧ (s.stabSet x).stab.gain = s.stab.gain ∧ (s.stabSet x).stab.grade = s.stab.grade ∧
    (s.stabSet x).stab.missed = s.stab.missed ∧ (s.stabSet x).stab.rep1 = s.stab.rep1 ∧ (s.stabSet x).stab.rep2 = s.stab.rep2 ∧
    (s.stabSet x).stab.orient = s.stab.orient ∧ (s.stabSet x).stab.resFlag = s.stab.resFlag := by
  unfold State.stabSet; (repeat' split) <;> simp [Stabilizer.leaveActive]

@[simp] theorem State.derive_stab (s : State) :
    s.derive.stab.cal = s.stab.cal ∧ s.derive.stab.cause = s.stab.cause ∧ s.derive.stab.biasX = s.stab.biasX ∧
    s.derive.stab.biasY = s.stab.biasY ∧ s.derive.stab.last = s.stab.last ∧ s.derive.stab.gyro = s.stab.gyro ∧
    s.derive.stab.asked = s.stab.asked ∧ s.derive.stab.gain = s.stab.gain ∧ s.derive.stab.grade = s.stab.grade ∧
    s.derive.stab.missed = s.stab.missed ∧ s.derive.stab.rep1 = s.stab.rep1 ∧ s.derive.stab.rep2 = s.stab.rep2 ∧
    s.derive.stab.orient = s.stab.orient ∧ s.derive.stab.resFlag = s.stab.resFlag := by
  unfold State.derive; split <;> simp

theorem State.derivedState_spec (s : State) : s.derivedState ≠ .calibrating ∧ s.derivedState ≠ .faulted := by
  unfold State.derivedState
  split_ifs <;> simp

/-- The state derived, unless a calibration or a fault holds it (R110). -/
theorem State.derive_state (s : State) : s.derive.stab.state =
    if s.stab.state = .calibrating ∨ s.stab.state = .faulted then s.stab.state else s.derivedState := by
  unfold State.derive
  split <;> simp

/-- No derivation begins a calibration. -/
theorem State.derive_calibrating (s : State) : s.derive.stab.state = .calibrating ↔ s.stab.state = .calibrating := by
  rw [State.derive_state]
  have := s.derivedState_spec
  split_ifs with h <;> simp_all

/-- A state of the Stabilizer's block as activity leaves it: the calibration stays as it is, going on or not. -/
def State.sameCalibration (s t : State) : Prop :=
  t.stab.cal = s.stab.cal ∧ (t.stab.state = .calibrating ↔ s.stab.state = .calibrating)

theorem State.sameCalibration.of_stab {s t u : State} (h : s.sameCalibration t) (hu : u.stab = t.stab) : s.sameCalibration u := by
  rw [State.sameCalibration, hu]
  exact h

theorem State.sameCalibration.derive {s t : State} (h : s.sameCalibration t) : s.sameCalibration t.derive :=
  ⟨by simpa using h.1, t.derive_calibrating.trans h.2⟩

theorem State.sameCalibration.gatePass {s t : State} (h : s.sameCalibration t) : s.sameCalibration t.gatePass := by
  unfold State.gatePass
  exact State.sameCalibration.derive (h.of_stab (by simp))

theorem State.sameCalibration.leaveIdle {s t : State} (h : s.sameCalibration t) : s.sameCalibration t.leaveIdle := by
  unfold State.leaveIdle
  split_ifs
  · exact h.gatePass
  · exact h.of_stab (by simp)
  · exact h

theorem State.sameCalibration.wakeBoth {s t : State} (h : s.sameCalibration t) : s.sameCalibration t.wakeBoth := by
  unfold State.wakeBoth
  split_ifs
  · exact (h.of_stab (u := t.chosen.leaveSelfRefresh.storeSettle) (by simp)).leaveIdle
  · exact (h.of_stab (u := t.chosen) rfl).leaveIdle.of_stab (by simp)
  · exact (h.of_stab (u := t.leaveSelfRefresh.storeSettle) (by simp)).leaveIdle

theorem State.sameCalibration.goLive {s t : State} (h : s.sameCalibration t) (x : Cadence) : s.sameCalibration (t.goLive x) := by
  have hnew : s.sameCalibration ((t.withFc (fun c => { c with cadence := x })).renewTlive) := h.of_stab (by simp)
  have hresumed : s.sameCalibration ((t.withFc (fun c => { c with cadence := x })).renewTlive).resumeSampling := by
    unfold State.resumeSampling
    split
    · exact hnew
    · exact hnew
  unfold State.goLive
  dsimp only
  split
  · exact hresumed.derive.wakeBoth
  · exact hnew

theorem State.sameCalibration.activity {s t : State} (h : s.sameCalibration t) : s.sameCalibration t.activity := by
  have hlive : s.sameCalibration (t.setCadence .liveFast) := by
    unfold State.setCadence
    rw [if_neg (show ¬ Cadence.liveFast = .still by decide)]
    split
    · exact h
    · exact h.goLive _
  unfold State.activity
  dsimp only
  split <;> exact hlive

theorem State.sameCalibration.activeStep {s u : State} {f : State → State} (h : s.sameCalibration (f u)) :
    s.sameCalibration (u.activeStep f) :=
  h.activity.of_stab (by simp [State.activeStep])

/-! ### The beginning of a search (R94) -/

/-- The move to a sample's position: the search waits for it, or for the sample where it completes at once. -/
theorem State.afMove_sampleMove (s : State) (x : Int) :
    (s.afMove .sampleMove x).links = s.links ∧
      ((s.afMove .sampleMove x).af = { s.af with wait := .sampleMove } ∨ (s.afMove .sampleMove x).af = { s.af with wait := .sample }) := by
  unfold State.afMove
  dsimp only
  split
  · unfold State.afAdvance
    simp
  · simp

theorem State.afStart_af (s : State) (o : SearchOrigin) :
    (s.afStart o).links = s.links ∧ (s.afStart o).af.state = .coarse ∧ (s.afStart o).af.origin = o := by
  obtain ⟨hlinks, haf⟩ := State.afMove_sampleMove (s.withAf _) _
  refine ⟨hlinks, ?_⟩
  rcases haf with h | h
  · exact ⟨congrArg FocusSearch.state h, congrArg FocusSearch.origin h⟩
  · exact ⟨congrArg FocusSearch.state h, congrArg FocusSearch.origin h⟩

end Sys2Proof.Machine
end

section
/-! PREPARE, UNPREPARE, SHOOT and STOP BURST (R13 to R16). -/

namespace Sys2Proof.Machine

/-! ### PREPARE and UNPREPARE (R13) -/

theorem State.afPrepareBegins_links (s : State) : s.afPrepareBegins.links = s.links := by
  unfold State.afPrepareBegins
  split
  · exact (s.afStart_af .prepare).1
  · simp

theorem State.prepareOn_links (s : State) (p : Port) : (s.prepareOn p).links = s.links := by
  unfold State.prepareOn
  dsimp only
  split
  · rfl
  · simp [State.afPrepareBegins_links]

theorem State.prepareOn_of_held {s : State} (h : s.prepareHeld = true) (p : Port) : s.prepareOn p = s.setPrepare p true := if_pos h

theorem State.prepareOn_of_begins {s : State} (h : s.prepareHeld = false) (p : Port) :
    s.prepareOn p = ((s.setPrepare p true).planPrepareBegins.afPrepareBegins).derive := if_neg (by simp [h])

@[simp] theorem State.prepareOn_prepare (s : State) (p : Port) : (s.prepareOn p).fc.prepare = s.fc.prepare.set p true := by
  unfold State.prepareOn
  dsimp only
  split <;> simp [State.setPrepare]

/-- What prepare held's beginning and end may move (R49, R91, R112). -/
def prepareParts : List Part := [.frames, .statistics, .planner, .lens, .focus, .stabilizer]

theorem State.prepareOn_onlyChanged (s : State) (p : Port) : onlyChanged prepareParts s (s.prepareOn p) := by
  refine ⟨by simp, by simp, fun y hy => ?_⟩
  cases y <;> simp [Part.same, State.dramByte, prepareParts, State.prepareOn_links] at hy ⊢

/-- AE lock on prepare locks where no lock holds (R49). -/
theorem State.prepareOn_lock {s : State} (hheld : s.prepareHeld = false) (hsetting : s.settingOn ixAeLockOnPrepare = true)
    (hlock : s.ep.lock = .none) (p : Port) : (s.prepareOn p).ep.lock = .prepare := by
  have hon : (s.setPrepare p true).settingOn ixAeLockOnPrepare = true ∧ (s.setPrepare p true).ep.lock = .none := ⟨hsetting, hlock⟩
  rw [State.prepareOn_of_begins hheld, State.planPrepareBegins, if_pos hon]
  simp [State.setLock, hlock]

/-- From Idle with the lens Ready a search of origin Prepare starts (R91). -/
theorem State.prepareOn_search {s : State} (hheld : s.prepareHeld = false) (hready : s.lens.state = .ready) (hidle : s.af.state = .idle)
    (p : Port) : (s.prepareOn p).af.state = .coarse ∧ (s.prepareOn p).af.origin = .prepare := by
  have hon : (s.setPrepare p true).planPrepareBegins.lensReady ∧ (s.setPrepare p true).planPrepareBegins.af.state = .idle := by
    simp [State.lensReady, hready, hidle]
  rw [State.prepareOn_of_begins hheld, State.afPrepareBegins, if_pos hon]
  simpa using (State.afStart_af _ .prepare).2

theorem State.prepareOff_onlyChanged (s : State) (p : Port) : onlyChanged prepareParts s (s.prepareOff p) := by
  refine ⟨by simp, by simp, fun y hy => ?_⟩
  cases y <;> simp [Part.same, State.dramByte, prepareParts] at hy ⊢

@[simp] theorem State.prepareOff_prepare (s : State) (p : Port) : (s.prepareOff p).fc.prepare = s.fc.prepare.set p false := by
  unfold State.prepareOff
  dsimp only
  split <;> simp [State.setPrepare]

theorem State.prepareOff_of_kept {s : State} {p : Port} (h : s.prepareHeld = false ∨ (s.prepareOff p).prepareHeld = true) :
    s.prepareOff p = s.setPrepare p false := by
  have hheld : (s.prepareOff p).prepareHeld = (s.setPrepare p false).prepareHeld := by
    simp [State.prepareHeld, State.setPrepare]
  rw [hheld] at h
  exact if_neg (by rcases h with h | h <;> simp [h])

theorem State.prepareOff_of_ends {s : State} {p : Port} (h : s.prepareHeld = true) (hoff : (s.setPrepare p false).prepareHeld = false) :
    s.prepareOff p = ((s.setPrepare p false).planPrepareEnds.afPrepareEnds).derive := if_pos (by simp [h, hoff])

theorem State.afAbort_af {s : State} (h : s.af.state.searching = true) : s.afAbort.af = s.af.giveUp := by
  unfold State.afAbort
  rw [if_pos h]
  dsimp only
  split <;> simp

/-- In Single mode a search of origin Prepare is aborted (R100). -/
theorem State.afPrepareEnds_aborts {s : State} (hsearching : s.af.state.searching = true) (hsingle : s.afContinuous = false)
    (horigin : s.af.origin = .prepare) : s.afPrepareEnds.af = s.af.giveUp := by
  rw [State.afPrepareEnds, if_pos ⟨hsearching, by simp [hsingle], horigin⟩, State.afAbort_af hsearching]

theorem State.afContinuous_congr {s t : State} (h : t.settings = s.settings) : t.afContinuous = s.afContinuous := by
  rw [State.afContinuous, State.setting, h]
  rfl

/-- A step watched for the busy conditions moves Frame Control's quiet timers beside its own effect. -/
theorem State.watchBusy_onlyChanged (f : State → State) (s : State) : onlyChanged [.frames] (f s) (s.watchBusy f) := by
  obtain ⟨x, y, h⟩ := (f s).quietSync_eq s.busy
  rw [State.watchBusy, h]
  exact State.withFc_onlyChanged _ _

/-- Settles O23: the flag is written first; prepare held begins or ends with it, or no other block acts. -/
theorem prepareFlagsFollowTheirRequests : Obligations.PrepareFlagsFollowTheirRequests := by
  refine ⟨fun s p => ?prepare, fun s p => ?unprepare⟩
  case prepare =>
    have hframe : onlyChanged (activityParts ++ prepareParts) s (s.begin.activeStep (fun x => x.prepareOn p)) :=
      onlyChanged_trans (onlyChanged_of_begin (s.begin.prepareOn_onlyChanged p)) (State.activeStep_onlyChanged _ s.begin)
    have htook := State.activeStep_tookActivity (f := fun x => x.prepareOn p) (s := s.begin) (by simp) (by simp)
    refine answers_of_sendTo (answer (s.begin.activeStep (fun x => x.prepareOn p)) .ok) rfl rfl
      (onlyChanged_mono hframe (by simp [activityParts, prepareParts]))
      ⟨by simp, by simp, by simp, State.tookActivity_congr htook (by simp), by simp, fun hlive => ?_, fun hheld => ⟨fun hsetting hlock => ?_,
        fun hready hidle => ?_⟩⟩
    · obtain ⟨x, hx⟩ := State.activeStep_of_live (f := fun x => x.prepareOn p) (s := s.begin) (by simpa using hlive)
      have hsent := (answer (s.begin.activeStep (fun x => x.prepareOn p)) .ok).sendTo_onlyChanged p
      refine ⟨onlyChanged_mono (onlyChanged_trans (onlyChanged_of_begin (onlyChanged_trans (s.begin.prepareOn_onlyChanged p)
        (hx ▸ State.withFc_onlyChanged _ _))) hsent) (by simp [prepareParts]), fun hheld => ?_⟩
      rw [State.prepareOn_of_held (s := s.begin) hheld] at hx
      exact onlyChanged_mono (onlyChanged_trans (onlyChanged_of_begin (onlyChanged_trans (State.withFc_onlyChanged _ _)
        (hx ▸ State.withFc_onlyChanged _ _))) hsent) (by simp)
    · simpa using State.prepareOn_lock (s := s.begin) hheld hsetting hlock p
    · simpa using State.prepareOn_search (s := s.begin) hheld hready hidle p
  case unprepare =>
    have hframe : onlyChanged prepareParts s (s.begin.watchBusy (fun x => x.prepareOff p)) :=
      onlyChanged_mono (onlyChanged_of_begin (onlyChanged_trans (s.begin.prepareOff_onlyChanged p) (State.watchBusy_onlyChanged _ _)))
        (by simp [prepareParts])
    have hheld : ((answer (s.begin.watchBusy (fun x => x.prepareOff p)) .ok).sendTo p).prepareHeld =
        (s.begin.prepareOff p).prepareHeld := by
      simp [State.prepareHeld, State.watchBusy]
    have hflag : (s.begin.prepareOff p).prepareHeld = (s.begin.setPrepare p false).prepareHeld := by
      simp [State.prepareHeld, State.setPrepare]
    refine answers_of_sendTo (answer (s.begin.watchBusy (fun x => x.prepareOff p)) .ok) rfl rfl hframe
      ⟨by simp [State.watchBusy], by simp [State.watchBusy], by simp [State.watchBusy], by simp [State.watchBusy], fun hkept => ?_,
        fun hwas hends => ?_⟩
    · rw [hheld] at hkept
      have hoff := State.watchBusy_onlyChanged (fun x => x.prepareOff p) s.begin
      rw [State.prepareOff_of_kept hkept] at hoff
      exact onlyChanged_mono (onlyChanged_trans (onlyChanged_of_begin (onlyChanged_trans (State.withFc_onlyChanged _ _) hoff))
        (Answer.sendTo_onlyChanged _ p)) (by simp)
    · rw [hheld, hflag] at hends
      have hoff := State.prepareOff_of_ends (s := s.begin) hwas hends
      refine ⟨fun hlock => ?_, fun hsearching hsingle horigin => ?_⟩
      · simp [State.watchBusy, hoff, State.planPrepareEnds, State.setLock, hlock]
      · have hends := State.afPrepareEnds_aborts (s := (s.begin.setPrepare p false).planPrepareEnds) (by simpa using hsearching)
          ((State.afContinuous_congr (by simp)).trans hsingle) (by simpa using horigin)
        have haf : ((answer (s.begin.watchBusy (fun x => x.prepareOff p)) .ok).sendTo p).af = s.af.giveUp := by
          simp [State.watchBusy, hoff, hends]
        rw [haf]
        exact ⟨rfl, rfl⟩

/-! ### SHOOT (R14, R129) -/

theorem exec_shoot (n : Byte) (p : Port) (s : State) : exec (.shoot p [n]) s = .next (Answer.sendTo
    (if s.begin.lensReady then answer (s.begin.activeStep (fun x => x.shoot n.toNat)) (s.begin.shotsStatus n.toNat)
      else answer s.begin.activityOnly .wrongState) p) := by
  have hcount : shootCount [n] = n.toNat := firstByte_cons n []
  change execShoot p [n] s = _
  rw [execShoot, show lengthIs 1 [n] = true from rfl, State.request_ok, hcount]

theorem State.addShots_zero (s : State) : s.addShots 0 = s.withFc (fun c => { c with continuous := true }) := if_pos rfl

theorem State.addShots_of_ne {n : Nat} (h : n ≠ 0) (s : State) :
    s.addShots n = s.withFc (fun c => { c with owed := min 255 (c.owed + min n 32) }) := if_neg h

theorem State.addShots_capture (s : State) (n : Nat) :
    (s.addShots n).fc.cap = s.fc.cap ∧ (s.addShots n).fc.state = s.fc.state := by
  unfold State.addShots
  split <;> simp

theorem State.shoot_fc (s : State) (n : Nat) : (s.shoot n).fc = (s.addShots n).fc := by simp [State.shoot]

theorem State.calEnd_stab (s : State) (x : CalStatus) :
    (s.calEnd x).stab.cal.status = x ∧ (s.calEnd x).stab.state ≠ .calibrating := by
  simp [State.calEnd, (State.derivedState_spec _).1]

theorem State.calAbort_stab (s : State) : s.calAbort.stab.state ≠ .calibrating ∧
    (s.stab.state = .calibrating → s.calAbort.stab.cal.status = .aborted ∧ s.calAbort.occurred .biasCalEnded) := by
  unfold State.calAbort
  split
  · next h =>
    obtain ⟨hstatus, hstate⟩ := s.calEnd_stab .aborted
    refine ⟨hstate, fun _ => ⟨hstatus, ?_⟩⟩
    have hraised := ((s.withStab (fun b => { b with cal := { b.cal with status := .aborted, limit := none } })).raise_raised
      .biasCalEnded).1
    simpa [State.calEnd, State.occurred] using hraised
  · next h => exact ⟨h, fun hc => absurd hc h⟩

theorem State.shoot_stab (s : State) (n : Nat) : (s.shoot n).stab.state ≠ .calibrating ∧
    (s.stab.state = .calibrating → (s.shoot n).stab.cal.status = .aborted ∧ (s.shoot n).occurred .biasCalEnded) := by
  obtain ⟨hstate, haborted⟩ := (s.addShots n).calAbort_stab
  refine ⟨by simpa [State.shoot] using hstate, fun hcal => ?_⟩
  obtain ⟨hstatus, hraised⟩ := haborted (by simpa using hcal)
  exact ⟨by simpa [State.shoot] using hstatus, Invariant.holds.afShoot (v := .occurred .biasCalEnded) hraised⟩

/-- What a SHOOT taken may move. -/
theorem State.shoot_onlyChanged (s : State) (n : Nat) :
    onlyChanged [.frames, .statistics, .planner, .lens, .focus, .stabilizer, .events] s (s.shoot n) := by
  refine ⟨by simp, by simp, fun y hy => ?_⟩
  cases y <;> simp [Part.same, State.dramByte] at hy ⊢

/-! ### STOP BURST (R15, R16) -/

theorem State.setPenalty_false (s : State) : (s.setPenalty false).ep.penalty = false := by
  unfold State.setPenalty
  split
  · next h => exact h
  · simp

theorem State.clearShots_of_idle {s : State} (h : s.burstRunning = false) :
    s.clearShots = s.withFc (fun c => { c with owed := 0, continuous := false }) := by
  simp [State.clearShots, State.burstCheck, h]

theorem State.clearShots_of_running {s : State} (h : s.burstRunning = true) :
    s.clearShots = (((s.withFc (fun c => { c with owed := 0, continuous := false, burstCount := 0 })).raise .burstEnded).setPenalty
      false).trackCheck := by
  rw [State.clearShots, State.burstCheck, if_pos (by rw [h]; rfl)]
  rfl

theorem State.clearShots_onlyChanged (s : State) :
    onlyChanged [.frames, .statistics, .planner, .lens, .focus, .events] s s.clearShots := by
  refine ⟨by simp, by simp, fun y hy => ?_⟩
  cases y <;> simp [Part.same, State.dramByte] at hy ⊢

theorem State.clearShots_fc (s : State) : s.clearShots.fc = { s.fc with
    owed := 0, continuous := false, burstCount := if s.burstRunning then 0 else s.fc.burstCount } := by
  by_cases h : s.burstRunning = true
  · simp [State.clearShots_of_running h, h]
  · simp [State.clearShots_of_idle (Bool.eq_false_iff.2 h), h]

/-- A burst that ran ends (R16). -/
theorem State.clearShots_ends {s : State} (h : s.burstRunning = true) : s.clearShots.ep.penalty = false ∧
    s.clearShots.occurred .burstEnded ∧ ∀ q, s.clearShots.pends q .burstEnded := by
  obtain ⟨hoccurred, hpends⟩ :=
    (s.withFc (fun c => { c with owed := 0, continuous := false, burstCount := 0 })).raise_raised .burstEnded
  rw [State.clearShots_of_running h]
  refine ⟨by simp [State.setPenalty_false], ?_, fun q => ?_⟩
  · exact Invariant.holds.trackCheck (v := .occurred .burstEnded) (Invariant.holds.setPenalty (v := .occurred .burstEnded) hoccurred)
  · exact Invariant.holds.trackCheck (v := .pends q .burstEnded) (Invariant.holds.setPenalty (v := .pends q .burstEnded) (hpends q))

/-- Settles O24: SHOOT by the lens state, STOP BURST by whether a burst runs. -/
theorem shotsAreOwedAndCleared : Obligations.ShotsAreOwedAndCleared := by
  refine ⟨fun s p n => ⟨fun hnot => ?refused, fun hready => ?taken⟩, fun s p => ?stop⟩
  case refused =>
    have hexec := exec_shoot n p s
    rw [if_neg (by simpa [State.lensReady] using hnot)] at hexec
    obtain ⟨htook, hlive⟩ := s.activityOnly_sendTo p .wrongState
    exact answers_of_sendTo (answer s.begin.activityOnly .wrongState) hexec rfl (onlyChanged_of_begin s.begin.activityOnly_onlyChanged)
      ⟨by simp [State.activityOnly], by simp [State.activityOnly], htook, fun h => (hlive h).2⟩
  case taken =>
    have hexec := exec_shoot n p s
    rw [if_pos (by simpa [State.lensReady] using hready)] at hexec
    have hframe : onlyChanged _ s (s.begin.activeStep (fun x => x.shoot n.toNat)) :=
      onlyChanged_trans (onlyChanged_of_begin (s.begin.shoot_onlyChanged n.toNat)) (State.activeStep_onlyChanged _ s.begin)
    have htook := State.activeStep_tookActivity (f := fun x => x.shoot n.toNat) (s := s.begin) (by simp) (by simp)
    obtain ⟨hstate, hcal⟩ := s.begin.shoot_stab n.toNat
    have hsame : (s.begin.shoot n.toNat).sameCalibration (s.begin.activeStep (fun x => x.shoot n.toNat)) :=
      State.sameCalibration.activeStep (f := fun x => x.shoot n.toNat) ⟨rfl, Iff.rfl⟩
    refine answers_of_sendTo (answer (s.begin.activeStep (fun x => x.shoot n.toNat)) _) hexec rfl
      (onlyChanged_mono hframe (by simp [activityParts]))
      ⟨fun hzero => ?_, fun hsome => ?_, State.tookActivity_congr htook (by simp), by simp [State.shoot_fc], ?_, fun hc => ?_,
        fun hlive => ?_⟩
    · simp [State.shoot_fc, hzero, State.addShots_zero]
    · simp [State.shoot_fc, State.addShots_of_ne hsome]
    · simpa using fun h => hstate (hsame.2.1 h)
    · obtain ⟨hstatus, hraised⟩ := hcal (by simpa using hc)
      refine ⟨by simpa [hsame.1] using hstatus, ?_⟩
      simpa [State.occurred] using hraised
    · obtain ⟨x, hx⟩ := State.activeStep_of_live (f := fun x => x.shoot n.toNat) (s := s.begin) (by simpa using hlive)
      simp [hx, State.shoot_fc, State.addShots_capture]
  case stop =>
    have hframe : onlyChanged [.frames, .statistics, .planner, .lens, .focus, .events] s (s.begin.watchBusy State.clearShots) :=
      onlyChanged_mono (onlyChanged_of_begin (onlyChanged_trans s.begin.clearShots_onlyChanged (State.watchBusy_onlyChanged _ _)))
        (by simp)
    obtain ⟨x, y, hsync⟩ := s.begin.clearShots.quietSync_eq s.begin.busy
    have hsync : s.begin.watchBusy State.clearShots = _ := hsync
    refine answers_of_sendTo (answer (s.begin.watchBusy State.clearShots) .ok) rfl rfl hframe ⟨?_, fun hrun => ?_, fun hidle => ?_⟩
    · simp [hsync, State.clearShots_fc, State.burstRunning]
    · obtain ⟨hpenalty, hraised, hpends⟩ := State.clearShots_ends (s := s.begin) hrun
      simp [hsync, hpenalty, State.occurred, State.pends] at hraised hpends ⊢
      exact ⟨hraised, hpends⟩
    · have hclear := State.watchBusy_onlyChanged State.clearShots s.begin
      rw [State.clearShots_of_idle (s := s.begin) hidle] at hclear
      exact onlyChanged_mono (onlyChanged_trans (onlyChanged_of_begin (onlyChanged_trans (State.withFc_onlyChanged _ _) hclear))
        (Answer.sendTo_onlyChanged _ p)) (by simp)

end Sys2Proof.Machine
end

section
/-! The timed events of Frame Control: the quiet timers and the live frames (R4 to R12). -/

namespace Sys2Proof.Machine

/-- A timed event that is due completes: the clock moves to its moment, then it takes effect. -/
theorem completes_timed {s : State} {due : Option Nat} {d : Nat} {f : State → State} {P : State → Prop} (hdue : due = some d)
    (h : P (f (s.begin.reach d))) : completes (s.timed due f) P := ⟨_, by rw [hdue, State.timed_some], h⟩

/-- A change that follows a timed event's moment changes the clock beside its own parts. -/
theorem onlyChanged_of_reach {l : List Part} {s t : State} {d : Nat} (h : onlyChanged l (s.begin.reach d) t) :
    onlyChanged (.clock :: l) s t :=
  onlyChanged_mono (onlyChanged_trans (onlyChanged_of_begin (s.begin.reach_onlyChanged d)) h) (by simp)

/-! ### The quiet timers (R5, R7) -/

theorem State.setTlive_fc (s : State) (x : Int) : (s.setTlive x).fc = { s.fc with tlive := x } := by
  unfold State.setTlive
  split
  · next h => rw [← h]
  · simp

theorem State.renewTlive_fc (s : State) : s.renewTlive.fc = { s.fc with tlive := tliveOf s.period } := s.setTlive_fc _

theorem State.renewTlive_onlyChanged (s : State) : onlyChanged [.frames, .planner, .statistics, .lens] s s.renewTlive := by
  refine ⟨by simp, by simp, fun y hy => ?_⟩
  cases y <;> simp [Part.same, State.dramByte] at hy ⊢

/-- Between the live levels a change of cadence renews Tlive alone (R4). -/
theorem State.setCadence_liveSlow {s : State} (h : s.fc.cadence = .liveFast) :
    s.setCadence .liveSlow = (s.withFc (fun c => { c with cadence := .liveSlow })).renewTlive := by
  rw [State.setCadence, if_neg (by simp [h]), if_neg (by decide), State.goLive, if_neg (by simp [h])]

theorem State.setCadence_still {s : State} (h : s.fc.cadence = .liveSlow) : s.setCadence .still = s.goStill := by
  rw [State.setCadence, if_neg (by simp [h]), if_pos rfl]

theorem State.stopLoop_fc_of_live {s : State} (h : s.fc.state = .live) :
    s.stopLoop.fc = { s.fc with next := .none, state := if s.fc.frame.isNone then .idle else .live } := by
  rw [State.stopLoop, if_pos h]
  rfl

theorem State.stopLoop_quiet (s : State) : s.stopLoop.fc.quiet2 = s.fc.quiet2 ∧ s.stopLoop.fc.tlive = s.fc.tlive := by
  unfold State.stopLoop
  split <;> simp

theorem State.afIdle_state (s : State) : s.afIdle.af.state = .idle := by
  unfold State.afIdle
  split
  · next h => simp [State.afAbort_af h, FocusSearch.giveUp]
  · next h =>
    unfold State.afLeave
    split
    · next hidle => exact hidle.resolve_left (by simpa using h)
    · rfl

theorem State.goStill_fc (s : State) : s.goStill.fc = (s.withFc (fun c => { c with cadence := .still })).stopLoop.fc := by
  simp [State.goStill]

theorem State.derivedState_of_still {s : State} (h : s.fc.cadence = .still) : s.derivedState ≠ .active := by
  unfold State.derivedState
  split_ifs <;> simp

theorem State.goStill_stab (s : State) : s.goStill.stab.gyro = none ∧ s.goStill.stab.state ≠ .active ∧
    s.goStill.stab.state ≠ .calibrating := by
  have hcal := ((s.withFc (fun c => { c with cadence := .still })).stopLoop.afIdle.calAbort_stab).1
  have hgyro (t : State) : t.stopSampling.stab.gyro = none := rfl
  have hstill := State.derivedState_of_still (s := (s.withFc (fun c => { c with cadence := .still })).stopLoop.afIdle.calAbort.stopSampling)
    (by simp)
  simp only [State.goStill, State.storeSettle_frame, State.derive_stab, hgyro, State.derive_state, State.stopSampling_fields, true_and]
  split
  · next h => exact ⟨by rcases h with h | h <;> simp [h], hcal⟩
  · exact ⟨hstill, (State.derivedState_spec _).1⟩

theorem State.goStill_af (s : State) : s.goStill.af.state = .idle := by
  simp [State.goStill, State.afIdle_state]

theorem State.goStill_onlyChanged (s : State) :
    onlyChanged [.frames, .statistics, .planner, .lens, .focus, .stabilizer, .store, .events] s s.goStill := by
  refine ⟨by simp, by simp, fun y hy => ?_⟩
  cases y <;> simp [Part.same, State.dramByte] at hy ⊢

/-- Settles O26: each expiry is one change of cadence. -/
theorem quietTimersStepTheCadenceDown : Obligations.QuietTimersStepTheCadenceDown := by
  refine fun s d => ⟨fun hquiet hlive => ?_, fun hquiet hlive => ?_⟩
  · change completes (execQuietTimer1Expiry s) _
    refine completes_timed hquiet ?_
    rw [State.setCadence_liveSlow (by simpa using hlive)]
    refine ⟨by simp, by simp [State.renewTlive_fc], by simp, ?_, by simp, ?_⟩
    · simp [State.quietSpan2, State.settingNat, State.setting]
    · exact onlyChanged_mono (onlyChanged_of_reach (onlyChanged_trans (onlyChanged_trans (State.withFc_onlyChanged _ _)
        (onlyChanged_trans (State.withFc_onlyChanged _ _) (State.renewTlive_onlyChanged _))) (State.withFc_onlyChanged _ _))) (by simp)
  · change completes (execQuietTimer2Expiry s) _
    refine completes_timed hquiet ?_
    rw [State.setCadence_still (by simpa using hlive)]
    obtain ⟨hgyro, hactive, hcal⟩ := State.goStill_stab ((s.begin.reach d).withFc (fun c => { c with quiet2 := none }))
    refine ⟨by simp [State.goStill_fc], by simp [State.goStill_fc, State.stopLoop_quiet], by simp,
      by simp [State.goStill_fc, State.stopLoop_quiet], fun hstate => ?_, by simp, State.goStill_af _, hgyro, hactive, hcal, ?_⟩
    · rw [State.goStill_fc, State.stopLoop_fc_of_live (by simpa using hstate)]
      exact ⟨rfl, fun hframe => if_pos (by simp [hframe])⟩
    · exact onlyChanged_mono (onlyChanged_of_reach (onlyChanged_trans (State.withFc_onlyChanged _ _) (State.goStill_onlyChanged _)))
        (by simp)

/-! ### Live frames (R9, R10, R12) -/

theorem State.dueLiveTransfer_of_planned {s : State} {base lead : Nat} (h : s.fc.next = .planned base lead) :
    s.dueLiveTransfer = some (base + us s.period - lead) := by
  rw [State.dueLiveTransfer, h]
  rfl

theorem State.liveTransfer_of_planned {s : State} {base lead : Nat} (h : s.fc.next = .planned base lead) :
    s.liveTransfer = s.beginLive (base + us s.period) := by
  rw [State.liveTransfer, h]
  rfl

theorem State.beginLive_onlyChanged (s : State) (start : Nat) : onlyChanged [.frames] s (s.beginLive start) := by
  refine ⟨by simp, by simp, fun y hy => ?_⟩
  cases y <;> simp [Part.same, State.dramByte] at hy ⊢

/-- Settles O27: the transfer due is the one that `beginLive` begins. -/
theorem liveTransferLatchesTheLivePlan : Obligations.LiveTransferLatchesTheLivePlan := by
  intro s base lead hnext
  change completes (execLiveSettingsTransfer s) _
  refine completes_timed (State.dueLiveTransfer_of_planned hnext) ?_
  rw [State.liveTransfer_of_planned (s := s.begin.reach _) hnext]
  exact ⟨by simp, onlyChanged_of_reach (State.beginLive_onlyChanged _ _), _, rfl, rfl, rfl, rfl, rfl, rfl, rfl⟩

theorem State.dueLiveStart_of_sent {s : State} {start : Nat} {x : Transfer} {acked : Bool} (h : s.fc.next = .sent start x acked)
    (hlive : s.fc.state = .live) (hframe : s.fc.frame = none) (hreopen : s.fc.reopenAt = none) :
    s.dueLiveStart = some (max start (s.fc.settle.getD 0)) := by
  rw [State.dueLiveStart, h]
  exact if_pos ⟨hlive, by simp [hframe], by simp [hreopen]⟩

theorem State.liveStartNow_of_sent {s : State} {start : Nat} {x : Transfer} {acked : Bool} (h : s.fc.next = .sent start x acked) :
    s.liveStartNow = s.liveStart x acked := by
  rw [State.liveStartNow, h]

theorem State.planNext_onlyChanged (s : State) : onlyChanged [.frames] s s.planNext := by
  unfold State.planNext
  split
  · exact s.beginLive_onlyChanged _
  · exact s.withFc_onlyChanged _

/-- The plan of the next live frame leaves the frame that starts as it is. -/
theorem State.planNext_fc (s : State) : s.planNext.fc.fseq = s.fc.fseq ∧ s.planNext.fc.state = s.fc.state ∧
    s.planNext.fc.frame = s.fc.frame ∧ s.planNext.fc.notice = s.fc.notice ∧ (∀ o ∈ s.outs, o ∈ s.planNext.outs) := by
  unfold State.planNext
  split
  · refine ⟨rfl, rfl, rfl, rfl, fun o ho => ?_⟩
    simp [State.beginLive, State.beginTransfer, State.put, State.withFc, ho]
  · exact ⟨rfl, rfl, rfl, rfl, fun o ho => ho⟩

theorem State.planNext_next {s : State} (h : us (s.settingNat ixSettingsLead) < us s.period) :
    s.planNext.fc.next = .planned s.clock (us (s.settingNat ixSettingsLead)) := by
  rw [State.planNext, if_neg (by simpa [State.periodSpan, State.leadSpan] using h)]
  rfl

theorem State.startFrame_onlyChanged (s : State) (v : InEffect) (late : Bool) :
    onlyChanged [.frames, .statistics] s (s.startFrame v late) := by
  refine ⟨by simp, by simp, fun y hy => ?_⟩
  cases y <;> simp [Part.same, State.dramByte] at hy ⊢

/-- The live frame's exposure start before the next frame is planned: late settings raise SETTINGS_LATE. -/
def State.liveStarted (s : State) (v : InEffect) (late : Bool) : State :=
  if late then (s.startFrame { v with kind := .live } late).raise .settingsLate else s.startFrame { v with kind := .live } late

theorem State.liveStart_eq (s : State) (x : Transfer) (acked : Bool) :
    s.liveStart x acked = (s.liveStarted (if acked then x.values else s.fc.inEffect) (!acked)).planNext := by
  cases acked <;> rfl

theorem State.liveStarted_same (s : State) (v : InEffect) (late : Bool) :
    (s.liveStarted v late).fc = (s.startFrame { v with kind := .live } late).fc ∧
    (s.liveStarted v late).st = (s.startFrame { v with kind := .live } late).st ∧
    (s.liveStarted v late).outs = (s.startFrame { v with kind := .live } late).outs ∧
    (s.liveStarted v late).clock = s.clock ∧ (s.liveStarted v late).settings = s.settings := by
  unfold State.liveStarted
  split <;> simp

theorem State.liveStarted_onlyChanged (s : State) (v : InEffect) (late : Bool) :
    onlyChanged [.frames, .statistics, .events] s (s.liveStarted v late) := by
  unfold State.liveStarted
  split
  · exact onlyChanged_mono (onlyChanged_trans (State.startFrame_onlyChanged s _ _) (State.raise_onlyChanged _ _)) (by simp)
  · exact onlyChanged_mono (State.startFrame_onlyChanged s _ _) (by simp)

/-- The live frame that has started: its number, its notice, the frame on the input and the frame in progress (R2, R12, R35). -/
theorem State.liveStarted_opens (s : State) (v : InEffect) (late : Bool) :
    (s.liveStarted v late).fc.fseq = s.fc.fseq + 1 ∧ (s.liveStarted v late).fc.state = s.fc.state ∧
    (s.liveStarted v late).fc.frame = some { kind := .live, phase := .exposing, limit := s.clock + us (microsOf v.t) } ∧
    (s.liveStarted v late).fc.notice = some {
      seq := s.fc.fseq + 1, stamp := s.timeBase, kind := .live, t := v.t, g := v.g, gmax := v.gmax, late := late } ∧
    (s.liveStarted v late).st.active = Bank.cleared ∧
    (s.liveStarted v late).st.fip = some {
      seq := s.fc.fseq + 1, stamp := s.timeBase, kind := .live, t := v.t, g := v.g, a := s.appliedA, q := v.t + v.g - s.appliedA,
      samples := 0, geo := s.geometry, spanOpen := true, prev := none,
      flags := {
        incomplete := false, settingsLate := late, irisMoved := s.lens.iris.inFlight, focusMoved := s.lens.focus.inFlight,
        zoomMoved := s.lens.zoom.inFlight, recentered := false, capture := false } } ∧
    Output.trigger .live ∈ (s.liveStarted v late).outs := by
  obtain ⟨hfc, hst, houts, -, -⟩ := s.liveStarted_same v late
  rw [hfc, hst, houts]
  exact ⟨rfl, rfl, rfl, rfl, rfl, rfl, by simp [State.startFrame, State.put]⟩

theorem State.liveStarted_of_late (s : State) (v : InEffect) :
    (s.liveStarted v true).occurred .settingsLate ∧ ∀ q, (s.liveStarted v true).pends q .settingsLate :=
  State.raise_raised _ _

theorem State.liveStarted_of_acked (s : State) (v : InEffect) : onlyChanged [.frames, .statistics] s (s.liveStarted v false) :=
  State.startFrame_onlyChanged s _ _

/-- Settles O28: the start of `liveStart`'s frame, late or not, then the plan of the next. -/
theorem liveExposureStartsWithAcknowledgedSettings : Obligations.LiveExposureStartsWithAcknowledgedSettings := by
  intro s start x acked hnext hlive hframe hreopen
  change completes (execLiveExposureStart s) _
  refine completes_timed (State.dueLiveStart_of_sent hnext hlive hframe hreopen) ?_
  rw [State.liveStartNow_of_sent (s := s.begin.reach _) hnext, State.liveStart_eq]
  generalize hd : max start (s.fc.settle.getD 0) = d
  rw [show (s.begin.reach d).fc.inEffect = s.fc.inEffect from rfl]
  have hparts := onlyChanged_of_reach (s := s) (d := d) (onlyChanged_trans (State.liveStarted_onlyChanged _
    (if acked then x.values else s.fc.inEffect) (!acked)) (State.planNext_onlyChanged _))
  obtain ⟨hfseq, hstate, hinput, hnotice, hactive, hfip, hput⟩ :=
    (s.begin.reach d).liveStarted_opens (if acked then x.values else s.fc.inEffect) (!acked)
  obtain ⟨-, -, -, hclock, hsettings⟩ := (s.begin.reach d).liveStarted_same (if acked then x.values else s.fc.inEffect) (!acked)
  obtain ⟨hfseq', hstate', hinput', hnotice', hputs⟩ :=
    ((s.begin.reach d).liveStarted (if acked then x.values else s.fc.inEffect) (!acked)).planNext_fc
  have hstamp (t : State) (h : t.clock = (s.begin.reach d).clock) : t.timeBase = (s.begin.reach d).timeBase := by
    rw [State.timeBase, h]
    rfl
  have hplanned : ((s.begin.reach d).liveStarted (if acked then x.values else s.fc.inEffect) (!acked)).planNext.clock =
    (s.begin.reach d).clock := (by simpa using hclock)
  have hst (u : State) : u.planNext.st = u.st := by simp
  have hfip' := (congrArg Statistics.fip (hst _)).trans hfip
  refine ⟨hplanned, hfseq'.trans hfseq, hstate'.trans (hstate.trans hlive), ⟨_, rfl, ?_, ?_, _, hfip', rfl, ?_, rfl, rfl, rfl, rfl, rfl,
    rfl, rfl, rfl, rfl⟩, (congrArg Statistics.active (hst _)).trans hactive, hputs _ hput, fun hlate => ?_, fun hlead => ?_,
    onlyChanged_mono hparts (by simp), fun hacked => ?_⟩
  · exact hinput'.trans (hinput.trans (by rw [hplanned]))
  · exact hnotice'.trans (hnotice.trans (by rw [hstamp _ hplanned]; rfl))
  · exact (hstamp _ hplanned).symm
  · subst hlate
    simpa [State.occurred, State.pends] using (s.begin.reach d).liveStarted_of_late s.fc.inEffect
  · have hcadence : ((s.begin.reach d).liveStarted (if acked then x.values else s.fc.inEffect) (!acked)).fc.cadence = s.fc.cadence := by
      rw [((s.begin.reach d).liveStarted_same (if acked then x.values else s.fc.inEffect) (!acked)).1]
      simp
    rw [State.planNext_next (by simpa [State.settingNat, State.setting, State.period, hsettings, hcadence] using hlead), hplanned, hclock]
    simp [State.settingNat, State.setting, hsettings]
  · subst hacked
    exact (onlyChanged_of_reach (onlyChanged_trans ((s.begin.reach d).liveStarted_of_acked x.values)
      (State.planNext_onlyChanged _))).2.2 .events (by simp)

end Sys2Proof.Machine
end

section
/-! The capture sequence: acknowledgement, release, trigger and close command (R10, R21, R22, R62). -/

namespace Sys2Proof.Machine

/-! ### A capture's exposure start (R12, R22, R118, R161) -/

/-- The capture's exposure has started, EXPOSURE_LIMIT not yet raised. -/
def State.captureOpened (s : State) (c : Capture) : State :=
  let q := c.plan.t + s.appliedG c - s.appliedA
  let t := s.withFc (fun x => { x with state := .exposing, cap := some { c with triggerAt := none } })
  let t := (t.startFrame { t := c.plan.t, g := s.appliedG c, kind := .capture, gmax := s.appliedGmax c } c.late).residualStart
  t.recordStart (t.startPartNow c.plan.t s.appliedA (s.appliedG c) (c.plan.program ≠ .manual && c.plan.qraw < q)
    (c.plan.program ≠ .manual && q < c.plan.qraw) c.late)

/-- EXPOSURE_LIMIT raised or not, the capture has opened. -/
theorem State.captureStart_cases (s : State) (c : Capture) :
    s.captureStart c = s.captureOpened c ∨ s.captureStart c = (s.captureOpened c).raise .exposureLimit := by
  unfold State.captureStart
  dsimp only
  split
  · exact .inr rfl
  · exact .inl rfl

/-- What the beginning of a capture's exposure reads of a state: the counters it goes on from. -/
structure State.sameStart (s u : State) : Prop where
  fseq : u.fc.fseq = s.fc.fseq
  stab : u.stab.state = s.stab.state
  opened : u.rq.opened = s.rq.opened

/-- What follows a capture's exposure start within the step leaves it as it began. -/
structure State.sameOpening (t u : State) : Prop where
  clock : u.clock = t.clock
  st : u.st = t.st
  stab : u.stab = t.stab
  rq : u.rq = t.rq
  state : u.fc.state = t.fc.state
  fseq : u.fc.fseq = t.fc.fseq
  frame : u.fc.frame = t.fc.frame
  notice : u.fc.notice = t.fc.notice
  outs : t.outs ⊆ u.outs

theorem State.captureStarted.mono {s t u : State} {x g : Int} {late : Bool} (h : s.captureStarted t x g late) (hu : t.sameOpening u) :
    s.captureStarted u x g late := by
  obtain ⟨hstate, hfseq, hframe, hnotice, hout, hrest⟩ := h
  unfold State.captureStarted State.timeBase
  rw [hu.clock, hu.st, hu.stab, hu.rq, hu.state, hu.fseq, hu.frame, hu.notice]
  exact ⟨hstate, hfseq, hframe, hnotice, hu.outs hout, hrest⟩

theorem State.raise_sameOpening (t : State) (k : Kind) : t.sameOpening (t.raise k) := by
  constructor <;> simp

theorem State.issueClose_sameOpening (t : State) : t.sameOpening t.issueClose := by
  constructor <;> simp [State.issueClose, State.put, State.withFc, State.onCap]

theorem State.captureOpened_started {s u : State} (h : s.sameStart u) (c : Capture) :
    s.captureStarted (u.captureOpened c) c.plan.t (u.appliedG c) c.late := by
  obtain ⟨hfseq, hstab, hopened⟩ := h
  unfold State.captureStarted
  rw [← hfseq, ← hstab, ← hopened]
  refine ⟨rfl, rfl, rfl, ⟨_, rfl, rfl, rfl, rfl, rfl, rfl, rfl⟩, ?_, rfl, rfl, rfl, fun r hr => ?_, _, rfl, rfl, rfl, rfl, rfl, rfl, rfl, rfl,
    rfl, rfl⟩
  · exact List.mem_append_right _ (List.mem_singleton_self _)
  · exact ⟨_, congrArg (Option.map _) hr, rfl, rfl, rfl, _, rfl, rfl, rfl, rfl, rfl, rfl, rfl⟩

theorem State.captureStart_started {s u : State} (h : s.sameStart u) (c : Capture) :
    s.captureStarted (u.captureStart c) c.plan.t (u.appliedG c) c.late := by
  obtain heq | heq := u.captureStart_cases c <;> rw [heq]
  · exact State.captureOpened_started h c
  · exact (State.captureOpened_started h c).mono (State.raise_sameOpening _ _)

/-- EXPOSURE_LIMIT leaves Frame Control as the capture's opening left it. -/
theorem State.captureStart_frames (s : State) (c : Capture) :
    (s.captureStart c).fc = (s.captureOpened c).fc ∧ (s.captureStart c).clock = s.clock := by
  obtain heq | heq := s.captureStart_cases c <;> rw [heq]
  · exact ⟨rfl, rfl⟩
  · exact ⟨by simp, by simp; rfl⟩

/-- The capture in flight and the notice as a capture's exposure start leaves them. -/
theorem State.captureStart_fc (s : State) (c : Capture) : (s.captureStart c).fc.cap = some { c with triggerAt := none } ∧
    ∀ n, (s.captureStart c).fc.notice = some n → n.gmax = s.appliedGmax c := by
  rw [(s.captureStart_frames c).1]
  exact ⟨rfl, fun n hn => by cases hn; rfl⟩

/-! ### The release (R22, R62) -/

/-- A capture as its release confirms it. -/
def State.confirmed (s : State) (c : Capture) : Capture :=
  { c with plan := { c.plan with t := s.confirmedT c }, releaseAt := none, secondAt := none, released := s.clock }

theorem State.release_of_burstHigh {s : State} {c : Capture} (h : c.mode = .burstHigh) :
    s.release c = s.captureStart (s.confirmed c) := if_pos h

/-- Below the close travel the close command is the release. -/
theorem State.release_of_below {s : State} {c : Capture} (hmode : c.mode ≠ .burstHigh)
    (h : us (microsOf (s.confirmedT c)) < c.travel) :
    s.release c = (s.withFc (fun x => { x with cap := some { s.confirmed c with
      triggerAt := some (s.clock + (c.travel - us (microsOf (s.confirmedT c)))) } })).issueClose := by
  rw [State.release]
  dsimp only
  exact (if_neg hmode).trans (if_pos h)

/-- At or above it the trigger is the release, the close command following when the exposure time left is the travel. -/
theorem State.release_of_above {s : State} {c : Capture} (hmode : c.mode ≠ .burstHigh)
    (h : c.travel ≤ us (microsOf (s.confirmedT c))) :
    s.release c = if us (microsOf (s.confirmedT c)) = c.travel then
        (s.captureStart { s.confirmed c with closeAt := some (s.clock + (us (microsOf (s.confirmedT c)) - c.travel)) }).issueClose
      else s.captureStart { s.confirmed c with closeAt := some (s.clock + (us (microsOf (s.confirmedT c)) - c.travel)) } := by
  rw [State.release]
  dsimp only
  exact (if_neg hmode).trans (if_neg (not_lt.2 h))

/-- A release at or above the close travel, in a state that goes on from s: what O30 and O31 ask of it. -/
theorem State.release_above {s u : State} (hu : s.sameStart u) {c : Capture} (hmode : c.mode ≠ .burstHigh)
    (h : c.travel ≤ us (microsOf (u.confirmedT c))) :
    s.captureStarted (u.release c) (u.confirmedT c) (u.appliedG c) c.late ∧
    (us (microsOf (u.confirmedT c)) = c.travel → (u.release c).fc.shutter = .closing ∧ Output.closeShutter ∈ (u.release c).outs) ∧
    (c.travel < us (microsOf (u.confirmedT c)) → ∃ y, (u.release c).fc.cap = some y ∧
      y.closeAt = some (u.clock + (us (microsOf (u.confirmedT c)) - c.travel))) := by
  have hstarted := State.captureStart_started hu
    { u.confirmed c with closeAt := some (u.clock + (us (microsOf (u.confirmedT c)) - c.travel)) }
  rw [State.release_of_above hmode h]
  split
  · next heq =>
    refine ⟨hstarted.mono (State.issueClose_sameOpening _), fun _ => ⟨rfl, ?_⟩, fun hlt => absurd heq hlt.ne'⟩
    simp [State.issueClose, State.put]
  · next hne => exact ⟨hstarted, fun heq => absurd heq hne, fun _ => ⟨_, (State.captureStart_fc _ _).1, rfl⟩⟩

/-- A release by the trigger, in BurstHigh or at or above the close travel, with its notice's Gmax. -/
theorem State.release_starts {s u : State} (hu : s.sameStart u) {c : Capture}
    (h : c.mode = .burstHigh ∨ c.travel ≤ us (microsOf (u.confirmedT c))) :
    s.captureStarted (u.release c) (u.confirmedT c) (u.appliedG c) c.late ∧
      ∀ n, (u.release c).fc.notice = some n → n.gmax = u.appliedGmax c := by
  by_cases hmode : c.mode = .burstHigh
  · rw [State.release_of_burstHigh hmode]
    exact ⟨State.captureStart_started hu _, (State.captureStart_fc u (u.confirmed c)).2⟩
  · have habove := h.resolve_left hmode
    have hnotice := (State.captureStart_fc u
      { u.confirmed c with closeAt := some (u.clock + (us (microsOf (u.confirmedT c)) - c.travel)) }).2
    refine ⟨(State.release_above hu hmode habove).1, fun n hn => ?_⟩
    rw [State.release_of_above hmode habove] at hn
    split at hn
    · rw [(State.issueClose_sameOpening _).notice] at hn
      exact hnotice n hn
    · exact hnotice n hn

theorem State.issueClose_onlyChanged (s : State) : onlyChanged [.frames] s s.issueClose := by
  refine ⟨by simp, by simp, fun y hy => ?_⟩
  cases y <;> simp [Part.same, State.dramByte] at hy ⊢

/-- A release below the close travel: the shutter closes, and the trigger follows. -/
theorem State.release_below {s : State} {c : Capture} (hmode : c.mode ≠ .burstHigh) (h : us (microsOf (s.confirmedT c)) < c.travel) :
    onlyChanged [.frames] s (s.release c) ∧ (s.release c).fc.state = s.fc.state ∧ (s.release c).fc.fseq = s.fc.fseq ∧
    (s.release c).outs = s.outs ++ [.closeShutter] ∧ (s.release c).fc.shutter = .closing ∧
    (s.release c).fc.cap = some { s.confirmed c with
      triggerAt := some (s.clock + (c.travel - us (microsOf (s.confirmedT c)))), closed := some s.clock, closeAt := none } := by
  rw [State.release_of_below hmode h]
  exact ⟨onlyChanged_mono (onlyChanged_trans (s.withFc_onlyChanged _) (State.issueClose_onlyChanged _)) (by simp), rfl, rfl, rfl, rfl, rfl⟩

/-! ### Acknowledgements (R10, R21) -/

/-- An acknowledged transfer's values are in effect, and a next frame with that transfer is acknowledged by it (R10). -/
def State.inForce (s : State) (x : Transfer) : State :=
  s.withFc (fun c => { c with
    xfers := c.xfers.filter (fun y => y.id ≠ x.id), inEffect := x.values,
    next := match c.next with
      | .sent start y acked => .sent start y (acked || decide (y.id = x.id))
      | .planned base lead => .planned base lead
      | .none => .none })

/-- A capture that an acknowledgement names is acknowledged by it. -/
def State.ackCapture (s : State) (c : Capture) : State := s.withFc (fun y => { y with cap := some { c with acked := true } })

theorem State.acknowledge_of_idle {s : State} {x : Transfer} (h : s.fc.cap = none) : s.acknowledge x = s.inForce x := by
  unfold State.acknowledge
  dsimp only
  split
  · rfl
  · next c hc => exact absurd (h.symm.trans hc) (by simp)

theorem State.acknowledge_of_cap {s : State} {x : Transfer} {c : Capture} (h : s.fc.cap = some c) :
    s.acknowledge x = if c.transfer.id = x.id ∨ c.second = some x.id then
        if c.secondAt.isSome then ((s.inForce x).ackCapture c).release { c with acked := true } else (s.inForce x).ackCapture c
      else s.inForce x := by
  unfold State.acknowledge
  dsimp only
  split
  · next hnone => exact absurd (h.symm.trans hnone) (by simp)
  · next c' hc =>
    cases Option.some.inj (h.symm.trans hc)
    rfl

theorem State.inForce_next (s : State) {x y : Transfer} {start : Nat} {acked : Bool} (h : s.fc.next = .sent start y acked) :
    (s.inForce x).fc.next = .sent start y (acked || decide (y.id = x.id)) := by
  simp only [State.inForce, State.withFc, h]

/-- Of the settings in effect, the transfers, the clock and the next frame, a step keeps all four. -/
structure State.sameSettings (s t : State) : Prop where
  inEffect : t.fc.inEffect = s.fc.inEffect
  xfers : t.fc.xfers = s.fc.xfers
  clock : t.clock = s.clock
  next : t.fc.next = s.fc.next

theorem State.captureStart_settings (s : State) (c : Capture) : s.sameSettings (s.captureStart c) := by
  obtain ⟨hfc, hclock⟩ := s.captureStart_frames c
  exact ⟨by rw [hfc]; rfl, by rw [hfc]; rfl, hclock, by rw [hfc]; rfl⟩

theorem State.issueClose_settings {s t : State} (h : s.sameSettings t) : s.sameSettings t.issueClose :=
  ⟨h.inEffect, h.xfers, h.clock, h.next⟩

theorem State.release_settings (s : State) (c : Capture) : s.sameSettings (s.release c) := by
  by_cases hmode : c.mode = .burstHigh
  · rw [State.release_of_burstHigh hmode]
    exact s.captureStart_settings _
  · rcases lt_or_ge (us (microsOf (s.confirmedT c))) c.travel with h | h
    · rw [State.release_of_below hmode h]
      exact State.issueClose_settings ⟨rfl, rfl, rfl, rfl⟩
    · rw [State.release_of_above hmode h]
      split
      · exact State.issueClose_settings (s.captureStart_settings _)
      · exact s.captureStart_settings _

/-- The settings in effect, the transfers outstanding and the next frame, which a release leaves as the acknowledgement made them. -/
theorem State.acknowledge_settings (s : State) (x : Transfer) :
    (s.acknowledge x).fc.inEffect = x.values ∧ (s.acknowledge x).fc.xfers = s.fc.xfers.filter (fun y => y.id ≠ x.id) ∧
    (s.acknowledge x).clock = s.clock ∧ (s.acknowledge x).fc.next = (s.inForce x).fc.next := by
  cases hcap : s.fc.cap with
  | none =>
    rw [State.acknowledge_of_idle hcap]
    exact ⟨rfl, rfl, rfl, rfl⟩
  | some c =>
    rw [State.acknowledge_of_cap hcap]
    split_ifs
    · have hsame := State.release_settings ((s.inForce x).ackCapture c) { c with acked := true }
      exact ⟨hsame.inEffect, hsame.xfers, hsame.clock, hsame.next⟩
    · exact ⟨rfl, rfl, rfl, rfl⟩
    · exact ⟨rfl, rfl, rfl, rfl⟩

/-- Settles O30: by whether a capture waits, with which transfer, and how its release is ordered. -/
theorem acknowledgementSetsTheSettingsInEffect : Obligations.AcknowledgementSetsTheSettingsInEffect := by
  intro s which x hwhich
  have hexec : exec (.settingsAcknowledgement which) s = .next (s.begin.acknowledge x) := by
    change execSettingsAcknowledgement which s = _
    rw [execSettingsAcknowledgement, hwhich]
  have hforce : onlyChanged [.frames] s (s.begin.inForce x) := onlyChanged_of_begin (s.begin.withFc_onlyChanged _)
  have hack (c : Capture) : onlyChanged [.frames] s ((s.begin.inForce x).ackCapture c) :=
    onlyChanged_mono (onlyChanged_trans hforce (State.withFc_onlyChanged _ _)) (by simp)
  obtain ⟨heffect, hxfers, hclock, hnext⟩ := s.begin.acknowledge_settings x
  refine ⟨_, hexec, heffect, hxfers, hclock, fun start y acked h => hnext.trans (s.begin.inForce_next h), fun c hc hnone => ?_,
    fun hc => ?_, fun c hc hsome hfirst hsecond => ?_, fun c hc hsome hnamed hmode => ?_, fun c hc hsome hnamed hmode => ?_⟩
  · rw [State.acknowledge_of_cap (s := s.begin) hc, if_neg (show ¬ c.secondAt.isSome = true by simp [hnone])]
    split
    · next hnamed => exact ⟨by simp [hnamed, State.ackCapture], hack c⟩
    · next hnot => exact ⟨by simp [hnot, State.inForce, hc], hforce⟩
  · rw [State.acknowledge_of_idle (s := s.begin) hc]
    exact hforce
  · rw [State.acknowledge_of_cap (s := s.begin) hc, if_neg (by simp [hfirst, hsecond])]
    exact hforce
  · rw [State.acknowledge_of_cap (s := s.begin) hc, if_pos hnamed, if_pos hsome, State.release_of_burstHigh (c := { c with acked := true }) hmode]
    exact State.captureStart_started ⟨rfl, rfl, rfl⟩ _
  · rw [State.acknowledge_of_cap (s := s.begin) hc, if_pos hnamed, if_pos hsome] at hclock ⊢
    refine ⟨fun habove => ?_, fun hbelow => ?_⟩
    · obtain ⟨hstarted, hclose, hlater⟩ := State.release_above (s := s) (u := (s.begin.inForce x).ackCapture c) ⟨rfl, rfl, rfl⟩
        (c := { c with acked := true }) hmode habove
      refine ⟨hstarted, hclose, fun hlt => ?_⟩
      rw [hclock]
      exact hlater hlt
    · obtain ⟨honly, hstate, hfseq, houts, hshutter, hcap⟩ := State.release_below (s := (s.begin.inForce x).ackCapture c)
        (c := { c with acked := true }) hmode hbelow
      rw [hclock]
      exact ⟨hstate, hfseq, houts, hshutter, onlyChanged_mono (onlyChanged_trans (hack c) honly) (by simp), _, hcap, rfl, rfl, rfl, rfl⟩

/-! ### Release, second transfer, trigger and close command (R21, R22, R62) -/

theorem State.withCap_of_some {s : State} {c : Capture} (h : s.fc.cap = some c) (f : State → Capture → State) : s.withCap f = f s c := by
  rw [State.withCap, h]

theorem State.beginTransfer_onlyChanged (s : State) (v : InEffect) : onlyChanged [.frames] s (s.beginTransfer v) := by
  refine ⟨by simp, by simp, fun y hy => ?_⟩
  cases y <;> simp [Part.same, State.dramByte] at hy ⊢

theorem State.releaseDue_of_waiting {s : State} {c : Capture} (h : c.acked = false) :
    s.releaseDue c = (s.beginTransfer c.transfer.values).withFc (fun x => { x with cap := some { c with
      releaseAt := none, second := some s.fc.xferId, secondAt := some (s.clock + c.lead) } }) := if_neg (by simp [h])

theorem State.releaseDue_of_acked {s : State} {c : Capture} (h : c.acked = true) : s.releaseDue c = s.release c := if_pos h

/-- SETTINGS_LATE stays raised through the release that follows it. -/
theorem State.secondTimeout_raises (s : State) (c : Capture) :
    (s.secondTimeout c).occurred .settingsLate ∧ ∀ q, (s.secondTimeout c).pends q .settingsLate := by
  obtain ⟨hoccurred, hpends⟩ := s.raise_raised .settingsLate
  exact ⟨Invariant.holds.release (v := .occurred .settingsLate) hoccurred,
    fun q => Invariant.holds.release (v := .pends q .settingsLate) (hpends q)⟩

/-- Settles O31: by the acknowledgement, then by the order of trigger and close command. -/
theorem releaseOrdersTriggerAndClose : Obligations.ReleaseOrdersTriggerAndClose := by
  refine ⟨fun s c d hc hdue => ?release, fun s c d hc hdue => ?timeout⟩
  case release =>
    have hsome : s.dueRelease = some d := by rw [State.dueRelease, hc]; exact hdue
    have hexec (P : State → Prop) (h : P ((s.begin.reach d).releaseDue c)) : completes (exec .captureRelease s) P := by
      change completes (execCaptureRelease s) P
      exact completes_timed hsome (by rwa [State.withCap_of_some (s := s.begin.reach d) hc])
    refine ⟨fun hwaiting => hexec _ ?_, fun hacked => ⟨fun hmode => hexec _ ?_, fun hmode habove => hexec _ ?_,
      fun hmode hbelow => hexec _ ?_⟩⟩
    · rw [State.releaseDue_of_waiting hwaiting]
      exact ⟨rfl, onlyChanged_mono (onlyChanged_of_reach (onlyChanged_trans (State.beginTransfer_onlyChanged _ _)
        (State.withFc_onlyChanged _ _))) (by simp), rfl, rfl, rfl⟩
    · rw [State.releaseDue_of_acked hacked, State.release_of_burstHigh hmode]
      exact ⟨(State.captureStart_frames _ _).2, State.captureStart_started ⟨rfl, rfl, rfl⟩ _, by simp⟩
    · rw [State.releaseDue_of_acked hacked]
      have hclock := ((s.begin.reach d).release_settings c).clock
      obtain ⟨hstarted, hclose, hlater⟩ := State.release_above (s := s) (u := s.begin.reach d) ⟨rfl, rfl, rfl⟩ hmode habove
      rw [hclock]
      exact ⟨rfl, hstarted, hclose, hlater⟩
    · rw [State.releaseDue_of_acked hacked]
      have hclock := ((s.begin.reach d).release_settings c).clock
      obtain ⟨honly, hstate, hfseq, houts, hshutter, hcap⟩ := State.release_below (s := s.begin.reach d) hmode hbelow
      rw [hclock]
      exact ⟨rfl, hstate, hfseq, houts, hshutter, onlyChanged_of_reach honly, _, hcap, rfl, rfl⟩
  case timeout =>
    have hsome : s.dueSecond = some d := by rw [State.dueSecond, hc]; exact hdue
    change completes (execSecondTransferTimeout s) _
    refine completes_timed hsome ?_
    rw [State.withCap_of_some (s := s.begin.reach d) hc]
    obtain ⟨hoccurred, hpends⟩ := (s.begin.reach d).secondTimeout_raises c
    have hclock := (((s.begin.reach d).raise .settingsLate).release_settings { c with late := true }).clock
    have hsame : s.sameStart ((s.begin.reach d).raise .settingsLate) := ⟨by simp, by simp, by simp⟩
    refine ⟨hclock, hoccurred, hpends, fun hnow => ?_, fun hmode hbelow => ?_⟩
    · obtain ⟨hstarted, hnotice⟩ := State.release_starts hsame (c := { c with late := true }) hnow
      exact ⟨hstarted, hnotice⟩
    · obtain ⟨honly, hstate, hfseq, houts, hshutter, hcap⟩ := State.release_below (s := (s.begin.reach d).raise .settingsLate)
        (c := { c with late := true }) hmode hbelow
      refine ⟨hstate, houts, onlyChanged_mono (onlyChanged_of_reach (onlyChanged_trans (State.raise_onlyChanged _ _) honly)) (by simp),
        _, hcap, rfl, ?_⟩
      change some (_ + _) = some (((s.begin.reach d).secondTimeout c).clock + _)
      rw [show ((s.begin.reach d).secondTimeout c).clock = _ from hclock]
      rfl

theorem State.triggerDue_of_kept {s : State} {c : Capture} (h : s.creditLost c = false ∨ c.plan.t ≤ s.lens.iv.tlimit) :
    s.triggerDue c = s.captureStart c :=
  if_neg (by rcases h with h | h <;> simp [h])

theorem State.triggerDue_of_lost {s : State} {c : Capture} (h : s.creditLost c = true) (ht : s.lens.iv.tlimit < c.plan.t) :
    s.triggerDue c = s.withFc (fun x => { x with cap := some { c with
      plan := { c.plan with t := s.lens.iv.tlimit },
      triggerAt := some (c.released + (c.travel - us (microsOf s.lens.iv.tlimit))) } }) := if_pos ⟨h, ht⟩

/-- Settles O32: the trigger by whether credit lost since shortens T, and the close command. -/
theorem triggerAndCloseCommandTakePlace : Obligations.TriggerAndCloseCommandTakePlace := by
  refine fun s c d hc => ⟨fun hdue => ?trigger, fun hdue => ?close⟩
  case trigger =>
    have hsome : s.dueTrigger = some d := by rw [State.dueTrigger, hc]; exact hdue
    have hexec (P : State → Prop) (h : P ((s.begin.reach d).triggerDue c)) : completes (exec .captureTrigger s) P := by
      change completes (execCaptureTrigger s) P
      exact completes_timed hsome (by rwa [State.withCap_of_some (s := s.begin.reach d) hc])
    refine ⟨fun hkept => hexec _ ?_, fun hlost hlimit => hexec _ ?_⟩
    · rw [State.triggerDue_of_kept (s := s.begin.reach d) hkept]
      exact ⟨(State.captureStart_frames _ _).2, State.captureStart_started ⟨rfl, rfl, rfl⟩ c⟩
    · rw [State.triggerDue_of_lost (s := s.begin.reach d) hlost hlimit]
      exact ⟨rfl, onlyChanged_of_reach (State.withFc_onlyChanged _ _), _, rfl, rfl, rfl⟩
  case close =>
    have hsome : s.dueClose = some d := by rw [State.dueClose, hc]; exact hdue
    change completes (execCloseCommand s) _
    refine completes_timed hsome ?_
    refine ⟨rfl, onlyChanged_of_reach (State.issueClose_onlyChanged _), rfl, ?_⟩
    simp [State.issueClose, State.onCap, hc]

end Sys2Proof.Machine
end

section
/-! The Stabilizer's requests and its timers: calibration, restart, and the recenter tick (R123, R125 to R131). -/

namespace Sys2Proof.Machine

/-! ### Calibrations and states (R110, R111, R126 to R129) -/

theorem State.derivedState_congr {s t : State} (hsettings : t.settings = s.settings) (hlens : t.lens.state = s.lens.state)
    (hfc : t.fc = s.fc) : t.derivedState = s.derivedState := by
  have hmode : t.stabMode = s.stabMode := by
    rw [State.stabMode, State.setting, hsettings]
    rfl
  have hready : t.lensReady = s.lensReady := by simp [State.lensReady, hlens]
  have hspan : t.shotOnlySpan = s.shotOnlySpan := by simp [State.shotOnlySpan, State.prepareHeld, State.hold, hfc]
  rw [State.derivedState, State.derivedState, hmode, hready, hfc, hspan]

/-- A calibration ends: status and timeout alone change in its record. -/
theorem State.calEnd_cal (s : State) (x : CalStatus) : (s.calEnd x).stab.cal = { s.stab.cal with status := x, limit := none } ∧
    (s.calEnd x).stab.state = s.derivedState ∧ (s.calEnd x).stab.biasX = s.stab.biasX ∧ (s.calEnd x).stab.biasY = s.stab.biasY := by
  unfold State.calEnd
  exact ⟨by simp, by simp [State.derivedState_congr (s := s)], by simp, by simp⟩

theorem State.calEnd_raises (s : State) (x : CalStatus) :
    (s.calEnd x).occurred .biasCalEnded ∧ ∀ q, (s.calEnd x).pends q .biasCalEnded := by
  obtain ⟨hoccurred, hpends⟩ := State.raise_raised (s.withStab (fun b => { b with cal := { b.cal with status := x, limit := none } })) .biasCalEnded
  exact ⟨Invariant.holds.stabSet (v := .occurred .biasCalEnded) hoccurred,
    fun q => Invariant.holds.stabSet (v := .pends q .biasCalEnded) (hpends q)⟩

theorem State.calAbort_of_calibrating {s : State} (h : s.stab.state = .calibrating) : s.calAbort = s.calEnd .aborted := if_pos h

theorem State.calAbort_of_other {s : State} (h : s.stab.state ≠ .calibrating) : s.calAbort = s := if_neg h

/-- Active left for another state: both axes centred, no recentering (R111). -/
theorem State.stabSet_leaves {s : State} {x : StabState} (h : s.stab.state = .active) (hx : x ≠ .active) :
    (s.stabSet x).stab.x = s.stab.x.centred ∧ (s.stabSet x).stab.y = s.stab.y.centred ∧ (s.stabSet x).stab.backlog = 0 ∧
      (s.stabSet x).stab.tick = none := by
  rw [State.stabSet, if_neg (by rw [h]; exact hx.symm)]
  simp [h, hx, Stabilizer.leaveActive]

/-- What a change of the Stabilizer's state may move. -/
def stabParts : List Part := [.statistics, .planner, .lens, .stabilizer]

theorem State.stabSet_onlyChanged (s : State) (x : StabState) : onlyChanged stabParts s (s.stabSet x) := by
  refine ⟨by simp, by simp, fun y hy => ?_⟩
  cases y <;> simp [Part.same, State.dramByte, stabParts] at hy ⊢

theorem State.withStab_onlyChanged (s : State) (f : Stabilizer → Stabilizer) : onlyChanged [.stabilizer] s (s.withStab f) := by
  refine ⟨rfl, rfl, fun y hy => ?_⟩
  cases y <;> simp [Part.same, State.dramByte] at hy ⊢

theorem State.calEnd_onlyChanged (s : State) (x : CalStatus) : onlyChanged (.events :: stabParts) s (s.calEnd x) :=
  onlyChanged_mono (onlyChanged_trans (onlyChanged_trans (s.withStab_onlyChanged _) (State.raise_onlyChanged _ _))
    (State.stabSet_onlyChanged _ _)) (by simp [stabParts])

/-- Settles O45: CALIBRATE BIAS by whether it is taken, CAL CANCEL by the state, STAB RESTART by the cause. -/
theorem stabilizerRequestsActOnCalibrationAndFault : Obligations.StabilizerRequestsActOnCalibrationAndFault := by
  refine fun s p => ⟨fun hready hflight hcadence hfault hcal => ?start, fun hnot => ?refused, fun hcal => ?cancel, fun hcal => ?none,
    fun hcause => ?restart, fun hcause => ?sound⟩
  case start =>
    have hmay : s.begin.mayCalibrate = true := by
      simp [State.mayCalibrate, State.lensReady, State.inFlight, hready, hcadence, hfault, hcal] at hflight ⊢
      simpa using hflight
    have hexec : exec (.calibrateBias p []) s = .next ((answer s.begin.calStart .later).sendTo p) := by
      change execCalibrateBias p [] s = _
      rw [execCalibrateBias, show lengthIs 0 [] = true from rfl, State.request_ok, if_pos hmay]
    refine answers_of_sendTo (answer s.begin.calStart .later) hexec rfl (onlyChanged_mono (onlyChanged_of_begin
      (onlyChanged_trans (State.stabSet_onlyChanged s.begin .calibrating) (State.withStab_onlyChanged _ _))) (by simp [stabParts]))
      ⟨by simp [State.calStart], by simp [State.calStart], by simp [State.calStart], ?_, fun hactive => ?_⟩
    · simp [State.calStart, State.timeBase, State.settingNat, State.setting]
    · obtain ⟨hx, hy, hbacklog, htick⟩ := State.stabSet_leaves (s := s.begin) hactive (show StabState.calibrating ≠ .active by decide)
      simp [State.calStart, hx, hy, hbacklog, htick, ShiftAxis.centred]
  case refused =>
    have hmay : s.begin.mayCalibrate = false := by
      rcases hnot with h | h | h | h | h <;> simp [State.mayCalibrate, State.lensReady, State.inFlight, h] at h ⊢
      tauto
    have hexec : exec (.calibrateBias p []) s = .next ((answer s.begin .wrongState).sendTo p) := by
      change execCalibrateBias p [] s = _
      rw [execCalibrateBias, show lengthIs 0 [] = true from rfl, State.request_ok, if_neg (by simp [hmay])]
    exact answers_refused hexec
  case cancel =>
    have habort : s.begin.calAbort = s.begin.calEnd .aborted := State.calAbort_of_calibrating hcal
    obtain ⟨hrecord, hstate, hx, hy⟩ := s.begin.calEnd_cal .aborted
    obtain ⟨hoccurred, hpends⟩ := s.begin.calEnd_raises .aborted
    have hexec : exec (.calCancel p []) s = .next ((answer (s.begin.calEnd .aborted) .ok).sendTo p) := habort ▸ rfl
    refine answers_of_sendTo (answer (s.begin.calEnd .aborted) .ok) hexec rfl (onlyChanged_mono (onlyChanged_of_begin
      (s.begin.calEnd_onlyChanged _)) (by simp [stabParts])) ⟨by simpa using hstate.trans (b := s.begin.derivedState) (c := s.derivedState) rfl, by simpa using hrecord, by simpa using hx,
      by simpa using hy, by simpa [State.occurred] using hoccurred, fun q => by simpa [State.pends] using hpends q⟩
  case none =>
    have habort : s.begin.calAbort = s.begin := State.calAbort_of_other hcal
    exact answers_refused (show exec (.calCancel p []) s = .next ((answer s.begin .ok).sendTo p) from habort ▸ rfl)
  case restart =>
    have hcleared : s.begin.stabRestart = ((s.begin.withStab (fun b => { b with cause := .none, missed := 0, rep1 := 0, rep2 := 0 })).stabSet
      (s.begin.withStab (fun b => { b with cause := .none, missed := 0, rep1 := 0, rep2 := 0 })).derivedState) := if_neg hcause
    refine answers_of_sendTo (answer s.begin.stabRestart .ok) rfl rfl ?_ ?_
    · rw [hcleared]
      exact onlyChanged_mono (onlyChanged_of_begin (onlyChanged_trans (State.withStab_onlyChanged _ _) (State.stabSet_onlyChanged _ _)))
        (by simp [stabParts])
    · rw [hcleared]
      exact ⟨by simp, by simp [State.derivedState_congr (s := s)], by simp, by simp, by simp⟩
  case sound =>
    have hrest : s.begin.stabRestart = s.begin := if_pos hcause
    exact answers_refused (show exec (.stabRestart p []) s = .next ((answer s.begin .ok).sendTo p) from hrest ▸ rfl)

/-! ### The tick and the calibration timeout (R123, R125, R128) -/

/-- A quotient rounded to the nearest lies within half a divisor. -/
theorem two_mul_abs_round_le {y : Int} {n : Nat} (hn : 0 < n) : 2 * |(2 * y + n) / (2 * n) * n - y| ≤ n := by
  have hpos : (0 : Int) < 2 * n := by omega
  have hle := Int.ediv_mul_le (2 * y + n) hpos.ne'
  have hlt := Int.lt_ediv_add_one_mul_self (2 * y + n) hpos
  have hmul : (2 * y + n) / (2 * n) * (2 * n) = 2 * ((2 * y + n) / (2 * n) * n) := by ring
  rw [add_mul, hmul] at hlt
  rw [hmul] at hle
  rcases abs_cases ((2 * y + n) / (2 * n) * n - y) with ⟨h, _⟩ | ⟨h, _⟩ <;> rw [h] <;> linarith

theorem two_mul_abs_roundDiv_le (x : Int) {n : Nat} (hn : 0 < n) : 2 * |roundDiv x n * n - x| ≤ n := by
  unfold roundDiv
  split
  · exact two_mul_abs_round_le hn
  · rw [← abs_neg, show -(-((2 * -x + n) / (2 * n)) * (n : Int) - x) = (2 * -x + n) / (2 * n) * n - -x by ring]
    exact two_mul_abs_round_le hn

theorem State.calDone_stab (s : State) : s.calDone.stab.cal = { s.stab.cal with status := .done, limit := none, result := some s.stab.cal.mean } ∧
    s.calDone.stab.state = s.derivedState ∧ s.calDone.stab.biasX = s.stab.cal.mean.1 ∧ s.calDone.stab.biasY = s.stab.cal.mean.2 := by
  obtain ⟨hcal, hstate, hx, hy⟩ := (s.withStab (fun b => { b with
    biasX := b.cal.mean.1, biasY := b.cal.mean.2, cal := { b.cal with result := some b.cal.mean } })).calEnd_cal .done
  exact ⟨hcal, hstate, hx, hy⟩

/-- A calibration that ends with Done: the mean of its run is the bias (R128). -/
theorem State.calDone_calibrated (s : State) : s.calibrated s.calDone s.stab.cal.count s.stab.cal.sumX s.stab.cal.sumY := by
  obtain ⟨hcal, hstate, hx, hy⟩ := s.calDone_stab
  refine ⟨hstate, by rw [hcal], by rw [hcal], (State.calEnd_raises _ _).1, by rw [hcal, hx, hy], fun hn => ?_⟩
  rw [hx, hy]
  exact ⟨two_mul_abs_roundDiv_le _ (by omega), two_mul_abs_roundDiv_le _ (by omega)⟩

theorem State.calDone_onlyChanged (s : State) : onlyChanged (.events :: stabParts) s s.calDone :=
  onlyChanged_mono (onlyChanged_trans (s.withStab_onlyChanged _) (State.calEnd_onlyChanged _ _)) (by simp [stabParts])

/-- The tick's timer restarted. -/
def State.ticked (s : State) : State := s.withStab (fun b => { b with tick := s.nextTick })

theorem State.recenterTick_of_within {s : State} (hx : |s.stab.x.target| ≤ s.setting ixShiftLimit / 2)
    (hy : |s.stab.y.target| ≤ s.setting ixShiftLimit / 2) : s.recenterTick = s.ticked :=
  if_neg (not_or.2 ⟨not_lt.2 hx, not_lt.2 hy⟩)

/-- Beyond half the limit the backlog grows, and at 3 the hold is set. -/
theorem State.recenterTick_of_beyond {s : State}
    (h : s.setting ixShiftLimit / 2 < |s.stab.x.target| ∨ s.setting ixShiftLimit / 2 < |s.stab.y.target|) :
    s.recenterTick = if s.stab.backlog = 2 then (s.ticked.withStab (fun b => { b with backlog := 3, urgent := true })).raise .recenterUrgent
      else s.ticked.withStab (fun b => { b with backlog := satAdd 3 b.backlog 1 }) := if_pos h

theorem State.ticked_onlyChanged (s : State) : onlyChanged [.stabilizer] s s.ticked := s.withStab_onlyChanged _

/-- Settles O48: the tick by target and backlog, the timeout by the calibration's status. -/
theorem tickAndCalibrationTimeoutTakePlace : Obligations.TickAndCalibrationTimeoutTakePlace := by
  refine fun s d => ⟨fun hdue => ?tick, fun hdue => ?timeout⟩
  case tick =>
    change completes (execRecenterTick s) _
    refine completes_timed hdue ?_
    by_cases hbeyond : s.setting ixShiftLimit / 2 < |s.stab.x.target| ∨ s.setting ixShiftLimit / 2 < |s.stab.y.target|
    · have hnot : ¬ (|s.stab.x.target| ≤ s.setting ixShiftLimit / 2 ∧ |s.stab.y.target| ≤ s.setting ixShiftLimit / 2) := by
        rintro ⟨hx, hy⟩
        rcases hbeyond with h | h <;> omega
      rw [State.recenterTick_of_beyond (s := s.begin.reach d) hbeyond]
      split
      · next htwo =>
        have htwo : s.stab.backlog = 2 := htwo
        have hchanged := onlyChanged_of_reach (onlyChanged_trans (State.ticked_onlyChanged (s.begin.reach d)) (onlyChanged_trans
          (State.withStab_onlyChanged _ (fun b => { b with backlog := 3, urgent := true })) (State.raise_onlyChanged _ .recenterUrgent)))
        exact ⟨by simp [State.ticked], onlyChanged_mono hchanged (by simp), by simp [State.ticked, State.nextTick, State.settingNat, State.setting],
          by simp [State.ticked], by simp [State.ticked], fun hx hy => absurd ⟨hx, hy⟩ hnot,
          fun _ => ⟨by simp [htwo], fun _ => ⟨by simp, (State.raise_raised _ _).1⟩, fun h => absurd htwo h⟩⟩
      · next htwo =>
        have htwo : s.stab.backlog ≠ 2 := htwo
        have hchanged := onlyChanged_of_reach (onlyChanged_trans (State.ticked_onlyChanged (s.begin.reach d))
          (State.withStab_onlyChanged _ (fun b => { b with backlog := satAdd 3 b.backlog 1 })))
        exact ⟨rfl, onlyChanged_mono hchanged (by simp), rfl, rfl, rfl, fun hx hy => absurd ⟨hx, hy⟩ hnot,
          fun _ => ⟨rfl, fun h => absurd h htwo, fun _ => hchanged.2.2 .events (by simp)⟩⟩
    · obtain ⟨hx, hy⟩ := not_or.1 hbeyond
      rw [State.recenterTick_of_within (s := s.begin.reach d) (not_lt.1 hx) (not_lt.1 hy)]
      have hchanged := onlyChanged_of_reach (State.ticked_onlyChanged (s.begin.reach d))
      exact ⟨rfl, onlyChanged_mono hchanged (by simp), rfl, rfl, rfl, fun _ _ => ⟨rfl, rfl, hchanged.2.2 .events (by simp)⟩,
        fun h => absurd h hbeyond⟩
  case timeout =>
    change completes (execCalibrationTimeout s) _
    refine completes_timed hdue ?_
    unfold State.calTimeout
    split
    · next hmin =>
      have hmin : s.stab.cal.status = .minMet := hmin
      obtain ⟨hstate, hstatus, hlimit, hoccurred, hresult, hmean⟩ := (s.begin.reach d).calDone_calibrated
      refine ⟨by simp, hlimit, hoccurred, hstate, onlyChanged_mono (onlyChanged_of_reach (State.calDone_onlyChanged _))
        (by simp [stabParts]), fun _ => ⟨hstatus, hresult, fun hn => ?_⟩,
        fun h => absurd hmin h⟩
      exact hmean (by exact_mod_cast hn)
    · next hother =>
      have hother : s.stab.cal.status ≠ .minMet := hother
      obtain ⟨hcal, hstate, hx, hy⟩ := (s.begin.reach d).calEnd_cal .failed
      refine ⟨by simp, by rw [hcal], ((s.begin.reach d).calEnd_raises _).1, hstate, onlyChanged_mono
        (onlyChanged_of_reach (State.calEnd_onlyChanged _ _)) (by simp [stabParts]),
        fun h => absurd h hother, fun _ => ⟨by rw [hcal], hx, hy, by rw [hcal]; rfl⟩⟩

end Sys2Proof.Machine
end

section
/-! Gyro samples: the watch for faults (R130), a missed sample (R113, R124) and a received one (R113 to R128). -/

namespace Sys2Proof.Machine

/-! ### Requests (R113) -/

theorem State.askOnce_stab (s : State) : s.askOnce.stab = { s.stab with asked := true } := by
  unfold State.askOnce
  split
  · next h => exact (congrArg (fun x => { s.stab with asked := x }) h)
  · rfl

theorem State.askOnce_outs (s : State) : s.askOnce.outs = s.outs ++ (if s.stab.asked then [] else [.gyroRequest]) := by
  unfold State.askOnce
  split
  · simp
  · simp [State.askGyro, State.put]

theorem State.askOnce_onlyChanged (s : State) : onlyChanged [.stabilizer] s s.askOnce := by
  refine ⟨by simp, by simp, fun y hy => ?_⟩
  cases y <;> simp [Part.same, State.dramByte] at hy ⊢

theorem State.nextGyro_onlyChanged (s : State) : onlyChanged [.stabilizer] s s.nextGyro := s.withStab_onlyChanged _

/-! ### Faults (R129, R130) -/

/-- A fault's cause noted, its counts cleared, a calibration aborted, the state not yet Faulted. -/
def State.faultNoted (s : State) (cause : GyroCause) : State :=
  let t := (s.withStab (fun b => { b with cause := cause, missed := 0, rep1 := 0, rep2 := 0 })).raise .gyroFault
  if t.stab.state = .calibrating then
    (t.withStab (fun b => { b with cal := { b.cal with status := .aborted, limit := none } })).raise .biasCalEnded
  else t

theorem State.gyroFault_eq (s : State) (cause : GyroCause) :
    s.gyroFault cause = State.creditWatch s.creditCondition ((s.faultNoted cause).stabSet .faulted) := rfl

theorem State.faultNoted_raises (s : State) (cause : GyroCause) :
    (s.faultNoted cause).occurred .gyroFault ∧ ∀ q, (s.faultNoted cause).pends q .gyroFault := by
  obtain ⟨hoccurred, hpends⟩ :=
    (s.withStab (fun b => { b with cause := cause, missed := 0, rep1 := 0, rep2 := 0 })).raise_raised .gyroFault
  unfold State.faultNoted
  dsimp only
  split
  · exact ⟨Invariant.holds.raise (v := .occurred .gyroFault) hoccurred, fun q => Invariant.holds.raise (v := .pends q .gyroFault) (hpends q)⟩
  · exact ⟨hoccurred, hpends⟩

theorem State.faultNoted_aborts {s : State} (h : s.stab.state = .calibrating) (cause : GyroCause) :
    (s.faultNoted cause).stab.cal.status = .aborted ∧ (s.faultNoted cause).occurred .biasCalEnded := by
  rw [State.faultNoted, if_pos (by simpa using h)]
  exact ⟨by simp, (State.raise_raised _ _).1⟩

theorem State.faultNoted_stab (s : State) (cause : GyroCause) : (s.faultNoted cause).stab.cause = cause ∧
    (s.faultNoted cause).stab.missed = 0 ∧ (s.faultNoted cause).stab.rep1 = 0 ∧ (s.faultNoted cause).stab.rep2 = 0 ∧
    (s.faultNoted cause).stab.last = s.stab.last ∧ (s.faultNoted cause).stab.gyro = s.stab.gyro ∧
    (s.faultNoted cause).stab.asked = s.stab.asked := by
  unfold State.faultNoted
  dsimp only
  split <;> simp

/-- A fault leaves the samples and the requests. -/
theorem State.gyroFault_stab (s : State) (cause : GyroCause) : (s.gyroFault cause).stab.last = s.stab.last ∧
    (s.gyroFault cause).stab.gyro = s.stab.gyro ∧ (s.gyroFault cause).stab.asked = s.stab.asked := by
  simp [State.gyroFault_eq, State.faultNoted_stab]

theorem State.gyroFault_faulted (s : State) (cause : GyroCause) : s.gyroFaulted (s.gyroFault cause) cause := by
  rw [State.gyroFault_eq]
  obtain ⟨hoccurred, hpends⟩ := s.faultNoted_raises cause
  have hkeeps (v : Invariant) (h : v.holds (s.faultNoted cause)) :
      v.holds (State.creditWatch s.creditCondition ((s.faultNoted cause).stabSet .faulted)) := h.stabSet.creditWatch
  refine ⟨by simp [State.faultNoted_stab], by simp, by simp [State.faultNoted_stab], by simp [State.faultNoted_stab],
    by simp [State.faultNoted_stab], hkeeps (.occurred .gyroFault) hoccurred, fun q => hkeeps (.pends q .gyroFault) (hpends q), fun hcal => ?_⟩
  obtain ⟨hstatus, hended⟩ := State.faultNoted_aborts hcal cause
  exact ⟨by simpa using hstatus, hkeeps (.occurred .biasCalEnded) hended⟩

/-! ### A missed sample (R113, R124, R130) -/

theorem State.watchMissed_of_fault {s : State} (h : s.stab.cause ≠ .none) : s.watchMissed = s := if_pos h

/-- One missed sample more, and no fault yet. -/
theorem State.watchMissed_of_few {s : State} (hcause : s.stab.cause = .none) (h : s.stab.missed + 1 < 4) :
    s.watchMissed = s.withStab (fun b => { b with missed := b.missed + 1 }) :=
  (if_neg (not_not.2 hcause)).trans (if_neg (not_le.2 h))

theorem State.watchMissed_of_fourth {s : State} (hcause : s.stab.cause = .none) (h : 4 ≤ s.stab.missed + 1) :
    s.watchMissed = (s.withStab (fun b => { b with missed := b.missed + 1 })).gyroFault .missing :=
  (if_neg (not_not.2 hcause)).trans (if_pos h)

theorem State.recenterStep_of_idle {s : State} (h : s.stab.state ≠ .active ∨ s.stab.backlog = 0 ∨ s.window = true) :
    s.recenterStep = s := if_neg (by rcases h with h | h | h <;> simp [h])

theorem State.recenterStep_of_due {s : State} (hactive : s.stab.state = .active) (hbacklog : 0 < s.stab.backlog)
    (hwindow : s.window = false) : s.recenterStep = (s.withStab (fun b => { b with
      x := b.x.recentered, y := b.y.recentered, backlog := b.backlog - 1,
      urgent := b.urgent && decide (b.backlog ≠ 1) })).statRecentered := if_pos ⟨hactive, hbacklog, by simp [hwindow]⟩

/-- A recenter step changes the angles, the backlog and its hold alone. -/
theorem State.recenterStep_stab (s : State) : s.recenterStep.stab.missed = s.stab.missed ∧ s.recenterStep.stab.cause = s.stab.cause ∧
    s.recenterStep.stab.state = s.stab.state ∧ s.recenterStep.stab.x.target = s.stab.x.target ∧
    s.recenterStep.stab.y.target = s.stab.y.target ∧ s.recenterStep.stab.last = s.stab.last ∧ s.recenterStep.outs = s.outs ∧
    s.recenterStep.stab.gyro = s.stab.gyro := by
  unfold State.recenterStep
  split <;> simp [ShiftAxis.recentered]

/-- A missed sample, from the present request to the next. -/
def State.missedStep (s : State) : State := s.askOnce.gyroMissed.nextGyro.askGyro

theorem State.missedStep_stab (s : State) : s.missedStep.stab = { s.askOnce.watchMissed.recenterStep.stab with
    gyro := s.askOnce.watchMissed.recenterStep.stab.gyro.map (· + us 500), asked := true } := rfl

theorem State.missedStep_onlyChanged (s : State) : onlyChanged [.statistics, .planner, .lens, .stabilizer, .events] s s.missedStep := by
  unfold State.missedStep
  refine ⟨by simp, by simp, fun y hy => ?_⟩
  cases y <;> simp [Part.same, State.dramByte] at hy ⊢

theorem State.missedStep_outs (s : State) : s.missedStep.outs = s.askOnce.watchMissed.recenterStep.outs ++
    [.shift (s.askOnce.watchMissed.recenterStep.stab.state ≠ .off) s.askOnce.watchMissed.recenterStep.stab.x.target
      s.askOnce.watchMissed.recenterStep.stab.y.target, .gyroRequest] := by
  simp [State.missedStep, State.gyroMissed, State.shiftMessage, State.nextGyro, State.askGyro, State.put, State.withStab]

/-- The last sample and the request's moment, which no watch changes. -/
theorem State.watchMissed_stab (s : State) : s.watchMissed.stab.last = s.stab.last ∧ s.watchMissed.stab.gyro = s.stab.gyro := by
  unfold State.watchMissed
  dsimp only
  split_ifs <;> simp [State.gyroFault_stab]

theorem State.missedStep_links (s : State) : s.missedStep.links = s.askOnce.watchMissed.links := by
  simp [State.missedStep, State.gyroMissed]

theorem State.gyroFaulted.congr {s t s' t' : State} {cause : GyroCause} (h : s.gyroFaulted t cause) (hs : s'.stab.state = s.stab.state)
    (hlinks : t'.links = t.links) (hstab : t'.stab.cause = t.stab.cause ∧ t'.stab.state = t.stab.state ∧ t'.stab.missed = t.stab.missed ∧
      t'.stab.rep1 = t.stab.rep1 ∧ t'.stab.rep2 = t.stab.rep2 ∧ t'.stab.cal = t.stab.cal) : s'.gyroFaulted t' cause := by
  obtain ⟨hcause, hstate, hmissed, hrep1, hrep2, hcal⟩ := hstab
  unfold State.gyroFaulted State.occurred State.pends at h ⊢
  rwa [hs, hlinks, hcause, hstate, hmissed, hrep1, hrep2, hcal]

/-- The fourth missed sample in a row is a fault (R130). -/
theorem State.missedStep_faulted {s : State} (hcause : s.stab.cause = .none) (h : 4 ≤ s.stab.missed + 1) :
    s.gyroFaulted s.missedStep .missing := by
  have hwatch := State.watchMissed_of_fourth (s := s.askOnce) (by simpa using hcause) (by simpa using h)
  have hfault := (s.askOnce.withStab (fun b => { b with missed := b.missed + 1 })).gyroFault_faulted .missing
  have hidle := State.recenterStep_of_idle (s := s.askOnce.watchMissed) (.inl (by rw [hwatch, hfault.2.1]; decide))
  rw [← hwatch] at hfault
  refine hfault.congr (by simp) s.missedStep_links ?_
  rw [State.missedStep_stab, hidle]
  simp

/-- A missed sample in a row of fewer than four: the count, then the recenter step that may be due. -/
theorem State.missedStep_of_few {s : State} (hcause : s.stab.cause = .none) (h : s.stab.missed + 1 < 4) :
    s.askOnce.watchMissed = s.askOnce.withStab (fun b => { b with missed := b.missed + 1 }) :=
  State.watchMissed_of_few (by simpa using hcause) (by simpa using h)

theorem events_same_of_links {s t : State} (h : t.links = s.links) : Part.events.same s t := by
  simp [Part.same, h]

/-- Settles O47: by the cause held, the count of missed samples, and the recenter step that may be due. -/
theorem fourMissedSamplesAreAFault : Obligations.FourMissedSamplesAreAFault := by
  intro s g hgyro
  change completes (s.timed s.stab.gyro State.missedStep) _
  refine completes_timed hgyro ?_
  have hasked : (s.begin.reach g).askOnce.stab = { s.stab with asked := true } := State.askOnce_stab _
  have houts : (s.begin.reach g).askOnce.outs = if s.stab.asked then [] else [.gyroRequest] := State.askOnce_outs _
  have hstep := (s.begin.reach g).missedStep_stab
  refine ⟨by simp [State.missedStep], ?_, ?_, onlyChanged_mono (onlyChanged_of_reach (State.missedStep_onlyChanged _)) (by simp),
    fun hcause hfour => ?_, fun hcause hfew hidle => ?_, fun hcause hfew => ?_, fun hcause hfew hactive => ⟨fun hdue hwindow => ?_, fun hidle => ?_⟩,
    fun hcause hidle => ?_⟩
  · rw [hstep]
    simp [State.watchMissed_stab, hgyro]
  · rw [hstep]
    simp [State.watchMissed_stab]
  · obtain ⟨hmissing, hstate, hmissed, -, -, hoccurred, hpends, hcal⟩ := State.missedStep_faulted (s := s.begin.reach g) hcause hfour
    exact ⟨hmissing, hstate, hmissed, hoccurred, hpends, hcal⟩
  · have hwatch := State.missedStep_of_few (s := s.begin.reach g) hcause hfew
    rw [hstep, hwatch, State.recenterStep_of_idle (.inl (by simpa using hidle))]
    exact ⟨by simp [hasked, hgyro], events_same_of_links ((State.missedStep_links _).trans (by simp [hwatch]))⟩
  · have hwatch := State.missedStep_of_few (s := s.begin.reach g) hcause hfew
    obtain ⟨hmissed, hcause', hstate, hx, hy, -, hout, -⟩ :=
      ((s.begin.reach g).askOnce.withStab (fun b => { b with missed := b.missed + 1 })).recenterStep_stab
    rw [hstep, State.missedStep_outs, hwatch, hstate, hx, hy, hout]
    exact ⟨hcause'.trans (by simpa using hcause), by simp, hmissed.trans (by simp), by simp, by simp,
      by simp [houts]⟩
  · have hwatch := State.missedStep_of_few (s := s.begin.reach g) hcause hfew
    rw [hstep, hwatch, State.recenterStep_of_due (by simpa using hactive) (by simpa using hdue) (by simpa [State.window] using hwindow)]
    simp [hasked, ShiftAxis.recentered]
  · have hwatch := State.missedStep_of_few (s := s.begin.reach g) hcause hfew
    rw [hstep, hwatch, State.recenterStep_of_idle (.inr (by simpa [State.window] using hidle))]
    simp [hasked, hgyro]
  · rw [hstep, State.watchMissed_of_fault (by simpa using hcause), State.recenterStep_of_idle (.inl (by simpa using hidle))]
    simp [hasked, hgyro]

end Sys2Proof.Machine
end

section
/-! The frame in progress through the operations that start moves: each move start marks it (R36) and nothing else of it changes. -/

namespace Sys2Proof.Machine

/-- A property of the frame in progress that every move start keeps. -/
def keptByMoves (P : Option FrameInProgress → Prop) : Prop := ∀ which x, P x → P (x.map (markMove which))

/-- The span for the movement flags is open. -/
def spanIsOpen (x : Option FrameInProgress) : Prop := ∃ f, x = some f ∧ f.spanOpen = true

theorem spanIsOpen_kept : keptByMoves spanIsOpen := by
  rintro which _ ⟨f, rfl, h⟩
  exact ⟨_, rfl, by simp [markMove, h]⟩

/-- With the span ended a move start leaves the frame as it is. -/
theorem spanEnded_kept {y : FrameInProgress} (h : y.spanOpen = false) : keptByMoves (fun x => x = some y) := by
  rintro which _ rfl
  simp [markMove, h]

namespace keptByMoves

variable {P : Option FrameInProgress → Prop} {s : State}

theorem statMove (hP : keptByMoves P) (h : P s.st.fip) (which : Actuator) : P (s.statMove which).st.fip := hP which _ h

theorem drive (hP : keptByMoves P) (h : P s.st.fip) (which : Actuator) (x : Int) (o : Origin) (n : Nat) :
    P (s.drive which x o n).1.st.fip := by
  unfold State.drive
  dsimp only
  split_ifs
  · simpa using h
  · simpa using h
  · exact hP.statMove (by simpa using h) which

theorem give (hP : keptByMoves P) (h : P s.st.fip) (which : Actuator) (x : Int) (o : Origin) (n : Nat) :
    P (s.give which x o n).1.st.fip := by
  unfold State.give
  dsimp only
  split_ifs
  · simpa using h
  · exact hP.drive h ..

theorem giveIris (hP : keptByMoves P) (h : P s.st.fip) (x : Int) (o : Origin) : P (s.giveIris x o).st.fip := hP.give h ..

theorem requestIris (hP : keptByMoves P) (h : P s.st.fip) : P s.requestIris.st.fip := by
  unfold State.requestIris
  split
  · exact hP.giveIris h ..
  · exact h

theorem plannerRun (hP : keptByMoves P) (h : P s.st.fip) : P s.plannerRun.st.fip := by
  unfold State.plannerRun
  split
  · exact h
  · exact hP.requestIris (by simpa using h)

theorem creditWatch (hP : keptByMoves P) (h : P s.st.fip) (b : Bool) : P (s.creditWatch b).st.fip := by
  unfold State.creditWatch
  split
  · exact h
  · exact hP.plannerRun h

theorem setPenalty (hP : keptByMoves P) (h : P s.st.fip) (b : Bool) : P (s.setPenalty b).st.fip := by
  unfold State.setPenalty
  split
  · exact h
  · exact hP.plannerRun h

theorem giveFocus (hP : keptByMoves P) (h : P s.st.fip) (x : Int) (o : Origin) : P (s.giveFocus x o).1.st.fip := by
  unfold State.giveFocus
  dsimp only
  split
  · exact hP.give h ..
  · exact hP.give h ..

theorem afDecide (h : P s.st.fip) : P s.afDecide.1.st.fip := by
  unfold State.afDecide
  split <;> exact h

theorem afAdvance (hP : keptByMoves P) (n : Nat) : ∀ {s : State}, P s.st.fip → P (State.afAdvance n s).st.fip := by
  induction n with
  | zero => exact fun h => h
  | succ n ih =>
    intro s h
    have hnext (t : State) (w : AfWait) (x : Int) (ht : P t.st.fip) :
        P (if ((t.withAf (fun a => { a with wait := w })).giveFocus x .search).2 then
          State.afAdvance n ((t.withAf (fun a => { a with wait := w })).giveFocus x .search).1
          else ((t.withAf (fun a => { a with wait := w })).giveFocus x .search).1).st.fip := by
      have hgive := hP.giveFocus (s := t.withAf (fun a => { a with wait := w })) ht x .search
      split
      · exact ih hgive
      · exact hgive
    unfold State.afAdvance
    split
    · exact h
    · exact hnext s _ _ h
    · exact hnext _ _ _ (afDecide h)
    · simpa [State.afLock] using h
    · simpa [State.afFail] using h
    · simpa [State.probeEnd, State.setDistance] using h
    · exact h
    · exact h

theorem afAbort (hP : keptByMoves P) (h : P s.st.fip) : P s.afAbort.st.fip := by
  unfold State.afAbort
  dsimp only
  split_ifs
  · exact hP.giveFocus (s := s.withAf FocusSearch.giveUp) h ..
  · exact h
  · exact h

theorem afFocusDone (hP : keptByMoves P) (h : P s.st.fip) (o : Origin) : P (s.afFocusDone o).st.fip := by
  unfold State.afFocusDone
  split_ifs
  · exact hP.afAdvance 4 h
  · exact hP.afAbort h
  · exact h

theorem requestFocus (hP : keptByMoves P) (h : P s.st.fip) (x : Int) (o : Origin) : P (s.requestFocus x o).st.fip := by
  unfold State.requestFocus
  dsimp only
  split
  · exact hP.afFocusDone (hP.giveFocus h x o) o
  · exact hP.giveFocus h x o

theorem trackingPoint (hP : keptByMoves P) (h : P s.st.fip) : P s.trackingPoint.st.fip := by
  have hfocus : P s.trackFocus.st.fip := by
    unfold State.trackFocus
    split
    · exact h
    · exact hP.requestFocus h ..
  unfold State.trackingPoint State.trackIris
  split_ifs
  · exact hP.giveIris hfocus ..
  · exact hfocus
  · exact h

theorem zoomDone (hP : keptByMoves P) (h : P s.st.fip) (o : Origin) : P (s.zoomDone o).st.fip := by
  unfold State.zoomDone
  split
  · exact hP.trackingPoint (by simpa using h)
  · exact hP.trackingPoint h

theorem requestZoom (hP : keptByMoves P) (h : P s.st.fip) (x : Int) (o : Origin) (n : Nat) : P (s.requestZoom x o n).st.fip := by
  unfold State.requestZoom
  dsimp only
  split
  · exact hP.zoomDone (hP.give h ..) o
  · exact hP.give h ..

theorem startPending (hP : keptByMoves P) (h : P s.st.fip) (which : Actuator) : P (s.startPending which).st.fip := by
  have hset (m : ActRecord) : P (s.setAct which m).st.fip := by simpa using h
  unfold State.startPending
  split
  · exact h
  · cases which with
    | zoom => exact hP.requestZoom (hset _) ..
    | focus => exact hP.requestFocus (hset _) ..
    | iris => exact hP.giveIris (hset _) ..

theorem startAllPending (hP : keptByMoves P) (h : P s.st.fip) : P s.startAllPending.st.fip :=
  hP.startPending (hP.startPending (hP.startPending h .zoom) .focus) .iris

theorem gradeEnd (hP : keptByMoves P) (h : P s.st.fip) : P s.gradeEnd.st.fip := by
  unfold State.gradeEnd
  split
  · exact hP.setPenalty h _
  · exact hP.setPenalty (s := s.withStab _) h _

theorem stabSet (hP : keptByMoves P) (h : P s.st.fip) (x : StabState) : P (s.stabSet x).st.fip := by
  unfold State.stabSet
  split
  · exact h
  · exact hP.creditWatch (by simpa using h) _

theorem derive (hP : keptByMoves P) (h : P s.st.fip) : P s.derive.st.fip := by
  unfold State.derive
  split
  · exact h
  · exact hP.stabSet h _

end keptByMoves

end Sys2Proof.Machine
end

section
/-! A received gyro sample (R113 to R116, R118, R120, R124, R127, R130). -/

namespace Sys2Proof.Machine

/-! ### The axes of a sample -/

/-- An axis taken through a sample in Active: pan detection, the angle, the recenter step where it is due, the shift. -/
def State.takenAxis (s : State) (a : ShiftAxis) (r bias : Int) : ShiftAxis :=
  let x := (a.detect r (s.setting ixPanThreshold) (s.settingNat ixPanCount)).integrate r bias (s.settingNat ixLeakShift)
  (if 0 < s.stab.backlog ∧ s.window = false then x.recentered else x).shifted s.stab.gain (s.setting ixShiftLimit)

theorem State.panDetected_detect (s : State) (a : ShiftAxis) (r : Int) :
    s.panDetected a (a.detect r (s.setting ixPanThreshold) (s.settingNat ixPanCount)) r := by
  refine ⟨fun hpan hcount n hn => ?_, fun hpan hcount n hn => ?_⟩
  · subst hn
    refine ⟨fun hlt => ?_, fun hle => ?_⟩
    · simp [ShiftAxis.detect, hpan, not_le.2 hlt, not_le.2 hcount]
    · simp [ShiftAxis.detect, hpan, hle]
  · subst hn
    refine ⟨fun hlt => ?_, fun hle => ?_⟩
    · simp [ShiftAxis.detect, hpan, not_le.2 hlt, not_le.2 hcount]
    · simp [ShiftAxis.detect, hpan, hle]

/-- What pan detection asks of an axis, which its angle and shift do not change. -/
theorem State.panDetected.congr {s : State} {a b c : ShiftAxis} {r : Int} (h : s.panDetected a b r) (hpan : c.pan = b.pan)
    (hentry : c.entry = b.entry) (hexit : c.exit = b.exit) : s.panDetected a c r := by
  unfold State.panDetected at h ⊢
  rwa [hpan, hentry, hexit]

@[simp] theorem ShiftAxis.integrate_pan (x : ShiftAxis) (r bias : Int) (k : Nat) : (x.integrate r bias k).pan = x.pan ∧
    (x.integrate r bias k).entry = x.entry ∧ (x.integrate r bias k).exit = x.exit := by
  unfold ShiftAxis.integrate
  split <;> simp

theorem ShiftAxis.integrate_theta (x : ShiftAxis) (r bias : Int) (k : Nat) : (x.integrate r bias k).theta =
    if x.pan then x.theta - x.theta.tdiv 64
    else max (-2147483647) (min 2147483647 (x.theta + (r * 16 - bias) - x.theta / 2 ^ k)) := by
  unfold ShiftAxis.integrate
  split
  · rfl
  · rfl

@[simp] theorem ShiftAxis.detect_theta (x : ShiftAxis) (r thr : Int) (n : Nat) : (x.detect r thr n).theta = x.theta ∧
    (x.detect r thr n).target = x.target := by
  unfold ShiftAxis.detect
  dsimp only
  split_ifs <;> simp

theorem State.takenAxis_taken (s : State) (a : ShiftAxis) (r bias : Int) : s.axisTaken a (s.takenAxis a r bias) r bias := by
  have hpan : (s.takenAxis a r bias).pan = (a.detect r (s.setting ixPanThreshold) (s.settingNat ixPanCount)).pan ∧
      (s.takenAxis a r bias).entry = (a.detect r (s.setting ixPanThreshold) (s.settingNat ixPanCount)).entry ∧
      (s.takenAxis a r bias).exit = (a.detect r (s.setting ixPanThreshold) (s.settingNat ixPanCount)).exit := by
    unfold State.takenAxis
    dsimp only
    split <;> simp [ShiftAxis.shifted, ShiftAxis.recentered]
  refine ⟨(s.panDetected_detect a r).congr hpan.1 hpan.2.1 hpan.2.2, fun x hx => ?_, rfl, rfl, rfl⟩
  rw [hpan.1] at hx
  have htheta : ((a.detect r (s.setting ixPanThreshold) (s.settingNat ixPanCount)).integrate r bias (s.settingNat ixLeakShift)).theta = x := by
    rw [ShiftAxis.integrate_theta, hx]
    simp
  unfold State.takenAxis
  dsimp only
  split
  · next h => simp [ShiftAxis.shifted, ShiftAxis.recentered, htheta]
  · next h => simp [ShiftAxis.shifted, htheta]

/-! ### The stages of a sample in use -/

theorem State.orientNow_stab (s : State) : s.orientNow.stab = { s.stab with
    orient := s.setting ixOrientation, x := s.oriented s.stab.x, y := s.oriented s.stab.y } := by
  unfold State.orientNow State.oriented
  split
  · next h => rw [← h]
  · rfl

/-- The stages before the angle: orientation, pan detection, the credit condition. -/
def State.panned (s : State) (x y : Int) : State := State.creditWatch s.creditCondition (s.orientNow.panSample x y)

theorem State.panned_stab_of_panning {s : State} (h : s.stab.state = .active ∨ s.stab.state = .parked) (x y : Int) :
    (s.panned x y).stab = { s.stab with
      orient := s.setting ixOrientation,
      x := (s.oriented s.stab.x).detect x (s.setting ixPanThreshold) (s.settingNat ixPanCount),
      y := (s.oriented s.stab.y).detect y (s.setting ixPanThreshold) (s.settingNat ixPanCount) } := by
  have hstate : s.orientNow.stab.state = .active ∨ s.orientNow.stab.state = .parked := by rwa [State.orientNow_stab]
  rw [State.panned, State.creditWatch_frame _ _ |>.2.2.2.2.2.1, State.panSample, if_pos hstate]
  simp [State.orientNow_stab, State.setting, State.settingNat]

theorem State.panned_stab_of_other {s : State} (h : ¬ (s.stab.state = .active ∨ s.stab.state = .parked)) (x y : Int) :
    (s.panned x y).stab = { s.stab with
      orient := s.setting ixOrientation, x := s.oriented s.stab.x, y := s.oriented s.stab.y } := by
  have hstate : ¬ (s.orientNow.stab.state = .active ∨ s.orientNow.stab.state = .parked) := by rwa [State.orientNow_stab]
  rw [State.panned, State.creditWatch_frame _ _ |>.2.2.2.2.2.1, State.panSample, if_neg hstate, State.orientNow_stab]

@[simp] theorem State.panned_frame (s : State) (x y : Int) : (s.panned x y).settings = s.settings ∧ (s.panned x y).fc = s.fc ∧
    (s.panned x y).links = s.links ∧ (s.panned x y).outs = s.outs ∧ (s.panned x y).clock = s.clock ∧
    (s.panned x y).lens.state = s.lens.state := by
  simp [State.panned]

theorem State.useSample_eq (s : State) (u v : Int) : s.useSample u v =
    ((((s.panned (mapRates (s.setting ixOrientation) u v).1 (mapRates (s.setting ixOrientation) u v).2).angleSample
      (mapRates (s.setting ixOrientation) u v).1 (mapRates (s.setting ixOrientation) u v).2).recenterStep.shiftSample).calSample
      (mapRates (s.setting ixOrientation) u v).1 (mapRates (s.setting ixOrientation) u v).2) := rfl

theorem State.calSample_of_other {s : State} (h : s.stab.state ≠ .calibrating) (x y : Int) : s.calSample x y = s := if_pos h

/-- Out of Active a sample's angle, recenter step and shift are not taken. -/
theorem State.useSample_of_other {s : State} (h : s.stab.state ≠ .active) (u v : Int) : s.useSample u v =
    (s.panned (mapRates (s.setting ixOrientation) u v).1 (mapRates (s.setting ixOrientation) u v).2).calSample
      (mapRates (s.setting ixOrientation) u v).1 (mapRates (s.setting ixOrientation) u v).2 := by
  have hstate (x y : Int) : (s.panned x y).stab.state ≠ .active := by simpa [State.panned] using h
  rw [State.useSample_eq, State.angleSample, if_neg (hstate _ _), State.recenterStep_of_idle (.inl (hstate _ _)), State.shiftSample,
    if_neg (hstate _ _)]

/-- The angle and the recenter step of a sample in Active. -/
theorem State.recentered_stab {s : State} (h : s.stab.state = .active) (x y : Int) :
    (s.angleSample x y).recenterStep.stab = if 0 < s.stab.backlog ∧ s.window = false then { s.stab with
        x := (s.stab.x.integrate x s.stab.biasX (s.settingNat ixLeakShift)).recentered,
        y := (s.stab.y.integrate y s.stab.biasY (s.settingNat ixLeakShift)).recentered,
        backlog := s.stab.backlog - 1, urgent := s.stab.urgent && decide (s.stab.backlog ≠ 1) }
      else { s.stab with
        x := s.stab.x.integrate x s.stab.biasX (s.settingNat ixLeakShift),
        y := s.stab.y.integrate y s.stab.biasY (s.settingNat ixLeakShift) } := by
  rw [State.angleSample, if_pos h]
  split
  · next hdue =>
    rw [State.recenterStep_of_due (by exact h) (by exact hdue.1) (by exact hdue.2)]
    rfl
  · next hdue =>
    rw [State.recenterStep_of_idle (s := s.withStab _) (.inr ?_)]
    · rfl
    · by_cases hbacklog : s.stab.backlog = 0
      · exact .inl hbacklog
      · exact .inr (by simpa [State.window, Nat.pos_of_ne_zero hbacklog] using hdue)

/-- The shift of a sample in Active, with the residuals of a capture's window. -/
theorem State.shiftSample_stab {s : State} (h : s.stab.state = .active) : s.shiftSample.stab =
    let x := s.stab.x.shifted s.stab.gain (s.setting ixShiftLimit)
    let y := s.stab.y.shifted s.stab.gain (s.setting ixShiftLimit)
    { s.stab with
      x := x, y := y, rx := if s.window ∧ s.stab.resFlag then min 65535 (s.stab.rx + x.excess.toNat) else s.stab.rx,
      ry := if s.window ∧ s.stab.resFlag then min 65535 (s.stab.ry + y.excess.toNat) else s.stab.ry } := by
  rw [State.shiftSample, if_pos h]
  dsimp only
  split
  · next hres =>
    have hres : s.window ∧ s.stab.resFlag := hres
    simp [hres, satAdd]
  · next hres =>
    have hres : ¬ (s.window ∧ s.stab.resFlag) := hres
    rw [if_neg hres, if_neg hres]
    rfl

/-- A sample in use in Active (R115, R116, R118, R124). -/
theorem State.useSample_stab_of_active {s : State} (h : s.stab.state = .active) (u v : Int) :
    let m := mapRates (s.setting ixOrientation) u v
    let x := s.takenAxis (s.oriented s.stab.x) m.1 s.stab.biasX
    let y := s.takenAxis (s.oriented s.stab.y) m.2 s.stab.biasY
    (s.useSample u v).stab = { s.stab with
      orient := s.setting ixOrientation, x := x, y := y,
      backlog := if 0 < s.stab.backlog ∧ s.window = false then s.stab.backlog - 1 else s.stab.backlog,
      urgent := if 0 < s.stab.backlog ∧ s.window = false then s.stab.urgent && decide (s.stab.backlog ≠ 1) else s.stab.urgent,
      rx := if s.window ∧ s.stab.resFlag then min 65535 (s.stab.rx + x.excess.toNat) else s.stab.rx,
      ry := if s.window ∧ s.stab.resFlag then min 65535 (s.stab.ry + y.excess.toNat) else s.stab.ry } := by
  dsimp only
  rw [State.useSample_eq]
  generalize mapRates (s.setting ixOrientation) u v = m
  have hpanned := State.panned_stab_of_panning (.inl h) m.1 m.2
  have hstate : (s.panned m.1 m.2).stab.state = .active := by rw [hpanned, h]
  have hwindow : (s.panned m.1 m.2).window = s.window := by simp [State.window]
  have hset (i : Nat) : (s.panned m.1 m.2).setting i = s.setting i := by simp [State.setting]
  have hnat (i : Nat) : (s.panned m.1 m.2).settingNat i = s.settingNat i := by simp [State.settingNat, State.setting]
  have hangle := State.recentered_stab hstate m.1 m.2
  have hactive : ((s.panned m.1 m.2).angleSample m.1 m.2).recenterStep.stab.state = .active := by
    simp [hstate]
  have hwindow' : ((s.panned m.1 m.2).angleSample m.1 m.2).recenterStep.window = s.window := by simp [State.window]
  have hset' (i : Nat) : ((s.panned m.1 m.2).angleSample m.1 m.2).recenterStep.setting i = s.setting i := by simp [State.setting]
  have hshift := State.shiftSample_stab hactive
  rw [State.calSample_of_other (by rw [hshift, hactive]; simp), hshift, hangle, hwindow', hset', hwindow, hnat, hpanned]
  by_cases hdue : 0 < s.stab.backlog ∧ s.window = false
  · simp [hdue, State.takenAxis]
  · simp only [hdue, if_false, State.takenAxis]

/-! ### Calibrations (R127, R128) -/

theorem State.isStill_iff {s : State} {z : GyroSample} (h : s.stab.last = some z) (x y : Int) : s.isStill x y = true ↔
    |x - z.x| ≤ s.setting ixStillThreshold ∧ |y - z.y| ≤ s.setting ixStillThreshold := by
  simp [State.isStill, h]

/-- The run of a calibration with a still sample added. -/
def State.stillAdded (s : State) (x y : Int) : State :=
  s.withStab (fun b => { b with cal := b.cal.addStill x y (s.setting ixCalMinimum) })

theorem State.calSample_of_still {s : State} (h : s.stab.state = .calibrating) {z : GyroSample} (hlast : s.stab.last = some z) {x y : Int}
    (hstill : s.isStill x y = true) : s.calSample x y =
      if 16000 ≤ (s.stillAdded x y).stab.cal.count then (s.stillAdded x y).calDone else s.stillAdded x y := by
  rw [State.calSample, if_neg (by simp [h])]
  dsimp only
  rw [if_pos hstill, show (if s.stab.last.isNone then s.chosen else s) = s from if_neg (by simp [hlast])]
  rfl

theorem State.calSample_of_moved {s : State} (h : s.stab.state = .calibrating) {z : GyroSample} (hlast : s.stab.last = some z) {x y : Int}
    (hmoved : s.isStill x y = false) : s.calSample x y =
      if s.stab.cal.status = .minMet then s.calDone
      else s.withStab (fun b => { b with cal := { b.cal with count := 0, sumX := 0, sumY := 0 } }) := by
  rw [State.calSample, if_neg (by simp [h])]
  dsimp only
  rw [if_neg (by simp [hmoved]), show (if s.stab.last.isNone then s.chosen else s) = s from if_neg (by simp [hlast])]

theorem CalRecord.addStill_eq (c : CalRecord) (x y minimum : Int) : c.addStill x y minimum = { c with
    count := c.count + 1, sumX := c.sumX + x, sumY := c.sumY + y,
    status := if c.status = .sampling ∧ minimum ≤ (c.count + 1 : Nat) then .minMet else c.status } := by
  unfold CalRecord.addStill
  dsimp only
  split
  · simp
  · rfl

/-- What a calibration's end reads of a state beside its own record. -/
structure State.sameDerived (s t : State) : Prop where
  state : t.derivedState = s.derivedState
  settings : t.settings = s.settings

theorem State.calibrated_of_done {s t : State} (h : t.derivedState = s.derivedState) :
    s.calibrated t.calDone t.stab.cal.count t.stab.cal.sumX t.stab.cal.sumY := by
  have hdone := t.calDone_calibrated
  unfold State.calibrated at hdone ⊢
  rwa [← h]

theorem State.calSample_taken {s t : State} (hs : s.sameDerived t) (hcal : t.stab.cal = s.stab.cal) (h : t.stab.state = .calibrating)
    {z : GyroSample} (hlast : t.stab.last = some z) (x y : Int) : s.calTaken (t.calSample x y) z x y := by
  have hset (i : Nat) : t.setting i = s.setting i := by simp [State.setting, hs.settings]
  have hstill : t.isStill x y = true ↔ |x - z.x| ≤ s.setting ixStillThreshold ∧ |y - z.y| ≤ s.setting ixStillThreshold := by
    rw [State.isStill_iff hlast, hset]
  have hrecord : (t.stillAdded x y).stab.cal = { s.stab.cal with
      count := s.stab.cal.count + 1, sumX := s.stab.cal.sumX + x, sumY := s.stab.cal.sumY + y,
      status := if s.stab.cal.status = .sampling ∧ s.setting ixCalMinimum ≤ (s.stab.cal.count + 1 : Nat) then .minMet
        else s.stab.cal.status } := by
    rw [← hset, ← hcal]
    exact CalRecord.addStill_eq ..
  refine ⟨fun hin => ?still, fun hout => ?moved⟩
  case still =>
    rw [State.calSample_of_still h hlast (hstill.2 hin), hrecord]
    refine ⟨fun hfew => ?_, fun hmany => ?_⟩
    · rw [if_neg (not_le.2 hfew)]
      exact ⟨h, hrecord⟩
    · rw [if_pos hmany]
      have hdone := State.calibrated_of_done (s := s) (t := t.stillAdded x y) hs.state
      rw [hrecord] at hdone
      exact hdone
  case moved =>
    have hnot : t.isStill x y = false := by
      rw [Bool.eq_false_iff, Ne, hstill, not_and_or]
      rcases hout with hx | hy
      · exact .inl (not_le.2 hx)
      · exact .inr (not_le.2 hy)
    rw [State.calSample_of_moved h hlast hnot, hcal]
    refine ⟨fun hmin => ?_, fun hmin => ?_⟩
    · rw [if_pos hmin]
      have hdone := State.calibrated_of_done (s := s) (t := t) hs.state
      rwa [hcal] at hdone
    · rw [if_neg hmin]
      exact ⟨h, by rw [← hcal]; rfl⟩

/-! ### The watch and the step (R113, R130) -/

/-- The counts of a received sample: no sample missed, the repeats of each axis. -/
def State.counted (s : State) (u v : Int) : State :=
  s.withStab (fun b => { b with
    missed := 0, rep1 := repeats (s.stab.last.map GyroSample.u) u s.stab.rep1,
    rep2 := repeats (s.stab.last.map GyroSample.v) v s.stab.rep2 })

theorem State.watchStuck_of_fault {s : State} (h : s.stab.cause ≠ .none) (u v : Int) : s.watchStuck u v = s := if_pos h

theorem State.watchStuck_of_sound {s : State} (h : s.stab.cause = .none) (u v : Int) : s.watchStuck u v =
    if stuckCause (s.counted u v).stab.rep1 (s.counted u v).stab.rep2 = .none then s.counted u v
    else (s.counted u v).gyroFault (stuckCause (s.counted u v).stab.rep1 (s.counted u v).stab.rep2) := if_neg (not_not.2 h)

theorem stuckCause_none_iff (r1 r2 : Nat) : stuckCause r1 r2 = .none ↔ r1 < 255 ∧ r2 < 255 := by
  unfold stuckCause
  split_ifs <;> simp <;> omega

theorem repeats_le (last : Option Int) (now : Int) (n : Nat) : repeats last now n ≤ n + 1 := by
  unfold repeats
  split <;> omega

/-- A sample after the watch: used where no fault holds the Stabilizer. -/
def State.watched (s : State) (u v : Int) : State :=
  if (s.watchStuck u v).stab.cause = .none then (s.watchStuck u v).useSample u v else s.watchStuck u v

/-- A received sample, from the present request to the next. -/
def State.receivedStep (u v : Int) (s : State) : State := (s.askOnce.gyroReceived u v).nextGyro

theorem State.receivedStep_eq (s : State) (u v : Int) : s.receivedStep u v =
    ((s.askOnce.watched u v).withStab (fun b => { b with
      last := some { u := u, v := v, x := (mapRates (s.askOnce.setting ixOrientation) u v).1,
                     y := (mapRates (s.askOnce.setting ixOrientation) u v).2 } })).shiftMessage.nextGyro := rfl

theorem State.receivedStep_stab (s : State) (u v : Int) : (s.receivedStep u v).stab = { (s.askOnce.watched u v).stab with
    last := some { u := u, v := v, x := (mapRates (s.askOnce.setting ixOrientation) u v).1,
                   y := (mapRates (s.askOnce.setting ixOrientation) u v).2 },
    gyro := (s.askOnce.watched u v).stab.gyro.map (· + us 500), asked := false } := by
  rw [State.receivedStep_eq]
  simp [State.nextGyro]

theorem State.receivedStep_parts (s : State) (u v : Int) : (s.receivedStep u v).links = (s.askOnce.watched u v).links ∧
    (s.receivedStep u v).st = (s.askOnce.watched u v).st ∧ (s.receivedStep u v).outs = (s.askOnce.watched u v).outs ++
      [.shift ((s.askOnce.watched u v).stab.state ≠ .off) (s.askOnce.watched u v).stab.x.target (s.askOnce.watched u v).stab.y.target] ∧
    onlyChanged [.stabilizer] (s.askOnce.watched u v) (s.receivedStep u v) := by
  rw [State.receivedStep_eq]
  refine ⟨by simp, by simp, rfl, ?_⟩
  exact onlyChanged_mono (onlyChanged_trans (onlyChanged_trans (State.withStab_onlyChanged _ _) (State.put_onlyChanged _ _))
    (State.nextGyro_onlyChanged _)) (by simp)

/-- What the watch and the requests read of the Stabilizer is the same in two states. -/
structure State.sameWatch (s t : State) : Prop where
  cause : t.stab.cause = s.stab.cause
  missed : t.stab.missed = s.stab.missed
  rep1 : t.stab.rep1 = s.stab.rep1
  rep2 : t.stab.rep2 = s.stab.rep2
  gyro : t.stab.gyro = s.stab.gyro

theorem State.sameWatch.trans {s t u : State} (h : s.sameWatch t) (hu : t.sameWatch u) : s.sameWatch u :=
  ⟨hu.cause.trans h.cause, hu.missed.trans h.missed, hu.rep1.trans h.rep1, hu.rep2.trans h.rep2, hu.gyro.trans h.gyro⟩

theorem State.sameWatch.refl (s : State) : s.sameWatch s := ⟨rfl, rfl, rfl, rfl, rfl⟩

theorem State.calEnd_watch (s : State) (x : CalStatus) : s.sameWatch (s.calEnd x) := by
  constructor <;> simp [State.calEnd]

theorem State.calDone_watch (s : State) : s.sameWatch s.calDone := by
  obtain ⟨hcause, hmissed, hrep1, hrep2, hgyro⟩ := State.calEnd_watch (s.withStab (fun b => { b with
    biasX := b.cal.mean.1, biasY := b.cal.mean.2, cal := { b.cal with result := some b.cal.mean } })) .done
  exact ⟨hcause, hmissed, hrep1, hrep2, hgyro⟩

theorem State.withCal_watch (s : State) (f : CalRecord → CalRecord) : s.sameWatch (s.withStab (fun b => { b with cal := f b.cal })) :=
  ⟨rfl, rfl, rfl, rfl, rfl⟩

theorem State.calSample_watch (s : State) (x y : Int) : s.sameWatch (s.calSample x y) := by
  have hchosen : s.sameWatch (if s.stab.last.isNone then s.chosen else s) := by
    split
    · exact ⟨rfl, rfl, rfl, rfl, rfl⟩
    · exact .refl s
  unfold State.calSample
  split
  · exact .refl s
  · dsimp only
    generalize (if s.stab.last.isNone then s.chosen else s) = t at hchosen
    split_ifs
    · exact hchosen.trans ((t.withCal_watch (fun c => c.addStill x y (t.setting ixCalMinimum))).trans (State.calDone_watch _))
    · exact hchosen.trans (t.withCal_watch (fun c => c.addStill x y (t.setting ixCalMinimum)))
    · exact hchosen.trans t.calDone_watch
    · exact hchosen.trans (t.withCal_watch (fun c => { c with count := 0, sumX := 0, sumY := 0 }))

theorem State.panned_watch (s : State) (x y : Int) : s.sameWatch (s.panned x y) := by
  by_cases h : s.stab.state = .active ∨ s.stab.state = .parked
  · constructor <;> rw [State.panned_stab_of_panning h]
  · constructor <;> rw [State.panned_stab_of_other h]

theorem State.useSample_watch (s : State) (u v : Int) : s.sameWatch (s.useSample u v) := by
  by_cases h : s.stab.state = .active
  · constructor <;> rw [State.useSample_stab_of_active h]
  · rw [State.useSample_of_other h]
    exact (s.panned_watch _ _).trans (State.calSample_watch _ _ _)

theorem stuckCause_eq (r1 r2 : Nat) (h : 255 ≤ r1 ∨ 255 ≤ r2) :
    stuckCause r1 r2 = if r1 < 255 then .stuckAxis2 else if r2 < 255 then .stuckAxis1 else .stuckBoth := by
  unfold stuckCause
  split_ifs <;> first | rfl | omega

/-- Repeats below the limit: the sample is used with its counts. -/
theorem State.watched_of_few {s : State} (h : s.stab.cause = .none) {u v : Int} (h1 : (s.counted u v).stab.rep1 < 255)
    (h2 : (s.counted u v).stab.rep2 < 255) : s.watched u v = (s.counted u v).useSample u v := by
  have hwatch : s.watchStuck u v = s.counted u v := by
    rw [State.watchStuck_of_sound h, if_pos ((stuckCause_none_iff _ _).2 ⟨h1, h2⟩)]
  rw [State.watched, hwatch]
  exact if_pos h

/-- Repeats at the limit: a fault, and the sample is not used. -/
theorem State.watched_of_many {s : State} (h : s.stab.cause = .none) {u v : Int}
    (hmany : 255 ≤ (s.counted u v).stab.rep1 ∨ 255 ≤ (s.counted u v).stab.rep2) : s.watched u v =
      (s.counted u v).gyroFault (stuckCause (s.counted u v).stab.rep1 (s.counted u v).stab.rep2) := by
  have hcause : stuckCause (s.counted u v).stab.rep1 (s.counted u v).stab.rep2 ≠ .none := by
    rw [Ne, stuckCause_none_iff]
    omega
  have hwatch : s.watchStuck u v = (s.counted u v).gyroFault (stuckCause (s.counted u v).stab.rep1 (s.counted u v).stab.rep2) := by
    rw [State.watchStuck_of_sound h, if_neg hcause]
  rw [State.watched, hwatch, if_neg (by rwa [((s.counted u v).gyroFault_faulted _).1])]

/-- Whatever the watch finds, no sample is missed, and the requests go on. -/
theorem State.watched_of_sound {s : State} (h : s.stab.cause = .none) (u v : Int) :
    (s.watched u v).stab.missed = 0 ∧ (s.watched u v).stab.gyro = s.stab.gyro := by
  by_cases hfew : (s.counted u v).stab.rep1 < 255 ∧ (s.counted u v).stab.rep2 < 255
  · rw [State.watched_of_few h hfew.1 hfew.2]
    have hwatch := (s.counted u v).useSample_watch u v
    exact ⟨hwatch.missed, hwatch.gyro⟩
  · rw [State.watched_of_many h (by omega)]
    exact ⟨((s.counted u v).gyroFault_faulted _).2.2.1, (State.gyroFault_stab _ _).2.1⟩

theorem State.watched_of_fault {s : State} (h : s.stab.cause ≠ .none) (u v : Int) : s.watched u v = s := by
  rw [State.watched, State.watchStuck_of_fault h, if_neg h]

/-- A state as a sample's stages find it: the clock, the request's flag and the counts of the watch apart, the same. -/
structure State.sameForSample (s c : State) : Prop where
  settings : c.settings = s.settings
  fc : c.fc = s.fc
  st : c.st = s.st
  lens : c.lens.state = s.lens.state
  stab : c.stab = { s.stab with asked := c.stab.asked, missed := c.stab.missed, rep1 := c.stab.rep1, rep2 := c.stab.rep2 }

theorem State.askOnce_counted_same (s : State) (d : Nat) (u v : Int) : s.sameForSample ((s.begin.reach d).askOnce.counted u v) := by
  have hstab : (s.begin.reach d).askOnce.stab = { s.stab with asked := true } := State.askOnce_stab _
  refine ⟨by simp [State.counted], by simp [State.counted], by simp [State.counted], by simp [State.counted], ?_⟩
  simp only [State.counted, State.withStab, hstab]

section
variable {s c : State} (h : s.sameForSample c)
include h

theorem State.sameForSample.setting (i : Nat) : c.setting i = s.setting i := by rw [State.setting, h.settings]; rfl

theorem State.sameForSample.settingNat (i : Nat) : c.settingNat i = s.settingNat i := by rw [State.settingNat, h.setting]; rfl

theorem State.sameForSample.state : c.stab.state = s.stab.state := by rw [h.stab]

theorem State.sameForSample.window : c.window = s.window := by rw [State.window, h.fc]; rfl

theorem State.sameForSample.derived : c.derivedState = s.derivedState := State.derivedState_congr h.settings h.lens h.fc

theorem State.sameForSample.oriented (x : ShiftAxis) : c.oriented x = s.oriented x := by
  rw [State.oriented, h.setting, h.stab]
  rfl

theorem State.sameForSample.takenAxis (x : ShiftAxis) (r bias : Int) : c.takenAxis x r bias = s.takenAxis x r bias := by
  simp only [State.takenAxis, h.setting, h.settingNat, h.window]
  rw [h.stab]

end

/-- A sample in use in Active, by the state that it found. -/
theorem State.sameForSample.active {s c : State} (h : s.sameForSample c) (hactive : s.stab.state = .active) {u v : Int} {m : Int × Int}
    (hm : m = mapRates (s.setting ixOrientation) u v) : (c.useSample u v).stab = { c.stab with
      orient := s.setting ixOrientation, x := s.takenAxis (s.oriented s.stab.x) m.1 s.stab.biasX,
      y := s.takenAxis (s.oriented s.stab.y) m.2 s.stab.biasY,
      backlog := if 0 < s.stab.backlog ∧ s.window = false then s.stab.backlog - 1 else s.stab.backlog,
      urgent := if 0 < s.stab.backlog ∧ s.window = false then s.stab.urgent && decide (s.stab.backlog ≠ 1) else s.stab.urgent,
      rx := if s.window ∧ s.stab.resFlag then
          min 65535 (s.stab.rx + (s.takenAxis (s.oriented s.stab.x) m.1 s.stab.biasX).excess.toNat) else s.stab.rx,
      ry := if s.window ∧ s.stab.resFlag then
          min 65535 (s.stab.ry + (s.takenAxis (s.oriented s.stab.y) m.2 s.stab.biasY).excess.toNat) else s.stab.ry } := by
  rw [State.useSample_stab_of_active (h.state.trans hactive), h.setting, ← hm, h.window, h.takenAxis, h.takenAxis, h.oriented, h.oriented, h.stab]

/-- A sample in use in Parked: pan detection alone. -/
theorem State.sameForSample.parked {s c : State} (h : s.sameForSample c) (hparked : s.stab.state = .parked) {u v : Int} {m : Int × Int}
    (hm : m = mapRates (s.setting ixOrientation) u v) : (c.useSample u v).stab = { c.stab with
      orient := s.setting ixOrientation,
      x := (s.oriented s.stab.x).detect m.1 (s.setting ixPanThreshold) (s.settingNat ixPanCount),
      y := (s.oriented s.stab.y).detect m.2 (s.setting ixPanThreshold) (s.settingNat ixPanCount) } := by
  have hc : c.stab.state = .parked := h.state.trans hparked
  have hpanned := State.panned_stab_of_panning (.inr hc) m.1 m.2
  rw [State.useSample_of_other (by simp [hc]), h.setting, ← hm, State.calSample_of_other (by simp [hpanned, hc]), hpanned, h.setting, h.setting,
    h.settingNat, h.oriented, h.oriented, h.stab]

/-- A sample in use in a calibration (R127, R128). -/
theorem State.sameForSample.calibrating {s c : State} (h : s.sameForSample c) (hcal : s.stab.state = .calibrating) {u v : Int} {m : Int × Int}
    (hm : m = mapRates (s.setting ixOrientation) u v) {z : GyroSample} (hlast : s.stab.last = some z) :
    s.calTaken (c.useSample u v) z m.1 m.2 := by
  have hc : c.stab.state = .calibrating := h.state.trans hcal
  have hpanned := State.panned_stab_of_other (s := c) (by simp [hc]) m.1 m.2
  have hderived : (c.panned m.1 m.2).derivedState = s.derivedState := (State.derivedState_congr (by simp) (by simp) (by simp)).trans h.derived
  rw [State.useSample_of_other (by simp [hc]), h.setting, ← hm]
  exact State.calSample_taken ⟨hderived, by simp [h.settings]⟩ (by rw [hpanned, h.stab]) (by rw [hpanned, hc]) (by rw [hpanned, h.stab, hlast]) _ _

theorem State.calTaken.congr {s t t' : State} {z : GyroSample} {x y : Int} (h : s.calTaken t z x y) (hstate : t'.stab.state = t.stab.state)
    (hcal : t'.stab.cal = t.stab.cal) (hx : t'.stab.biasX = t.stab.biasX) (hy : t'.stab.biasY = t.stab.biasY)
    (hlinks : t'.links = t.links) : s.calTaken t' z x y := by
  unfold State.calTaken State.calibrated State.occurred at h ⊢
  rwa [hstate, hcal, hx, hy, hlinks]

theorem State.oriented_target (s : State) (x : ShiftAxis) : (s.oriented x).target = x.target := by
  unfold State.oriented
  split <;> rfl

/-- A recenter step within the span marks the frame in progress (R36). -/
theorem State.useSample_recentered {s : State} (h : s.stab.state = .active) (hbacklog : 0 < s.stab.backlog) (hwindow : s.window = false)
    (hopen : spanIsOpen s.st.fip) (u v : Int) : ∃ f, (s.useSample u v).st.fip = some f ∧ f.flags.recentered = true := by
  rw [State.useSample_eq]
  generalize mapRates (s.setting ixOrientation) u v = m
  have hpanned := State.panned_stab_of_panning (.inl h) m.1 m.2
  have hstate : (s.panned m.1 m.2).stab.state = .active := by rw [hpanned, h]
  obtain ⟨f, hf, hfopen⟩ : spanIsOpen (s.panned m.1 m.2).st.fip :=
    spanIsOpen_kept.creditWatch (s := s.orientNow.panSample m.1 m.2) (by simpa using hopen) _
  have hbacklog' : 0 < ((s.panned m.1 m.2).angleSample m.1 m.2).stab.backlog := by
    rw [State.angleSample, if_pos hstate]
    simpa [hpanned] using hbacklog
  rw [State.calSample_of_other (by simp [hstate]), State.shiftSample_frame _ |>.2.2.2.2.1, State.recenterStep_of_due (by simpa using hstate)
    hbacklog' (by simpa [State.window] using hwindow)]
  exact ⟨{ f with flags := { f.flags with recentered := true } }, by simp [State.statRecentered, State.onFrame, hf, hfopen], rfl⟩

/-! ### A sample with nothing beside the integration -/

/-- Pan detection that leaves an axis not panning, its rate within the threshold. -/
theorem ShiftAxis.detect_within {x : ShiftAxis} {r thr : Int} {n : Nat} (hpan : x.pan = false) (hr : |r| ≤ thr) (hn : x.entry < n) :
    (x.detect r thr n).pan = false ∧ (x.detect r thr n).entry = 0 := by
  simp [ShiftAxis.detect, hpan, not_lt.2 hr, not_le.2 hn]

/-- An axis that does not pan, in a sample within the threshold with no recenter step due. -/
theorem State.takenAxis_still {s : State} {a : ShiftAxis} {r : Int} (bias : Int) (hpan : a.pan = false) (hr : |r| ≤ s.setting ixPanThreshold)
    (hentry : a.entry < s.settingNat ixPanCount) (hbacklog : s.stab.backlog = 0) :
    (s.takenAxis a r bias).theta = max (-2147483647) (min 2147483647
      (a.theta + (r * 16 - bias) - a.theta / 2 ^ s.settingNat ixLeakShift)) ∧
    (s.takenAxis a r bias).demand = ((s.takenAxis a r bias).theta * s.stab.gain).tdiv 16777216 ∧
    (s.takenAxis a r bias).target = max (-(s.setting ixShiftLimit)) (min (s.setting ixShiftLimit) (s.takenAxis a r bias).demand) ∧
    (s.takenAxis a r bias).excess = |(s.takenAxis a r bias).demand - (s.takenAxis a r bias).target| ∧
    (s.takenAxis a r bias).pan = false ∧ (s.takenAxis a r bias).entry = 0 := by
  obtain ⟨⟨hdetected, -⟩, htheta, hdemand, htarget, hexcess⟩ := s.takenAxis_taken a r bias
  obtain ⟨hpan', hentry'⟩ := (hdetected hpan hentry 0 (by simp [not_lt.2 hr])).1 (by omega)
  have hangle := htheta _ rfl
  rw [hpan', if_neg (by simp [hbacklog])] at hangle
  exact ⟨hangle, hdemand, htarget, hexcess, hpan', hentry'⟩

theorem State.oriented_of_same {s : State} (h : s.stab.orient = s.setting ixOrientation) (x : ShiftAxis) : s.oriented x = x := if_pos h

theorem State.orientNow_of_same {s : State} (h : s.stab.orient = s.setting ixOrientation) : s.orientNow = s := if_pos h

theorem State.shiftSample_onlyChanged (s : State) : onlyChanged [.stabilizer] s s.shiftSample := by
  refine ⟨by simp, by simp, fun y hy => ?_⟩
  cases y <;> simp [Part.same, State.dramByte] at hy ⊢

/-- With the orientation in force, no axis panning before or after, no fault and no recenter step due, a sample in Active moves the
Stabilizer alone: the credit condition stands. -/
theorem State.useSample_onlyChanged_of_still {s : State} (hactive : s.stab.state = .active) (hcause : s.stab.cause = .none)
    (horient : s.stab.orient = s.setting ixOrientation) (hbacklog : s.stab.backlog = 0) (hx : s.stab.x.pan = false) (hy : s.stab.y.pan = false)
    {u v : Int} {m : Int × Int} (hm : m = mapRates (s.setting ixOrientation) u v)
    (hx' : (s.stab.x.detect m.1 (s.setting ixPanThreshold) (s.settingNat ixPanCount)).pan = false)
    (hy' : (s.stab.y.detect m.2 (s.setting ixPanThreshold) (s.settingNat ixPanCount)).pan = false) :
    onlyChanged [.stabilizer] s (s.useSample u v) ∧ (s.useSample u v).outs = s.outs := by
  have hpan : s.panSample m.1 m.2 = s.withStab (fun b => { b with
      x := b.x.detect m.1 (s.setting ixPanThreshold) (s.settingNat ixPanCount),
      y := b.y.detect m.2 (s.setting ixPanThreshold) (s.settingNat ixPanCount) }) := if_pos (.inl hactive)
  have hpanned : s.panned m.1 m.2 = s.panSample m.1 m.2 := by
    rw [State.panned, State.orientNow_of_same horient, State.creditWatch, if_pos]
    rw [hpan]
    simp [State.creditCondition, hactive, hcause, hx, hy, hx', hy']
  have hangle : onlyChanged [.stabilizer] s ((s.panned m.1 m.2).angleSample m.1 m.2) := by
    rw [hpanned, hpan, State.angleSample, if_pos (by exact hactive)]
    exact onlyChanged_mono (onlyChanged_trans (State.withStab_onlyChanged _ _) (State.withStab_onlyChanged _ _)) (by simp)
  have hidle : ((s.panned m.1 m.2).angleSample m.1 m.2).recenterStep = (s.panned m.1 m.2).angleSample m.1 m.2 := by
    refine State.recenterStep_of_idle (.inr (.inl ?_))
    rw [hpanned, hpan, State.angleSample, if_pos (by exact hactive)]
    exact hbacklog
  have hstate : ((s.panned m.1 m.2).angleSample m.1 m.2).shiftSample.stab.state ≠ .calibrating := by
    rw [hpanned, hpan]
    simp [hactive]
  rw [State.useSample_eq, ← hm, hidle, State.calSample_of_other hstate]
  exact ⟨onlyChanged_mono (onlyChanged_trans hangle (State.shiftSample_onlyChanged _)) (by simp), by simp⟩

/-- Repeats below the limit stand as counted, with no fault. -/
theorem State.receivedStep_few {s : State} (h : s.askOnce.stab.cause = .none) {u v : Int} (h1 : (s.askOnce.counted u v).stab.rep1 < 255)
    (h2 : (s.askOnce.counted u v).stab.rep2 < 255) : (s.receivedStep u v).stab.cause = .none ∧
      (s.receivedStep u v).stab.rep1 = (s.askOnce.counted u v).stab.rep1 ∧
      (s.receivedStep u v).stab.rep2 = (s.askOnce.counted u v).stab.rep2 := by
  have hwatch := (s.askOnce.counted u v).useSample_watch u v
  have hcause : (s.askOnce.counted u v).stab.cause = .none := h
  rw [State.receivedStep_stab, State.watched_of_few h h1 h2]
  dsimp only
  exact ⟨hwatch.cause.trans hcause, hwatch.rep1, hwatch.rep2⟩

/-- Repeats at the limit are a fault (R130). -/
theorem State.receivedStep_many {s : State} (h : s.askOnce.stab.cause = .none) {u v : Int}
    (hmany : 255 ≤ (s.askOnce.counted u v).stab.rep1 ∨ 255 ≤ (s.askOnce.counted u v).stab.rep2) :
    s.gyroFaulted (s.receivedStep u v) (stuckCause (s.askOnce.counted u v).stab.rep1 (s.askOnce.counted u v).stab.rep2) := by
  have hwatched := State.watched_of_many h hmany
  have hcounted : (s.askOnce.counted u v).stab.state = s.stab.state := by simp [State.counted]
  refine (State.gyroFault_faulted (s.askOnce.counted u v) _).congr hcounted.symm
    ((s.receivedStep_parts u v).1.trans (congrArg State.links hwatched)) ?_
  rw [State.receivedStep_stab, hwatched]
  simp

/-- Settles O46: by the fault held, the repeats that the watch finds, and the Stabilizer's state. -/
theorem gyroSampleMovesTheShiftTarget : Obligations.GyroSampleMovesTheShiftTarget := by
  intro s u v g hgyro
  have hdue : s.dueSample = some (g - us 500) := by simp [State.dueSample, hgyro]
  have hexec (P : State → Prop) (h : P ((s.begin.reach (g - us 500)).receivedStep u.toInt v.toInt)) :
      completes (exec (.gyroSampleReceived u v) s) P := by
    change completes (s.timed s.dueSample (State.receivedStep u.toInt v.toInt)) P
    exact completes_timed hdue h
  refine ⟨?still, fun hcause => hexec _ ?fault, fun m hm hcause => hexec _ ?use⟩
  case fault =>
    have hwatched := State.watched_of_fault (s := (s.begin.reach (g - us 500)).askOnce) (by simpa using hcause) u.toInt v.toInt
    obtain ⟨-, -, -, honly⟩ := (s.begin.reach (g - us 500)).receivedStep_parts u.toInt v.toInt
    have hstab := (s.begin.reach (g - us 500)).receivedStep_stab u.toInt v.toInt
    rw [hwatched] at honly hstab
    refine ⟨by simp [State.receivedStep], onlyChanged_mono (onlyChanged_of_reach (onlyChanged_trans (State.askOnce_onlyChanged _) honly))
      (by simp), ?_, ?_, ?_, ?_⟩ <;> rw [hstab] <;> simp [hgyro]
  case use =>
    have hsound : (s.begin.reach (g - us 500)).askOnce.stab.cause = .none := by simpa using hcause
    obtain ⟨hlinks, hst, -, -⟩ := (s.begin.reach (g - us 500)).receivedStep_parts u.toInt v.toInt
    have hstab := (s.begin.reach (g - us 500)).receivedStep_stab u.toInt v.toInt
    obtain ⟨hmissed, hgyro'⟩ := State.watched_of_sound hsound u.toInt v.toInt
    have hsame := s.askOnce_counted_same (g - us 500) u.toInt v.toInt
    have hm' : mapRates ((s.begin.reach (g - us 500)).askOnce.setting ixOrientation) u.toInt v.toInt = m := by
      rw [hm]
      simp [State.setting]
    rw [hm'] at hstab
    refine ⟨by simp [State.receivedStep], by simp [hstab, hgyro', hgyro], by rw [hstab], by rw [hstab], by rw [hstab]; exact hmissed,
      fun h1 h2 => ?_, fun z r1 r2 hz hr1 hr2 => ?_⟩
    · have hfew1 : ((s.begin.reach (g - us 500)).askOnce.counted u.toInt v.toInt).stab.rep1 < 255 :=
        (repeats_le _ _ _).trans_lt (by simp; omega)
      have hfew2 : ((s.begin.reach (g - us 500)).askOnce.counted u.toInt v.toInt).stab.rep2 < 255 :=
        (repeats_le _ _ _).trans_lt (by simp; omega)
      rw [State.watched_of_few hsound hfew1 hfew2] at hstab hst hlinks
      refine ⟨fun hactive => ?_, fun hparked => ?_, fun z hcal hz => ?_⟩
      · have htaken := hsame.active hactive hm
        have htarget := hsame.stab
        rw [hstab, htaken]
        refine ⟨hsame.state.trans hactive, rfl, s.takenAxis_taken _ _ _, s.takenAxis_taken _ _ _, fun hidle => ?_, fun hdue hwindow => ?_,
          fun hwindow hres => ?_, fun hnone => ?_⟩
        · have hnot : ¬ (0 < s.stab.backlog ∧ s.window = false) := by
            rcases hidle with h | h <;> simp [h]
          exact ⟨if_neg hnot, if_neg hnot⟩
        · refine ⟨if_pos ⟨hdue, hwindow⟩, if_pos ⟨hdue, hwindow⟩, fun f hf hopen => ?_⟩
          rw [hst]
          exact State.useSample_recentered (hsame.state.trans hactive) (by rwa [htarget]) (hsame.window.trans hwindow)
            (by rw [hsame.st]; exact ⟨f, hf, hopen⟩) _ _
        · exact ⟨if_pos ⟨hwindow, hres⟩, if_pos ⟨hwindow, hres⟩⟩
        · have hnot : ¬ (s.window = true ∧ s.stab.resFlag = true) := by
            rcases hnone with h | h <;> simp [h]
          exact ⟨if_neg hnot, if_neg hnot⟩
      · have htaken := hsame.parked hparked hm
        rw [hstab, htaken]
        exact ⟨hsame.state.trans hparked, s.panDetected_detect _ _, s.panDetected_detect _ _, by simp, by simp [State.oriented_target], by simp,
          by simp [State.oriented_target]⟩
      · exact (hsame.calibrating hcal hm hz).congr (by rw [hstab]) (by rw [hstab]) (by rw [hstab]) (by rw [hstab]) hlinks
    · have hcounts : ((s.begin.reach (g - us 500)).askOnce.counted u.toInt v.toInt).stab.rep1 = r1 ∧
          ((s.begin.reach (g - us 500)).askOnce.counted u.toInt v.toInt).stab.rep2 = r2 := by
        subst hr1 hr2
        simp [State.counted, repeats, hz]
      refine ⟨fun h1 h2 => ?_, fun hmany => ?_⟩
      · have hfew := State.receivedStep_few hsound (hcounts.1.symm ▸ h1) (hcounts.2.symm ▸ h2)
        rwa [hcounts.1, hcounts.2] at hfew
      · have hfault := State.receivedStep_many hsound (by rw [hcounts.1, hcounts.2]; exact hmany)
        rw [hcounts.1, hcounts.2, stuckCause_eq r1 r2 hmany] at hfault
        exact hfault
  case still =>
    intro hactive hcause horient hzero h1 h2 hx hy hcount hu hv hbacklog hentryX hentryY
    refine hexec _ ?_
    have hm : (u.toInt, v.toInt) = mapRates (s.setting ixOrientation) u.toInt v.toInt := by
      rw [hzero]
      rfl
    have hfew : (s.begin.reach (g - us 500)).askOnce.watched u.toInt v.toInt =
        ((s.begin.reach (g - us 500)).askOnce.counted u.toInt v.toInt).useSample u.toInt v.toInt :=
      State.watched_of_few (by simpa using hcause) ((repeats_le _ _ _).trans_lt (by simp; omega)) ((repeats_le _ _ _).trans_lt (by simp; omega))
    have hasked := State.askOnce_onlyChanged (s.begin.reach (g - us 500))
    have houts := State.askOnce_outs (s.begin.reach (g - us 500))
    have hsame := s.askOnce_counted_same (g - us 500) u.toInt v.toInt
    have hcounted : onlyChanged [.stabilizer] (s.begin.reach (g - us 500)).askOnce
      ((s.begin.reach (g - us 500)).askOnce.counted u.toInt v.toInt) := State.withStab_onlyChanged _ _
    have hcounted' : ((s.begin.reach (g - us 500)).askOnce.counted u.toInt v.toInt).outs = (s.begin.reach (g - us 500)).askOnce.outs := rfl
    have hlast := (s.begin.reach (g - us 500)).receivedStep_stab u.toInt v.toInt
    obtain ⟨-, -, hput, honly⟩ := (s.begin.reach (g - us 500)).receivedStep_parts u.toInt v.toInt
    rw [hfew] at hlast hput honly
    have hzeroMissed : ((s.begin.reach (g - us 500)).askOnce.counted u.toInt v.toInt).stab.missed = 0 := rfl
    generalize (s.begin.reach (g - us 500)).askOnce.counted u.toInt v.toInt = c at hzeroMissed hsame hcounted hcounted' hlast hput honly
    have hnoX : (s.stab.x.detect u.toInt (s.setting ixPanThreshold) (s.settingNat ixPanCount)).pan = false :=
      (ShiftAxis.detect_within hx hu hentryX).1
    have hnoY : (s.stab.y.detect v.toInt (s.setting ixPanThreshold) (s.settingNat ixPanCount)).pan = false :=
      (ShiftAxis.detect_within hy hv hentryY).1
    obtain ⟨hused, hquiet⟩ := State.useSample_onlyChanged_of_still (s := c) (hsame.state.trans hactive) (by rw [hsame.stab, hcause])
      (by rw [hsame.setting, hsame.stab, horient]) (by rw [hsame.stab, hbacklog]) (by rw [hsame.stab, hx]) (by rw [hsame.stab, hy])
      (u := u.toInt) (v := v.toInt) (m := (u.toInt, v.toInt)) (by rw [hsame.setting]; exact hm)
      (by rw [hsame.setting, hsame.settingNat, hsame.stab]; exact hnoX) (by rw [hsame.setting, hsame.settingNat, hsame.stab]; exact hnoY)
    have hstab := hsame.active hactive hm
    rw [State.oriented_of_same horient, State.oriented_of_same horient] at hstab
    rw [hstab] at hput hlast
    have hgyroC : c.stab.gyro = some g := by rw [hsame.stab, hgyro]
    have hmap : mapRates ((s.begin.reach (g - us 500)).askOnce.setting ixOrientation) u.toInt v.toInt = (u.toInt, v.toInt) := by
      rw [hm]
      simp [State.setting]
    rw [hmap] at hlast
    refine ⟨by simp [State.receivedStep], by simp [hlast, hgyroC], ?_, by rw [hlast], by rw [hlast]; exact hzeroMissed, ?_, ?_⟩
    · exact onlyChanged_mono (onlyChanged_of_reach (onlyChanged_trans (onlyChanged_trans (onlyChanged_trans hasked hcounted) hused) honly))
        (by simp)
    · rw [hput, hlast, hquiet, hcounted', houts]
      simp [hsame.state, hactive]
    · rw [hlast]
      intro x hx'
      fin_cases hx'
      · exact State.takenAxis_still _ hx hu hentryX hbacklog
      · exact State.takenAxis_still _ hy hv hentryY hbacklog

end Sys2Proof.Machine
end

section
/-! The Burst Store's streams, slots and refresh (R136 to R156). -/

namespace Sys2Proof.Machine

/-! ### Slots -/

@[simp] theorem Store.slotAt_onSlot_ne (b : Store) {i j : Nat} (h : j ≠ i) (f : Slot → Slot) : (b.onSlot i f).slotAt j = b.slotAt j := by
  simp [Store.onSlot, Store.slotAt, modifyAt, List.getD_eq_getElem?_getD, h.symm]

theorem Store.slotAt_onSlot {b : Store} {i : Nat} {x : Slot} (h : b.slots[i]? = some x) (f : Slot → Slot) :
    (b.onSlot i f).slotAt i = f x := by
  simp [Store.onSlot, Store.slotAt, modifyAt, List.getD_eq_getElem?_getD, h]

@[simp] theorem Store.onSlot_same (b : Store) (i : Nat) (f : Slot → Slot) : (b.onSlot i f).streams = b.streams ∧
    (b.onSlot i f).fifos = b.fifos ∧ (b.onSlot i f).ends = b.ends ∧ (b.onSlot i f).cut = b.cut ∧ (b.onSlot i f).state = b.state ∧
    (b.onSlot i f).buf = b.buf ∧ (b.onSlot i f).remnant = b.remnant ∧ (b.onSlot i f).grant = b.grant ∧ (b.onSlot i f).wake = b.wake ∧
    (b.onSlot i f).backlog = b.backlog ∧ (b.onSlot i f).urgent = b.urgent ∧ (b.onSlot i f).trickle = b.trickle ∧
    (b.onSlot i f).startup = b.startup ∧ (b.onSlot i f).dram = b.dram :=
  ⟨rfl, rfl, rfl, rfl, rfl, rfl, rfl, rfl, rfl, rfl, rfl, rfl, rfl, rfl⟩

/-! ### The arbiter's choice and SelfRefresh, after each event of the store (R140, R145) -/

/-- The arbiter moves the grant and the ring pointers alone. -/
theorem State.arbitrate_eq (s : State) : ∃ g r1 r2, s.arbitrate = s.withStore (fun b => { b with grant := g, ring1 := r1, ring2 := r2 }) := by
  unfold State.arbitrate
  split
  · split
    · exact ⟨s.store.grant, s.store.ring1, s.store.ring2, rfl⟩
    · exact ⟨_, _, _, rfl⟩
  · exact ⟨s.store.grant, s.store.ring1, s.store.ring2, rfl⟩

/-- What settling leaves of the store. -/
@[simp] theorem State.storeSettle_store (s : State) : s.storeSettle.store.streams = s.store.streams ∧
    s.storeSettle.store.fifos = s.store.fifos ∧ s.storeSettle.store.ends = s.store.ends ∧ s.storeSettle.store.buf = s.store.buf ∧
    s.storeSettle.store.remnant = s.store.remnant ∧ s.storeSettle.store.urgent = s.store.urgent ∧
    s.storeSettle.store.wake = s.store.wake ∧ s.storeSettle.store.startup = s.store.startup := by
  obtain ⟨g, r1, r2, h⟩ := s.arbitrate_eq
  rw [State.storeSettle, h]
  unfold State.enterSelfRefresh
  split <;> simp

@[simp] theorem State.storeSettle_slotAt (s : State) (i : Nat) : s.storeSettle.store.slotAt i = s.store.slotAt i := by
  simp [Store.slotAt]

theorem State.storeSettle_onlyChanged (s : State) : onlyChanged [.store] s s.storeSettle := by
  refine ⟨by simp, by simp, fun y hy => ?_⟩
  cases y <;> simp [Part.same, State.dramByte] at hy ⊢

theorem State.withStore_onlyChanged (s : State) (f : Store → Store) (h : (f s.store).dram = s.store.dram) :
    onlyChanged [.store] s (s.withStore f) := by
  refine ⟨rfl, rfl, fun y hy => ?_⟩
  cases y <;> simp [Part.same, State.dramByte, h] at hy ⊢

/-- With work owed, a stream open or a slot Filling, the store stays as the arbiter leaves it. -/
theorem State.enterSelfRefresh_stays {s : State} (h : s.fc.cadence ≠ .still ∨ s.store.streams ≠ PerPort.all none ∨
    (s.store.firstSlot .filling).isSome ∨ s.store.buf ≠ [] ∨ s.store.backlog ≠ 0 ∨ s.store.grant.isSome ∨ s.store.wake.isSome) :
    s.enterSelfRefresh = s := by
  refine if_neg ?_
  rintro ⟨-, hcadence, hstreams, hfilling, hbuf, hbacklog, hgrant, hwake⟩
  rw [Store.noStreams_iff] at hstreams
  rcases h with h | h | h | h | h | h | h
  · exact h hcadence
  · exact h hstreams
  · simp [Option.isNone_iff_eq_none.1 hfilling] at h
  · exact h (List.isEmpty_iff.1 hbuf)
  · exact h hbacklog
  · simp [Option.isNone_iff_eq_none.1 hgrant] at h
  · simp [Option.isNone_iff_eq_none.1 hwake] at h

theorem State.arbitrate_of_busy {s : State} (h : s.dramFree = false) : s.arbitrate = s := if_neg (by simp [h])

/-- A grant in progress goes on. -/
theorem State.storeSettle_of_grant {s : State} (h : s.store.grant.isSome) : s.storeSettle = s := by
  have hbusy : s.dramFree = false := by
    simp [State.dramFree, Option.ne_none_iff_isSome.2 h]
  rw [State.storeSettle, State.arbitrate_of_busy hbusy]
  exact State.enterSelfRefresh_stays (by simp [h])

theorem State.arbitrate_store (s : State) : s.arbitrate.store.state = s.store.state ∧ s.arbitrate.store.trickle = s.store.trickle ∧
    s.arbitrate.store.streams = s.store.streams ∧ s.arbitrate.store.slots = s.store.slots ∧ s.arbitrate.store.buf = s.store.buf ∧
    s.arbitrate.store.backlog = s.store.backlog ∧ s.arbitrate.store.wake = s.store.wake ∧ s.arbitrate.fc = s.fc := by
  obtain ⟨g, r1, r2, h⟩ := s.arbitrate_eq
  rw [h]
  exact ⟨rfl, rfl, rfl, rfl, rfl, rfl, rfl, rfl⟩

/-- Out of STILL, with a stream open, a slot Filling, a byte in the buffer or a refresh owed, the store's state stays. -/
theorem State.storeSettle_stays {s : State} (h : s.fc.cadence ≠ .still ∨ s.store.streams ≠ PerPort.all none ∨
    (s.store.firstSlot .filling).isSome ∨ s.store.buf ≠ [] ∨ s.store.backlog ≠ 0 ∨ s.store.wake.isSome) :
    s.storeSettle = s.arbitrate := by
  obtain ⟨-, -, hstreams, hslots, hbuf, hbacklog, hwake, hfc⟩ := s.arbitrate_store
  refine State.enterSelfRefresh_stays ?_
  rw [hfc, hstreams, hbuf, hbacklog, hwake, Store.firstSlot, hslots]
  rcases h with h | h | h | h | h | h
  · exact .inl h
  · exact .inr (.inl h)
  · exact .inr (.inr (.inl h))
  · exact .inr (.inr (.inr (.inl h)))
  · exact .inr (.inr (.inr (.inr (.inl h))))
  · exact .inr (.inr (.inr (.inr (.inr (.inr h)))))

/-! ### The closing of a stream (R149, R152) -/

theorem State.streamClose_of_some {s : State} {p : Port} {x : Stream} (h : s.store.streams.get p = some x) (reason : EndReason)
    (drained : SlotState) : s.streamClose p reason drained = s.withStore (fun b => ({ b with
      streams := b.streams.set p none, fifos := b.fifos.set p [],
      ends := b.ends.set p (some { slot := x.slot, kind := x.kind, reason := reason }) }.onSlot x.slot (fun y =>
        y.streamGone x.kind drained)).discardGrant p) := by
  rw [State.streamClose, h]

/-- Its record gone, its last end noted, its slot's entry as its kind asks. -/
theorem State.streamClose_closed {s : State} {p : Port} {x : Stream} (h : s.store.streams.get p = some x) (reason : EndReason)
    (drained : SlotState) : s.streamClosed (s.streamClose p reason drained) p x reason drained := by
  rw [State.streamClose_of_some h]
  refine ⟨PerPort.get_set .., PerPort.get_set .., PerPort.get_set .., fun q hq => ⟨PerPort.get_set_ne _ _ hq, PerPort.get_set_ne _ _ hq,
    PerPort.get_set_ne _ _ hq⟩, fun i hi => Store.slotAt_onSlot_ne _ hi _, fun y hy => ?_⟩
  have hslot := Store.slotAt_onSlot (b := { s.store with
      streams := s.store.streams.set p none, fifos := s.store.fifos.set p [],
      ends := s.store.ends.set p (some { slot := x.slot, kind := x.kind, reason := reason }) }) hy (fun y => y.streamGone x.kind drained)
  refine ⟨fun hkind => hslot.trans ?_, fun hkind => ⟨fun hstate hpins => hslot.trans ?_, fun hnot => hslot.trans ?_⟩⟩
  · simp [Slot.streamGone, hkind]
  · simp [Slot.streamGone, hkind, Slot.unpin, hstate, hpins]
  · have : ¬ (y.state = .releasing ∧ y.pins ≤ 1) := by
      rintro ⟨h1, h2⟩
      rcases hnot with h | h
      · exact h h1
      · omega
    simp [Slot.streamGone, hkind, Slot.unpin, this]

/-- What is told of a closed stream is read from the streams, the FIFOs, the last ends and the slots. -/
theorem State.streamClosed.congr {s t u : State} {p : Port} {x : Stream} {reason : EndReason} {drained : SlotState}
    (h : s.streamClosed t p x reason drained) (hstreams : u.store.streams = t.store.streams) (hfifos : u.store.fifos = t.store.fifos)
    (hends : u.store.ends = t.store.ends) (hslots : u.store.slots = t.store.slots) : s.streamClosed u p x reason drained := by
  unfold State.streamClosed Store.slotAt at h ⊢
  rwa [hstreams, hfifos, hends, hslots]

theorem State.streamClosed.from {s s' t : State} {p : Port} {x : Stream} {reason : EndReason} {drained : SlotState}
    (h : s'.streamClosed t p x reason drained) (hstreams : ∀ q, q ≠ p → s'.store.streams.get q = s.store.streams.get q)
    (hfifos : ∀ q, q ≠ p → s'.store.fifos.get q = s.store.fifos.get q)
    (hends : s'.store.ends = s.store.ends) (hslots : s'.store.slots = s.store.slots) : s.streamClosed t p x reason drained := by
  unfold State.streamClosed Store.slotAt at h ⊢
  obtain ⟨hstream, hfifo, hend, hothers, hslot, hentry⟩ := h
  rw [hslots] at hslot hentry
  rw [hends] at hothers
  exact ⟨hstream, hfifo, hend, fun q hq => by rw [← hstreams q hq, ← hfifos q hq]; exact hothers q hq, hslot, hentry⟩

theorem State.streamClose_onlyChanged (s : State) (p : Port) (reason : EndReason) (drained : SlotState) :
    onlyChanged [.store] s (s.streamClose p reason drained) := by
  refine ⟨by simp, by simp, fun y hy => ?_⟩
  cases y <;> simp [Part.same, State.dramByte] at hy ⊢

/-- A grant in progress for the stream is marked. -/
theorem State.streamClose_grant {s : State} {p : Port} {x : Stream} (h : s.store.streams.get p = some x) {g : Grant}
    (hg : s.store.grant = some g) (hwho : g.who = .stream p) (reason : EndReason) (drained : SlotState) :
    (s.streamClose p reason drained).store.grant = some { g with discard := true } := by
  rw [State.streamClose_of_some h]
  simp [State.withStore, Store.discardGrant, Store.onSlot, hg, hwho]

/-! ### Events raised to one port (R183) -/

theorem State.raiseTo_raised (s : State) (p : Port) (k : Kind) : (s.raiseTo p k).pends p k ∧ (s.raiseTo p k).occurred k ∧
    ∀ q, q ≠ p → (s.raiseTo p k).links.pend.get q = s.links.pend.get q := by
  refine ⟨?_, ?_, fun q hq => PerPort.get_set_ne _ _ hq⟩
  · rw [State.pends, show (s.raiseTo p k).links.pend.get p = s.links.pend.get p ||| k.bit from PerPort.get_set ..]
    simp [Kind.bit_pos]
  · rw [State.occurred, show (s.raiseTo p k).links.occ = s.links.occ ||| k.bit from rfl]
    simp [Kind.bit_pos]

theorem State.raiseTo_onlyChanged (s : State) (p : Port) (k : Kind) : onlyChanged [.events] s (s.raiseTo p k) := by
  refine ⟨by simp, by simp, fun y hy => ?_⟩
  cases y <;> simp [Part.same, State.dramByte] at hy ⊢

/-! ### CLOSE STREAM, REJOIN and the stall limit (R152, R153) -/

theorem State.closeStream_of_none {s : State} {p : Port} (h : s.store.streams.get p = none) : s.closeStream p = s := if_neg (by simp [h])

theorem State.closeStream_of_some {s : State} {p : Port} {x : Stream} (h : s.store.streams.get p = some x) :
    s.closeStream p = (s.streamClose p .closed .full).storeSettle := if_pos (by simp [h])

/-! ### Clock edges (R148, R149) -/

/-- A stream after its stall timer has followed its FIFO. -/
def Stream.stalled (x : Stream) (full clock : Nat) : Stream :=
  { x with stall := if 14336 < full then some (x.stall.getD clock) else none }

theorem State.stallUpdate_of_some {s : State} {p : Port} {x : Stream} (h : s.store.streams.get p = some x) : s.stallUpdate p =
    s.withStore (fun b => { b with
      streams := b.streams.set p (some (x.stalled (b.fifos.get p).length s.clock)) }) := by
  rw [State.stallUpdate, h]
  rfl

/-- A byte taken from the FIFO, the stall timer brought up to date. -/
def State.byteTaken (s : State) (p : Port) (v : Byte) (rest : List Byte) : State :=
  ((s.put (.stream p (some v))).withStore (fun b => { b with fifos := b.fifos.set p rest })).stallUpdate p

theorem State.streamByteOut_of_cons {s : State} {p : Port} {v : Byte} {rest : List Byte} (h : s.store.fifos.get p = v :: rest) :
    s.streamByteOut p = ((s.byteTaken p v rest).streamDone p).storeSettle := by
  rw [State.streamByteOut, h]
  rfl

theorem State.byteTaken_of_some {s : State} {p : Port} {x : Stream} (h : s.store.streams.get p = some x) (v : Byte) (rest : List Byte) :
    s.byteTaken p v rest = (s.put (.stream p (some v))).withStore (fun b => { b with
      fifos := b.fifos.set p rest, streams := b.streams.set p (some (x.stalled rest.length s.clock)) }) := by
  rw [State.byteTaken, State.stallUpdate_of_some (x := x) (by exact h)]
  simp [State.withStore]

theorem State.streamDone_of_end {s : State} {p : Port} {x : Stream} (h : s.store.streams.get p = some x) (hend : x.next = x.endOff)
    (hfifo : s.store.fifos.get p = []) : s.streamDone p = (s.streamClose p .done .spent).raiseTo p .streamEnded := by
  rw [State.streamDone, h]
  exact if_pos ⟨hend, by rw [hfifo]; rfl⟩

theorem State.streamDone_of_more {s : State} {p : Port} {x : Stream} (h : s.store.streams.get p = some x)
    (hmore : x.next ≠ x.endOff ∨ s.store.fifos.get p ≠ []) : s.streamDone p = s := by
  rw [State.streamDone, h]
  refine if_neg ?_
  rintro ⟨hend, hempty⟩
  rcases hmore with hmore | hmore
  · exact hmore hend
  · exact hmore (List.isEmpty_iff.1 hempty)

/-- Settles O51: by whether a stream is open, and by what the FIFO and the stream hold at a clock edge. -/
theorem streamsAreClosedCutAndTaken : Obligations.StreamsAreClosedCutAndTaken := by
  refine ⟨fun s p => ⟨fun hnone => ?none, ?rejoin, fun x hx => ⟨?close, fun d hd => ?cut⟩⟩,
    fun s p => ⟨fun hempty => ?empty, fun v rest x hfifo hx => ?byte⟩⟩
  case none =>
    have hsame : s.begin.closeStream p = s.begin := State.closeStream_of_none hnone
    exact answers_refused (show exec (.closeStream p []) s = .next ((answer s.begin .ok).sendTo p) from hsame ▸ rfl)
  case rejoin =>
    exact answers_of_sendTo (answer (s.begin.withStore (fun b => { b with cut := b.cut.set p false })) .ok) rfl rfl
      (onlyChanged_of_begin (State.withStore_onlyChanged _ _ rfl)) rfl
  case close =>
    have hclosed := State.streamClose_closed (s := s.begin) hx .closed .full
    have hexec : exec (.closeStream p []) s = .next ((answer (s.begin.streamClose p .closed .full).storeSettle .ok).sendTo p) :=
      State.closeStream_of_some (s := s.begin) hx ▸ rfl
    refine answers_of_sendTo (answer (s.begin.streamClose p .closed .full).storeSettle .ok) hexec rfl
      (onlyChanged_mono (onlyChanged_of_begin (onlyChanged_trans (State.streamClose_onlyChanged _ _ _ _) (State.storeSettle_onlyChanged _)))
        (by simp)) ⟨?_, by simp, fun g hg hwho => ?_⟩
    · exact (State.streamClosed.from hclosed (fun q _ => rfl) (fun q _ => rfl) rfl rfl).congr (by simp) (by simp) (by simp) (by simp)
    · have hgrant := State.streamClose_grant (s := s.begin) hx hg hwho .closed .full
      rw [State.storeSettle_of_grant (by rw [hgrant]; rfl)]
      simpa using hgrant
  case cut =>
    have hdue : s.dueStall p = some (d + ms (s.settingNat ixStallLimit)) := by simp [State.dueStall, hx, hd]
    change completes (execStallLimitExpiry p s) _
    refine completes_timed hdue ?_
    generalize d + ms (s.settingNat ixStallLimit) = e
    have hclosed := State.streamClose_closed (s := s.begin.reach e) hx .cut .full
    obtain ⟨hpends, hoccurred, hothers⟩ := (((s.begin.reach e).streamClose p .cut .full).withStore (fun b => { b with
      cut := b.cut.set p true })).raiseTo_raised p .streamCut
    refine ⟨by simp [State.streamCut], ?_, ?_, ?_, ?_, fun q hq => ?_, ?_⟩
    · exact (State.streamClosed.from hclosed (fun q _ => rfl) (fun q _ => rfl) rfl rfl).congr (by simp [State.streamCut])
        (by simp [State.streamCut]) (by simp [State.streamCut]) (by simp [State.streamCut])
    · simp [State.streamCut]
    · simpa [State.streamCut, State.pends] using hpends
    · simpa [State.streamCut, State.occurred] using hoccurred
    · have := hothers q hq
      simpa [State.streamCut] using this
    · exact onlyChanged_mono (onlyChanged_of_reach (onlyChanged_trans (onlyChanged_trans (onlyChanged_trans
        (State.streamClose_onlyChanged _ p .cut .full) (State.withStore_onlyChanged _ (fun b => { b with cut := b.cut.set p true }) rfl))
        (State.raiseTo_onlyChanged _ p .streamCut)) (State.storeSettle_onlyChanged _))) (by simp)
  case empty =>
    have hout : s.begin.streamByteOut p = s.begin.put (.stream p none) := by
      rw [State.streamByteOut, show s.begin.store.fifos.get p = [] from hempty]
    refine ⟨s.begin.streamByteOut p, rfl, ?_, ?_⟩
    · rw [hout]
      rfl
    · rw [hout]
      exact onlyChanged_of_begin (State.put_onlyChanged _ _)
  case byte =>
    have htaken := State.byteTaken_of_some (s := s.begin) hx v rest
    have hstream : (s.begin.byteTaken p v rest).store.streams.get p = some (x.stalled rest.length s.clock) := by
      rw [htaken]
      exact PerPort.get_set ..
    have hleft : (s.begin.byteTaken p v rest).store.fifos.get p = rest := by
      rw [htaken]
      exact PerPort.get_set ..
    have hparts : onlyChanged [.store] s (s.begin.byteTaken p v rest) := by
      rw [htaken]
      exact onlyChanged_mono (onlyChanged_of_begin (onlyChanged_trans (State.put_onlyChanged _ _) (State.withStore_onlyChanged _ _ rfl)))
        (by simp)
    have houts : (s.begin.byteTaken p v rest).outs = [.stream p (some v)] ∧ (s.begin.byteTaken p v rest).store.cut = s.store.cut ∧
        (s.begin.byteTaken p v rest).store.slots = s.store.slots ∧ (s.begin.byteTaken p v rest).store.ends = s.store.ends := by
      rw [htaken]
      exact ⟨rfl, rfl, rfl, rfl⟩
    obtain ⟨hout, hcut, hslots, hends⟩ := houts
    refine ⟨s.begin.streamByteOut p, rfl, ?_⟩
    rw [State.streamByteOut_of_cons (s := s.begin) hfifo]
    by_cases hend : x.next = x.endOff ∧ rest = []
    · obtain ⟨hnext, hrest⟩ := hend
      have hclosed := State.streamClose_closed hstream .done .spent
      obtain ⟨hpends, hoccurred, hothers⟩ := ((s.begin.byteTaken p v rest).streamClose p .done .spent).raiseTo_raised p .streamEnded
      rw [State.streamDone_of_end hstream hnext (hleft.trans hrest)]
      refine ⟨by simpa using hout, ?_, by simpa using hcut, fun _ _ => ⟨?_, ?_, ?_, fun q hq => ?_⟩, fun h => ?_⟩
      · exact onlyChanged_mono (onlyChanged_trans (onlyChanged_trans (onlyChanged_trans hparts (State.streamClose_onlyChanged _ p .done .spent))
          (State.raiseTo_onlyChanged _ p .streamEnded)) (State.storeSettle_onlyChanged _)) (by simp)
      · refine ((State.streamClosed.from hclosed (s := s) (fun q hq => ?_) (fun q hq => ?_) hends hslots).congr
          (u := (((s.begin.byteTaken p v rest).streamClose p .done .spent).raiseTo p .streamEnded).storeSettle) (by simp) (by simp) (by simp)
          (by simp) : _)
        · rw [htaken]
          exact PerPort.get_set_ne _ _ hq
        · rw [htaken]
          exact PerPort.get_set_ne _ _ hq
      · simpa [State.pends] using hpends
      · simpa [State.occurred] using hoccurred
      · have hlinks : (s.begin.byteTaken p v rest).links = s.links := by simp [htaken]
        simpa [hlinks] using hothers q hq
      · rcases h with h | h
        · exact absurd hrest h
        · exact absurd hnext h
    · have hmore : x.next ≠ x.endOff ∨ rest ≠ [] := not_and_or.1 hend
      rw [State.streamDone_of_more hstream (hmore.imp id (fun h => by rwa [hleft]))]
      refine ⟨by simpa using hout, ?_, by simpa using hcut, fun hrest hnext => absurd ⟨hnext, hrest⟩ hend, fun _ => ⟨by simpa using hleft,
        by simpa using hslots, ?_, by rw [(State.storeSettle_store _).1]; exact hstream⟩⟩
      · exact onlyChanged_mono (onlyChanged_trans hparts (State.storeSettle_onlyChanged _)) (by simp)
      · exact (onlyChanged_trans hparts (State.storeSettle_onlyChanged _)).2.2 .events (by simp)

/-! ### The opening of a stream (R149 to R151) -/

theorem State.openRefusal_of_cut {s : State} {p : Port} (h : s.store.cut.get p = true) : s.openRefusal p = some .portCut := if_pos h

theorem State.openRefusal_of_other {s : State} {p : Port} (hcut : s.store.cut.get p = false)
    (h : (s.store.streams.get p).isSome ∨ s.store.state = .initialising) : s.openRefusal p = some .wrongState := by
  unfold State.openRefusal
  rw [if_neg (by simp [hcut])]
  split_ifs with hopen hinit
  · rfl
  · rfl
  · exact absurd h (not_or.2 ⟨hopen, hinit⟩)

theorem State.openRefusal_of_free {s : State} {p : Port} (hcut : s.store.cut.get p = false) (hopen : s.store.streams.get p = none)
    (hinit : s.store.state ≠ .initialising) : s.openRefusal p = none := by
  rw [State.openRefusal, if_neg (by simp [hcut]), if_neg (by simp [hopen]), if_neg hinit]

theorem exec_openDrain_refused {i : Byte} {p : Port} {s : State} {st : Status} (h : s.begin.drainRefusal p i.toNat = some st) :
    exec (.openDrain p [i]) s = .next ((answer s.begin st).sendTo p) := by
  change execOpenDrain p [i] s = _
  rw [execOpenDrain, show lengthIs 1 [i] = true from rfl, State.request_ok, firstByte_cons, h]

theorem exec_openDrain_taken {i : Byte} {p : Port} {s : State} (h : s.begin.drainRefusal p i.toNat = none) :
    exec (.openDrain p [i]) s = .next ((answer (s.begin.drainOpen p i.toNat) .later).sendTo p) := by
  change execOpenDrain p [i] s = _
  rw [execOpenDrain, show lengthIs 1 [i] = true from rfl, State.request_ok, firstByte_cons, h]

theorem bigEndian_take_of_append {a b : List Byte} {n : Nat} (h : a.length = n) : bigEndian ((a ++ b).take n) = bigEndian (a.take n) := by
  rw [← h, List.take_left, List.take_length]

section
variable {i : Byte} {a l : List Byte} (ha : a.length = 4) (hl : l.length = 4)
include ha

theorem reviewOffset_eq : reviewOffset (i :: a ++ l) = field a 0 4 := by
  simpa [reviewOffset, field] using bigEndian_take_of_append (b := l) ha

theorem reviewLength_eq : reviewLength (i :: a ++ l) = field l 0 4 := by
  simp [reviewLength, field, ha]

include hl

theorem exec_openReview_refused {p : Port} {s : State} {st : Status}
    (h : s.begin.reviewRefusal p i.toNat (field a 0 4) (field l 0 4) = some st) :
    exec (.openReview p (i :: a ++ l)) s = .next ((answer s.begin st).sendTo p) := by
  have hok : lengthIs 9 (i :: a ++ l) = true := by simp [lengthIs, ha, hl]
  change execOpenReview p (i :: a ++ l) s = _
  rw [execOpenReview, hok, State.request_ok, List.cons_append, firstByte_cons, ← List.cons_append, reviewOffset_eq ha, reviewLength_eq ha, h]

theorem exec_openReview_taken {p : Port} {s : State} (h : s.begin.reviewRefusal p i.toNat (field a 0 4) (field l 0 4) = none) :
    exec (.openReview p (i :: a ++ l)) s = .next ((answer (s.begin.reviewOpen p i.toNat (field a 0 4) (field l 0 4))
      (if s.begin.reviewSpan i.toNat (field a 0 4) (field l 0 4) = field l 0 4 then .later else .adjusted)).sendTo p) := by
  have hok : lengthIs 9 (i :: a ++ l) = true := by simp [lengthIs, ha, hl]
  change execOpenReview p (i :: a ++ l) s = _
  rw [execOpenReview, hok, State.request_ok, List.cons_append, firstByte_cons, ← List.cons_append, reviewOffset_eq ha, reviewLength_eq ha, h]

end

/-! The checks in order (R150, R151). -/

theorem SlotState.reviewable_iff (x : SlotState) : x.reviewable = true ↔ x ∈ [SlotState.full, .draining, .spent] := by
  cases x <;> simp [SlotState.reviewable]

theorem State.drainRefusal_of_open {s : State} {p : Port} {i : Nat} (hi : i ≤ 31) {st : Status} (h : s.openRefusal p = some st) :
    s.drainRefusal p i = some st := by
  rw [State.drainRefusal, if_neg (not_lt.2 hi), h]

theorem State.drainRefusal_of_slot {s : State} {p : Port} {i : Nat} (hi : i ≤ 31) (h : s.openRefusal p = none) :
    s.drainRefusal p i = if (s.store.slotAt i).state = .full then none else some .wrongState := by
  rw [State.drainRefusal, if_neg (not_lt.2 hi), h]

theorem State.reviewRefusal_of_open {s : State} {p : Port} {i n m : Nat} (hi : i ≤ 31) (hm : m ≠ 0) {st : Status}
    (h : s.openRefusal p = some st) : s.reviewRefusal p i n m = some st := by
  rw [State.reviewRefusal, if_neg (by omega), h]

theorem State.reviewRefusal_of_slot {s : State} {p : Port} {i n m : Nat} (hi : i ≤ 31) (hm : m ≠ 0) (h : s.openRefusal p = none) :
    s.reviewRefusal p i n m = if !(s.store.slotAt i).state.reviewable then some .wrongState
      else if (s.store.slotAt i).bytes ≤ n then some .badArgument else none := by
  rw [State.reviewRefusal, if_neg (by omega), h]

/-! The store when a stream has opened. -/

/-- A stream's record and its empty FIFO in place, the store out of SelfRefresh. -/
def State.streamPut (s : State) (p : Port) (x : Stream) : State :=
  s.leaveSelfRefresh.withStore (fun b => { b with streams := b.streams.set p (some x), fifos := b.fifos.set p [] })

theorem State.streamOpen_eq (s : State) (p : Port) (kind : StreamKind) (slot first endOff : Nat) :
    s.streamOpen p kind slot first endOff =
      ((s.streamPut p { kind := kind, slot := slot, next := first, endOff := endOff, stall := none }).streamDone p).storeSettle := rfl

theorem State.leaveSelfRefresh_store (s : State) : s.leaveSelfRefresh.store.streams = s.store.streams ∧
    s.leaveSelfRefresh.store.fifos = s.store.fifos ∧ s.leaveSelfRefresh.store.ends = s.store.ends ∧
    s.leaveSelfRefresh.store.buf = s.store.buf ∧ s.leaveSelfRefresh.store.remnant = s.store.remnant ∧
    s.leaveSelfRefresh.store.grant = s.store.grant := by
  unfold State.leaveSelfRefresh
  split <;> simp

theorem State.leaveSelfRefresh_of_selfRefresh {s : State} (h : s.store.state = .selfRefresh) : s.leaveSelfRefresh = s.withStore (fun b =>
    { b with state := .ready, backlog := 3, urgent := true, trickle := some (s.clock + 10 * s.settingNat ixRefreshPeriod),
             wake := some (s.clock + us 1) }) := if_pos h

theorem State.leaveSelfRefresh_state {s : State} (h : s.store.state ≠ .initialising) : s.leaveSelfRefresh.store.state = .ready := by
  unfold State.leaveSelfRefresh
  split
  · rfl
  · next hother =>
    cases hstate : s.store.state
    · exact absurd hstate h
    · rfl
    · exact absurd hstate hother

theorem State.leaveSelfRefresh_onlyChanged (s : State) : onlyChanged [.store] s s.leaveSelfRefresh := by
  refine ⟨by simp, by simp, fun y hy => ?_⟩
  cases y <;> simp [Part.same, State.dramByte] at hy ⊢

theorem State.streamPut_onlyChanged (s : State) (p : Port) (x : Stream) : onlyChanged [.store] s (s.streamPut p x) :=
  onlyChanged_mono (onlyChanged_trans s.leaveSelfRefresh_onlyChanged (State.withStore_onlyChanged _ _ rfl)) (by simp)

theorem State.streamPut_get (s : State) (p : Port) (x : Stream) : (s.streamPut p x).store.streams.get p = some x ∧
    (s.streamPut p x).store.fifos.get p = [] := ⟨PerPort.get_set .., PerPort.get_set ..⟩

theorem State.streamPut_store (s : State) (p : Port) (x : Stream) :
    (s.streamPut p x).store.streams = s.store.streams.set p (some x) ∧ (s.streamPut p x).store.fifos = s.store.fifos.set p [] ∧
    (s.streamPut p x).store.ends = s.store.ends ∧ (s.streamPut p x).store.cut = s.store.cut ∧
    (∀ i, (s.streamPut p x).store.slotAt i = s.store.slotAt i) ∧ (s.streamPut p x).store.slots = s.store.slots := by
  obtain ⟨hstreams, hfifos, hends, -⟩ := s.leaveSelfRefresh_store
  refine ⟨by simp [State.streamPut, hstreams], by simp [State.streamPut, hfifos], hends, by simp [State.streamPut], fun i => ?_,
    by simp [State.streamPut]⟩
  simp [State.streamPut, Store.slotAt]

/-- A stream with bytes to send opens on its slot. -/
theorem State.streamPut_opened {s : State} {p : Port} {x : Stream} {y : Slot} (f : Slot → Slot) (hy : s.store.slots[x.slot]? = some y)
    (hinit : s.store.state ≠ .initialising) (hbytes : x.next ≠ x.endOff) :
    s.streamOpened ((((s.withStore (fun b => b.onSlot x.slot f)).streamPut p x).streamDone p).storeSettle) p x (f y) := by
  have hmore := State.streamDone_of_more ((s.withStore (fun b => b.onSlot x.slot f)).streamPut_get p x).1 (.inl hbytes)
  obtain ⟨hstreams, hfifos, hends, hcut, hslots, -⟩ := (s.withStore (fun b => b.onSlot x.slot f)).streamPut_store p x
  have hopen : ((s.withStore (fun b => b.onSlot x.slot f)).streamPut p x).store.streams ≠ PerPort.all none := by
    intro h
    have hget := ((s.withStore (fun b => b.onSlot x.slot f)).streamPut_get p x).1
    rw [h, PerPort.get_all] at hget
    exact absurd hget (by simp)
  have hstays := State.storeSettle_stays (.inr (.inl hopen))
  obtain ⟨hstate, htrickle, -⟩ := ((s.withStore (fun b => b.onSlot x.slot f)).streamPut p x).arbitrate_store
  rw [← hstays] at hstate htrickle
  rw [hmore]
  refine ⟨hstate.trans (State.leaveSelfRefresh_state (s := s.withStore _) hinit), by simp [State.streamPut_get], by simp [State.streamPut_get],
    ?_, fun i hi => ?_, fun q hq => ⟨?_, ?_⟩, by simp [hends], by simp [hcut], ?_, fun hself => ?_⟩
  · rw [State.storeSettle_slotAt, hslots]
    exact Store.slotAt_onSlot hy f
  · rw [State.storeSettle_slotAt, hslots]
    exact Store.slotAt_onSlot_ne _ hi f
  · rw [(State.storeSettle_store _).1, hstreams]
    exact PerPort.get_set_ne _ _ hq
  · rw [(State.storeSettle_store _).2.1, hfifos]
    exact PerPort.get_set_ne _ _ hq
  · exact (onlyChanged_trans (onlyChanged_trans (State.withStore_onlyChanged s (fun b => b.onSlot x.slot f) rfl)
      (State.streamPut_onlyChanged _ p x)) (State.storeSettle_onlyChanged _)).2.2 .events (by simp)
  · have hleft := State.leaveSelfRefresh_of_selfRefresh (s := s.withStore (fun b => b.onSlot x.slot f)) hself
    rw [htrickle]
    refine ⟨?_, ?_, ?_, ?_⟩ <;> simp [State.streamPut, hleft, State.settingNat, State.setting]

/-- The sending of the answer leaves an opened stream as it is. -/
theorem State.streamOpened.sendTo {s : State} {x : Answer} {p q : Port} {y : Stream} {entry : Slot}
    (h : s.begin.streamOpened x.state p y entry) : s.streamOpened (x.sendTo q) p y entry := by
  obtain ⟨hstate, hstream, hfifo, hentry, hslots, hports, hends, hcut, hevents, hself⟩ := h
  exact ⟨hstate, hstream, hfifo, hentry, hslots, hports, hends, hcut, hevents, hself⟩

/-! ### OPEN DRAIN and OPEN REVIEW (R150, R151) -/

theorem State.openRefusal_begin {s : State} {p : Port} (hcut : s.store.cut.get p = false) (hopen : s.store.streams.get p = none)
    (hinit : s.store.state ≠ .initialising) : s.begin.openRefusal p = none := State.openRefusal_of_free hcut hopen hinit

theorem State.drainOpen_opened {s : State} {p : Port} {i : Nat} {x : Slot} (hx : s.store.slots[i]? = some x)
    (hinit : s.store.state ≠ .initialising) (hbytes : 0 < x.bytes) : s.streamOpened (s.drainOpen p i) p
      { kind := .drain, slot := i, next := 0, endOff := x.bytes, stall := none } { x with state := .draining, drainPort := some p } := by
  rw [State.drainOpen, Store.slotAt_of_getElem? hx, State.streamOpen_eq]
  exact State.streamPut_opened (fun x => { x with state := .draining, drainPort := some p }) hx hinit (Nat.ne_of_lt hbytes)

/-- A drain of no bytes ends at its opening (R149). -/
theorem State.drainOpen_ended {s : State} {p : Port} {i : Nat} {x : Slot} (hx : s.store.slots[i]? = some x) (hbytes : x.bytes = 0) :
    (s.drainOpen p i).store.slotAt i = { x with state := .spent, drainPort := none } ∧ (s.drainOpen p i).store.streams.get p = none ∧
      (s.drainOpen p i).pends p .streamEnded ∧
      (s.drainOpen p i).store.ends.get p = some { slot := i, kind := .drain, reason := .done } := by
  have hslot : s.store.slotAt i = x := Store.slotAt_of_getElem? hx
  rw [State.drainOpen, hslot, State.streamOpen_eq]
  generalize hu : s.withStore (fun b => b.onSlot i (fun x => { x with state := .draining, drainPort := some p })) = u
  obtain ⟨hstream, hfifo⟩ := u.streamPut_get p { kind := .drain, slot := i, next := 0, endOff := x.bytes, stall := none }
  obtain ⟨hclosed, -, hend, -, -, hentry⟩ := State.streamClose_closed hstream .done .spent
  have hput : (u.streamPut p { kind := .drain, slot := i, next := 0, endOff := x.bytes, stall := none }).store.slots[i]? =
      some { x with state := .draining, drainPort := some p } := by
    rw [(u.streamPut_store _ _).2.2.2.2.2, ← hu]
    simp [State.withStore, Store.onSlot, modifyAt, hx]
  have hentry := (hentry _ hput).1 rfl
  rw [State.streamDone_of_end hstream hbytes.symm hfifo]
  refine ⟨by simpa [Store.slotAt] using hentry, by simpa using hclosed, ?_, by simpa using hend⟩
  have hpends := (State.raiseTo_raised ((u.streamPut p { kind := .drain, slot := i, next := 0, endOff := x.bytes, stall := none }).streamClose p
    .done .spent) p .streamEnded).1
  simpa [State.pends] using hpends

theorem State.drainOpen_onlyChanged (s : State) (p : Port) (i : Nat) : onlyChanged [.store, .events] s (s.drainOpen p i) := by
  refine ⟨by simp, by simp, fun y hy => ?_⟩
  cases y <;> simp [Part.same, State.dramByte] at hy ⊢

/-- A review has a byte to send, so that no event is raised. -/
theorem State.reviewOpen_onlyChanged {s : State} {p : Port} {i n m : Nat} {x : Slot} (hx : s.store.slots[i]? = some x) (hn : n < x.bytes)
    (hm : m ≠ 0) : onlyChanged [.store] s (s.reviewOpen p i n m) := by
  have hspan : n ≠ n + s.reviewSpan i n m := by
    rw [State.reviewSpan, Store.slotAt_of_getElem? hx]
    omega
  rw [State.reviewOpen, State.streamOpen_eq, State.streamDone_of_more (State.streamPut_get _ _ _).1 (.inl hspan)]
  exact onlyChanged_mono (onlyChanged_trans (onlyChanged_trans (State.withStore_onlyChanged _ _ rfl) (State.streamPut_onlyChanged _ _ _))
    (State.storeSettle_onlyChanged _)) (by simp)

theorem State.reviewOpen_opened {s : State} {p : Port} {i n m : Nat} {x : Slot} (hx : s.store.slots[i]? = some x)
    (hinit : s.store.state ≠ .initialising) (hn : n < x.bytes) (hm : m ≠ 0) : s.streamOpened (s.reviewOpen p i n m) p
      { kind := .review, slot := i, next := n, stall := none, endOff := min (n + m) x.bytes } { x with pins := x.pins + 1 } := by
  have hend : n + s.reviewSpan i n m = min (n + m) x.bytes := by
    rw [State.reviewSpan, Store.slotAt_of_getElem? hx]
    omega
  rw [State.reviewOpen, State.streamOpen_eq, hend]
  exact State.streamPut_opened (fun x => { x with pins := x.pins + 1 }) hx hinit (by dsimp only; omega)

/-- Settles O50: the checks in their order, then the opening, of a drain with bytes or without, and of a review. -/
theorem streamsOpenOnTheirSlots : Obligations.StreamsOpenOnTheirSlots := by
  refine fun s p i a l ha hl => ⟨fun hi => ?drainSlot, fun hbad => ?reviewSlot, fun hi hcut => ⟨?drainCut, fun hm => ?reviewCut⟩,
    fun hi hcut => ⟨fun hwrong => ?drainState, fun hm hwrong => ?reviewState⟩,
    fun x hx hi hcut hopen hinit => ⟨fun hfull => ?drain, fun hstate hm => ⟨fun hpast => ?reviewPast, fun hwithin => ?review⟩⟩⟩
  case drainSlot =>
    exact answers_refused (exec_openDrain_refused (if_pos hi))
  case reviewSlot =>
    exact answers_refused (exec_openReview_refused ha hl (if_pos hbad))
  case drainCut =>
    exact answers_refused (exec_openDrain_refused (State.drainRefusal_of_open hi (State.openRefusal_of_cut hcut)))
  case reviewCut =>
    exact answers_refused (exec_openReview_refused ha hl (State.reviewRefusal_of_open hi hm (State.openRefusal_of_cut hcut)))
  case drainState =>
    refine answers_refused (exec_openDrain_refused ?_)
    by_cases hother : (s.store.streams.get p).isSome ∨ s.store.state = .initialising
    · exact State.drainRefusal_of_open hi (State.openRefusal_of_other hcut hother)
    · obtain ⟨hopen, hinit⟩ := not_or.1 hother
      have hslot : (s.store.slotAt i.toNat).state ≠ .full := (hwrong.resolve_left hopen).resolve_left hinit
      rw [State.drainRefusal_of_slot hi (State.openRefusal_begin hcut (by simpa using hopen) hinit)]
      exact if_neg hslot
  case reviewState =>
    refine answers_refused (exec_openReview_refused ha hl ?_)
    by_cases hother : (s.store.streams.get p).isSome ∨ s.store.state = .initialising
    · exact State.reviewRefusal_of_open hi hm (State.openRefusal_of_other hcut hother)
    · obtain ⟨hopen, hinit⟩ := not_or.1 hother
      have hslot := (hwrong.resolve_left hopen).resolve_left hinit
      rw [State.reviewRefusal_of_slot hi hm (State.openRefusal_begin hcut (by simpa using hopen) hinit)]
      refine if_pos ?_
      rw [← SlotState.reviewable_iff] at hslot
      simpa using hslot
  case drain =>
    have hslot : s.begin.store.slotAt i.toNat = x := Store.slotAt_of_getElem? hx
    have hnone : s.begin.drainRefusal p i.toNat = none := by
      rw [State.drainRefusal_of_slot hi (State.openRefusal_begin hcut hopen hinit), hslot]
      exact if_pos hfull
    refine answers_of_sendTo (answer (s.begin.drainOpen p i.toNat) .later) (exec_openDrain_taken hnone) rfl
      (onlyChanged_of_begin (State.drainOpen_onlyChanged _ _ _)) ⟨fun hbytes => ?_, fun hbytes => ?_⟩
    · exact (State.drainOpen_opened (s := s.begin) hx hinit hbytes).sendTo (x := answer _ _)
    · exact State.drainOpen_ended (s := s.begin) hx hbytes
  case reviewPast =>
    refine answers_refused (exec_openReview_refused ha hl ?_)
    have hslot : s.begin.store.slotAt i.toNat = x := Store.slotAt_of_getElem? hx
    rw [State.reviewRefusal_of_slot hi hm (State.openRefusal_begin hcut hopen hinit), hslot, if_neg (by simp [(SlotState.reviewable_iff _).2 hstate]),
      if_pos hpast]
  case review =>
    have hslot : s.begin.store.slotAt i.toNat = x := Store.slotAt_of_getElem? hx
    have hnone : s.begin.reviewRefusal p i.toNat (field a 0 4) (field l 0 4) = none := by
      rw [State.reviewRefusal_of_slot hi hm (State.openRefusal_begin hcut hopen hinit), hslot,
        if_neg (by simp [(SlotState.reviewable_iff _).2 hstate]), if_neg (not_le.2 hwithin)]
    have hspan : s.begin.reviewSpan i.toNat (field a 0 4) (field l 0 4) = min (field l 0 4) (x.bytes - field a 0 4) := by
      rw [State.reviewSpan, hslot]
    have hstatus : (if s.begin.reviewSpan i.toNat (field a 0 4) (field l 0 4) = field l 0 4 then Status.later else .adjusted) =
        if field a 0 4 + field l 0 4 ≤ x.bytes then .later else .adjusted := by
      rw [hspan]
      exact if_congr (by omega) rfl rfl
    have hexec := exec_openReview_taken ha hl hnone
    rw [hstatus] at hexec
    refine answers_of_sendTo (answer (s.begin.reviewOpen p i.toNat (field a 0 4) (field l 0 4)) _) hexec rfl
      (onlyChanged_of_begin (State.reviewOpen_onlyChanged hx hwithin hm)) ?_
    exact (State.reviewOpen_opened (s := s.begin) hx hinit hwithin hm).sendTo (x := answer _ _)

end Sys2Proof.Machine
end

section
/-! The Burst Store's arbiter, its grants and its refresh (R136 to R141, R145 to R147). -/

namespace Sys2Proof.Machine

/-! ### The DRAM's bytes -/

/-- An insertion leaves the other addresses as they read, whatever the form of the contents. -/
theorem dramRead_insert_ne (m : List Host.Cell) {addr other : Nat} (v : Byte) (h : other ≠ addr) :
    dramRead (dramInsert m addr v) other = dramRead m other := by
  induction m with
  | nil =>
    simp only [dramInsert, dramRead]
    rw [if_neg h.symm]
    exact ite_self _
  | cons x rest ih =>
    obtain ⟨a, w⟩ := x
    simp only [dramInsert]
    split_ifs with hlt heq
    · simp only [dramRead]
      split_ifs <;> grind
    · subst heq
      simp only [dramRead, if_neg h.symm]
    · simp only [dramRead, ih]

theorem dramRead_write_ne (m : List Host.Cell) {addr other : Nat} (v : Byte) (h : other ≠ addr) :
    dramRead (dramWrite m addr v) other = dramRead m other := by
  unfold dramWrite
  split
  · exact dramRead_insert_ne m v h
  · rfl

theorem dramRead_writeAll_ne (cells m : List Host.Cell) {addr : Nat} (h : ∀ x ∈ cells, x.1 ≠ addr) :
    dramRead (dramWriteAll m cells) addr = dramRead m addr := by
  induction cells generalizing m with
  | nil => rfl
  | cons x rest ih =>
    have hx : addr ≠ x.1 := (h x List.mem_cons_self).symm
    exact (ih _ (fun y hy => h y (List.mem_cons_of_mem _ hy))).trans (dramRead_write_ne m x.2 hx)

/-- The last byte written at an address is the one read there. -/
theorem dramRead_writeAll_last (m before after : List Host.Cell) {x : Host.Cell} (hx : x.1 < 2 ^ 30) (h : ∀ y ∈ after, y.1 ≠ x.1) :
    dramRead (dramWriteAll m (before ++ x :: after)) x.1 = some x.2 := by
  have hsplit : dramWriteAll m (before ++ x :: after) = dramWriteAll (dramWrite (dramWriteAll m before) x.1 x.2) after := by
    simp [dramWriteAll]
  rw [hsplit, dramRead_writeAll_ne _ _ h, dramRead_write_same x.2 hx]

/-! ### The rings (R147) -/

/-- In a list sorted by a key, the first member that passes a test is the one of least key. -/
theorem find?_eq_some_of_least {α : Type} {l : List α} {key : α → Nat} {test : α → Bool} {a : α} (hl : l.Pairwise (key · < key ·))
    (hmem : a ∈ l) (ha : test a = true) (hleast : ∀ x, test x = true → key a ≤ key x) : l.find? test = some a := by
  induction l with
  | nil => exact absurd hmem (by simp)
  | cons x rest ih =>
    rw [List.pairwise_cons] at hl
    rcases List.mem_cons.1 hmem with rfl | hrest
    · simp [ha]
    · have hx : test x = false := by
        by_contra hx
        have hle := hleast x (by simpa using hx)
        have hlt := hl.1 a hrest
        omega
      rw [List.find?_cons_of_neg (by simp [hx])]
      exact ih hl.2 hrest

theorem ringFrom_sorted (pointer : RingPos) :
    (ringFrom pointer).Pairwise (fun x y => (x.place + 5 - pointer.place) % 5 < (y.place + 5 - pointer.place) % 5) := by
  cases pointer <;> decide

theorem mem_ringFrom (pointer r : RingPos) : r ∈ ringFrom pointer := by
  cases pointer <;> cases r <;> decide

theorem portsFrom_sorted (pointer : Port) : (portsFrom pointer).Pairwise (fun x y =>
    (portPlace x + 3 - portPlace pointer) % 3 < (portPlace y + 3 - portPlace pointer) % 3) := by
  cases pointer <;> decide

theorem mem_portsFrom (pointer p : Port) : p ∈ portsFrom pointer := by
  cases pointer <;> cases p <;> decide

theorem RingPos.after_place (r : RingPos) : r.after.place = (r.place + 1) % 5 := by cases r <;> rfl

theorem portAfter_place (p : Port) : portPlace (portAfter p) = (portPlace p + 1) % 3 := by cases p <;> rfl

/-! ### Requests (R145) -/

theorem State.streamRequests_iff (s : State) (p : Port) : s.store.streamRequests p = true ↔ s.streamWants p := by
  unfold Store.streamRequests State.streamWants
  cases h : s.store.streams.get p with
  | none => simp
  | some x =>
    have hroom : (s.store.fifos.get p).length ≤ fifoRoomBelow ↔ (s.store.fifos.get p).length + 2048 ≤ 16384 := by
      rw [fifoRoomBelow]
      omega
    have hbound : s.store.boundFor x.slot = false ↔ ∀ b ∈ s.store.buf, b.1 / 2 ^ 25 ≠ x.slot := by
      rw [Store.boundFor, List.any_eq_false]
      simp only [decide_eq_true_iff]
      rfl
    simp [hroom, hbound, and_assoc]

theorem State.groupRequests_iff (s : State) (p : Port) : s.groupRequests p = true ↔ s.promoted p = false ∧ s.streamWants p := by
  simp [State.groupRequests, s.streamRequests_iff]

theorem State.ringRequests_iff (s : State) (r : RingPos) : s.ringRequests r = true ↔ s.ringWants r := by
  cases r with
  | ingest =>
    rw [State.ringRequests, Store.ingestRequests, Bool.or_eq_true, decide_eq_true_iff, decide_eq_true_iff]
    rfl
  | portA => simp [State.ringRequests, State.ringWants, State.promotedRequests, s.streamRequests_iff]
  | portB => simp [State.ringRequests, State.ringWants, State.promotedRequests, s.streamRequests_iff]
  | portC => simp [State.ringRequests, State.ringWants, State.promotedRequests, s.streamRequests_iff]
  | group =>
    simp only [State.ringRequests, State.ringWants, Bool.or_eq_true, State.groupRequests_iff]
    constructor
    · rintro ((h | h) | h) <;> exact ⟨_, h⟩
    · rintro ⟨p, h⟩
      cases p
      · exact .inl (.inl h)
      · exact .inl (.inr h)
      · exact .inr h

/-! ### The arbiter's tiers (R146) -/

theorem State.arbitrate_of_choice {s : State} {who : Requester} {r1 : RingPos} {r2 : Port} (hfree : s.dramFree = true)
    (h : s.arbiterChoice = some (who, r1, r2)) :
    s.arbitrate = s.withStore (fun b => { b with grant := some (s.grantFor who), ring1 := r1, ring2 := r2 }) := by
  rw [State.arbitrate, if_pos hfree, h]

theorem State.arbitrate_of_none {s : State} (h : s.arbiterChoice = none) : s.arbitrate = s := by
  rw [State.arbitrate, h, ite_self]

theorem State.enterSelfRefresh_leaves (s : State) : s.enterSelfRefresh.store.grant = s.store.grant ∧
    s.enterSelfRefresh.store.ring1 = s.store.ring1 ∧ s.enterSelfRefresh.store.ring2 = s.store.ring2 ∧
    s.enterSelfRefresh.store.backlog = s.store.backlog := by
  unfold State.enterSelfRefresh
  split
  · exact ⟨rfl, rfl, rfl, rfl⟩
  · exact ⟨rfl, rfl, rfl, rfl⟩

/-- A grant chosen keeps the store from SelfRefresh. -/
theorem State.storeSettle_of_choice {s : State} {who : Requester} {r1 : RingPos} {r2 : Port} (hfree : s.dramFree = true)
    (h : s.arbiterChoice = some (who, r1, r2)) :
    s.storeSettle = s.withStore (fun b => { b with grant := some (s.grantFor who), ring1 := r1, ring2 := r2 }) := by
  rw [State.storeSettle, State.arbitrate_of_choice hfree h]
  exact State.enterSelfRefresh_stays (by simp [State.withStore])

theorem State.arbiterChoice_of_half {s : State} (h : 32768 ≤ s.store.buf.length) :
    s.arbiterChoice = some (.ingest, s.store.ring1, s.store.ring2) := if_pos h

theorem State.arbiterChoice_of_urgent {s : State} (hbuf : s.store.buf.length < 32768) (h : s.store.urgent = true) :
    s.arbiterChoice = some (.refresh, s.store.ring1, s.store.ring2) := by
  rw [State.arbiterChoice, if_neg (by omega), if_pos h]

section
variable {s : State} (hbuf : s.store.buf.length < 32768) (hurgent : s.store.urgent = false)
include hbuf hurgent

theorem State.arbiterChoice_of_ring {x : Requester × RingPos × Port} (h : s.ringChoice = some x) : s.arbiterChoice = some x := by
  rw [State.arbiterChoice, if_neg (by omega), if_neg (by simp [hurgent]), h]

theorem State.arbiterChoice_of_idle (h : s.ringChoice = none) :
    s.arbiterChoice = if 0 < s.store.backlog then some (.refresh, s.store.ring1, s.store.ring2) else none := by
  rw [State.arbiterChoice, if_neg (by omega), if_neg (by simp [hurgent]), h]

end

/-- A refresh that is urgent below half buffer is granted at once (R139). -/
theorem State.storeSettle_of_urgent {s : State} (hfree : s.dramFree = true) (hbuf : s.store.buf.length < 32768)
    (h : s.store.urgent = true) : s.storeSettle.store.grant =
      some { who := .refresh, bytes := 0, endAt := s.clock + 35, discard := false } ∧
      s.storeSettle.store.ring1 = s.store.ring1 ∧ s.storeSettle.store.ring2 = s.store.ring2 := by
  rw [State.storeSettle_of_choice hfree (State.arbiterChoice_of_urgent hbuf h)]
  exact ⟨rfl, rfl, rfl⟩

theorem State.storeSettle_of_half {s : State} (hfree : s.dramFree = true) (hbuf : 32768 ≤ s.store.buf.length) :
    s.storeSettle.store.grant = some { who := .ingest, bytes := 2048, endAt := s.clock + 16, discard := false } ∧
      s.storeSettle.store.ring1 = s.store.ring1 ∧ s.storeSettle.store.ring2 = s.store.ring2 := by
  have hbytes : min burstBytes s.store.buf.length = 2048 := min_eq_left (by rw [burstBytes]; omega)
  rw [State.storeSettle_of_choice hfree (State.arbiterChoice_of_half hbuf)]
  refine ⟨?_, rfl, rfl⟩
  simp only [State.withStore, State.grantFor, hbytes]
  rfl

/-! ### The choice of the rings (R147) -/

/-- The level-one ring gives its first position that requests. -/
theorem State.ringFind_of_next {s : State} {r : RingPos} (h : s.nextInRing s.store.ring1 r) :
    (ringFrom s.store.ring1).find? s.ringRequests = some r :=
  find?_eq_some_of_least (ringFrom_sorted _) (mem_ringFrom _ _) ((s.ringRequests_iff r).2 h.1)
    (fun x hx => h.2 x ((s.ringRequests_iff x).1 hx))

theorem State.groupPort_of_next {s : State} {p : Port} (h : s.nextInGroup s.store.ring2 p) : s.groupPort = some p :=
  find?_eq_some_of_least (portsFrom_sorted _) (mem_portsFrom _ _) ((s.groupRequests_iff p).2 h.1)
    (fun q hq => h.2 q ((s.groupRequests_iff q).1 hq).1 ((s.groupRequests_iff q).1 hq).2)

theorem State.ringChoice_of_none {s : State} (h : ∀ r, ¬ s.ringWants r) : s.ringChoice = none := by
  have hfind : (ringFrom s.store.ring1).find? s.ringRequests = none :=
    List.find?_eq_none.2 (fun r _ => mt (s.ringRequests_iff r).1 (h r))
  rw [State.ringChoice, hfind]

theorem State.ringChoice_of_ingest {s : State} (h : s.nextInRing s.store.ring1 .ingest) :
    s.ringChoice = some (.ingest, RingPos.ingest.after, s.store.ring2) := by
  rw [State.ringChoice, State.ringFind_of_next h]

theorem State.ringChoice_of_port {s : State} {x : RingPos × Port} (hx : x ∈ [(RingPos.portA, Port.a), (.portB, .b), (.portC, .c)])
    (h : s.nextInRing s.store.ring1 x.1) : s.ringChoice = some (.stream x.2, x.1.after, s.store.ring2) := by
  rw [State.ringChoice, State.ringFind_of_next h]
  simp only [List.mem_cons, List.not_mem_nil, or_false] at hx
  rcases hx with rfl | rfl | rfl <;> rfl

theorem State.ringChoice_of_group {s : State} {p : Port} (h : s.nextInRing s.store.ring1 .group) (hp : s.nextInGroup s.store.ring2 p) :
    s.ringChoice = some (.stream p, RingPos.group.after, portAfter p) := by
  rw [State.ringChoice, State.ringFind_of_next h, State.groupPort_of_next hp]
  rfl

/-- The pointer goes behind the position chosen. -/
theorem State.ringChoice_of_next {s : State} {r : RingPos} (h : s.nextInRing s.store.ring1 r) :
    ∃ who r2, s.ringChoice = some (who, r.after, r2) := by
  cases r with
  | ingest => exact ⟨_, _, State.ringChoice_of_ingest h⟩
  | portA => exact ⟨_, _, State.ringChoice_of_port (x := (.portA, .a)) (by simp) h⟩
  | portB => exact ⟨_, _, State.ringChoice_of_port (x := (.portB, .b)) (by simp) h⟩
  | portC => exact ⟨_, _, State.ringChoice_of_port (x := (.portC, .c)) (by simp) h⟩
  | group =>
    obtain ⟨q, hq⟩ := h.1
    obtain ⟨p, hp⟩ := Option.isSome_iff_exists.1
      (List.find?_isSome.2 ⟨q, mem_portsFrom s.store.ring2 q, (s.groupRequests_iff q).2 hq⟩)
    refine ⟨.stream p, portAfter p, ?_⟩
    rw [State.ringChoice, State.ringFind_of_next h, State.groupPort, hp]
    rfl

/-- Requests are read from what settling leaves. -/
theorem State.streamWants_storeSettle (s : State) (p : Port) : s.storeSettle.streamWants p ↔ s.streamWants p := by
  simp [State.streamWants]

theorem State.promoted_storeSettle (s : State) (p : Port) : s.storeSettle.promoted p = s.promoted p := by
  cases p <;> exact decide_eq_decide.2 (by simp [State.setting])

theorem State.ringWants_storeSettle (s : State) (r : RingPos) : s.storeSettle.ringWants r ↔ s.ringWants r := by
  cases r <;> simp [State.ringWants, s.streamWants_storeSettle, s.promoted_storeSettle]

/-- A stream's grant: a burst, or what is left of its span. -/
theorem State.streamGranted_of_choice {s : State} {p : Port} {r1 : RingPos} {r2 : Port} :
    (s.withStore (fun b => { b with grant := some (s.grantFor (.stream p)), ring1 := r1, ring2 := r2 })).streamGranted p := by
  intro x hx
  have hx : s.store.streams.get p = some x := hx
  simp [State.withStore, State.grantFor, hx, burstBytes, dataGrant]

/-- Without an urgent tier the rings choose, and an idle refresh comes last (R146, R147). -/
theorem State.storeSettle_ringGranted {s : State} (hfree : s.dramFree = true) (hbuf : s.store.buf.length < 32768)
    (hurgent : s.store.urgent = false) : s.ringGranted s.storeSettle := by
  refine ⟨fun r hnext => ?_, fun hnone => ?_⟩
  · have hnext : s.nextInRing s.store.ring1 r := by simpa only [State.nextInRing, s.ringWants_storeSettle] using hnext
    have hsettle {who : Requester} {r1 : RingPos} {r2 : Port} (h : s.ringChoice = some (who, r1, r2)) : s.storeSettle =
        s.withStore (fun b => { b with grant := some (s.grantFor who), ring1 := r1, ring2 := r2 }) :=
      State.storeSettle_of_choice hfree (State.arbiterChoice_of_ring hbuf hurgent h)
    refine ⟨?_, fun hingest => ?_, fun x hx hport => ?_, fun hgroup p hp => ?_⟩
    · obtain ⟨who, r2, hchoice⟩ := State.ringChoice_of_next hnext
      rw [hsettle hchoice]
      exact r.after_place
    · subst hingest
      rw [hsettle (State.ringChoice_of_ingest hnext)]
      exact ⟨rfl, rfl⟩
    · subst hport
      rw [hsettle (State.ringChoice_of_port hx hnext)]
      exact ⟨rfl, State.streamGranted_of_choice⟩
    · subst hgroup
      have hp : s.nextInGroup s.store.ring2 p := by
        simpa only [State.nextInGroup, s.streamWants_storeSettle, s.promoted_storeSettle] using hp
      rw [hsettle (State.ringChoice_of_group hnext hp)]
      exact ⟨portAfter_place p, State.streamGranted_of_choice⟩
  · simp only [s.ringWants_storeSettle] at hnone
    have hchoice := State.arbiterChoice_of_idle hbuf hurgent (State.ringChoice_of_none hnone)
    by_cases hbacklog : 0 < s.store.backlog
    · rw [if_pos hbacklog] at hchoice
      rw [State.storeSettle_of_choice hfree hchoice]
      exact ⟨rfl, rfl, fun _ => rfl, fun h => absurd h (by simpa [State.withStore] using Nat.ne_of_gt hbacklog)⟩
    · rw [if_neg hbacklog] at hchoice
      obtain ⟨hgrant, hring1, hring2, hsame⟩ := s.enterSelfRefresh_leaves
      rw [State.storeSettle, State.arbitrate_of_none hchoice]
      refine ⟨hring1, hring2, fun h => absurd (hsame ▸ h) hbacklog, fun _ => hgrant.trans ?_⟩
      have hfree := hfree
      simp only [State.dramFree, Bool.and_eq_true, Option.isNone_iff_eq_none] at hfree
      exact hfree.1.2

/-! ### Refresh (R137 to R141) -/

@[simp] theorem State.storeSettle_backlog (s : State) : s.storeSettle.store.backlog = s.store.backlog ∧
    s.storeSettle.store.slots = s.store.slots ∧ s.storeSettle.store.cut = s.store.cut := by
  obtain ⟨-, -, -, hslots, -, hbacklog, -⟩ := s.arbitrate_store
  exact ⟨(s.arbitrate.enterSelfRefresh_leaves.2.2.2).trans hbacklog, by simp, by simp⟩

/-- A refresh owed keeps the store's state and its trickle counter. -/
theorem State.storeSettle_of_backlog {s : State} (h : s.store.backlog ≠ 0) : s.storeSettle.store.state = s.store.state ∧
    s.storeSettle.store.trickle = s.store.trickle := by
  rw [State.storeSettle_stays (.inr (.inr (.inr (.inr (.inl h)))))]
  exact ⟨s.arbitrate_store.1, s.arbitrate_store.2.1⟩

/-- A store that is Ready after settling was so before. -/
theorem State.storeSettle_ready {s : State} (h : s.storeSettle.store.state = .ready) : s.store.state = .ready := by
  unfold State.storeSettle State.enterSelfRefresh at h
  split at h
  · exact absurd h (by simp [State.withStore])
  · exact s.arbitrate_store.1 ▸ h

theorem State.dramFree_iff (s : State) : s.dramFree = true ↔ s.store.state = .ready ∧ s.store.grant = none ∧ s.store.wake = none := by
  simp [State.dramFree, and_assoc]

/-- Quiet in STILL with nothing owed, the store enters SelfRefresh and the trickle counter stops (R140). -/
theorem State.storeSettle_of_quiet {s : State} (hstate : s.store.state = .ready) (hstill : s.fc.cadence = .still)
    (hstreams : s.store.streams = PerPort.all none) (hfilling : ∀ x ∈ s.store.slots, x.state ≠ .filling) (hbuf : s.store.buf = [])
    (hremnant : s.store.remnant = 0) (hbacklog : s.store.backlog = 0) (hurgent : s.store.urgent = false)
    (hgrant : s.store.grant = none) (hwake : s.store.wake = none) :
    s.storeSettle = s.withStore (fun b => { b with state := .selfRefresh, trickle := none }) := by
  have hnone (r : RingPos) : ¬ s.ringWants r := by
    cases r <;> simp [State.ringWants, State.streamWants, hstreams, hbuf, hremnant]
  have hchoice := State.arbiterChoice_of_idle (by simp [hbuf]) hurgent (State.ringChoice_of_none hnone)
  rw [hbacklog, if_neg (Nat.lt_irrefl 0)] at hchoice
  rw [State.storeSettle, State.arbitrate_of_none hchoice]
  refine if_pos ⟨hstate, hstill, (Store.noStreams_iff _).2 hstreams, ?_, by simp [hbuf], hbacklog, by simp [hgrant], by simp [hwake]⟩
  simpa [Store.firstSlot] using hfilling

/-- A change of the store that leaves the DRAM, settled. -/
theorem State.storeChange_onlyChanged (s : State) (f : Store → Store) (h : (f s.store).dram = s.store.dram) :
    onlyChanged [.store] s (s.withStore f).storeSettle :=
  onlyChanged_mono (onlyChanged_trans (State.withStore_onlyChanged s f h) (State.storeSettle_onlyChanged _)) (by simp)

theorem State.storeChange_grant {s : State} {f : Store → Store} (hstate : (f s.store).state = .ready)
    (hgrant : (f s.store).grant = none) (hwake : (f s.store).wake = none) (hbuf : (f s.store).buf.length < 32768)
    (hurgent : (f s.store).urgent = true) : (s.withStore f).storeSettle.store.grant =
      some { who := .refresh, bytes := 0, endAt := s.clock + 35, discard := false } :=
  (State.storeSettle_of_urgent (s := s.withStore f) ((State.dramFree_iff _).2 ⟨hstate, hgrant, hwake⟩) hbuf hurgent).1

/-- The end of the start-up sequence (R137). -/
theorem State.startupEnd_store (s : State) : s.startupEnd.store.state = .ready ∧ s.startupEnd.store.startup = none ∧
    s.startupEnd.store.backlog = 3 ∧ s.startupEnd.store.urgent = true ∧ s.startupEnd.store.slots = s.store.slots ∧
    s.startupEnd.store.buf = s.store.buf ∧ s.startupEnd.store.trickle = s.tricklePeriod := by
  rw [State.startupEnd]
  have hkept (u : State) (h : u.store.backlog = 3) := State.storeSettle_of_backlog (s := u) (by omega)
  refine ⟨(hkept _ rfl).1, ?_, ?_, ?_, ?_, ?_, (hkept _ rfl).2⟩ <;> simp [State.withStore]

theorem State.startupEnd_onlyChanged (s : State) : onlyChanged [.store] s s.startupEnd :=
  State.storeChange_onlyChanged s _ rfl

theorem State.startupEnd_grant {s : State} (hgrant : s.store.grant = none) (hwake : s.store.wake = none)
    (hbuf : s.store.buf.length < 32768) :
    s.startupEnd.store.grant = some { who := .refresh, bytes := 0, endAt := s.clock + 35, discard := false } := by
  rw [State.startupEnd]
  exact State.storeChange_grant (s := s) (f := fun b => { b with
    state := .ready, startup := none, backlog := 3, urgent := true, trickle := s.tricklePeriod }) rfl hgrant hwake hbuf rfl

/-- An expiry of the trickle counter (R138). -/
theorem State.trickleEnd_store (s : State) : s.trickleEnd.store.state = s.store.state ∧
    s.trickleEnd.store.backlog = min 3 (s.store.backlog + 1) ∧
    s.trickleEnd.store.urgent = (s.store.urgent || decide (2 ≤ s.store.backlog)) ∧ s.trickleEnd.store.slots = s.store.slots ∧
    s.trickleEnd.store.buf = s.store.buf ∧ s.trickleEnd.store.streams = s.store.streams ∧
    s.trickleEnd.store.trickle = s.tricklePeriod := by
  rw [State.trickleEnd]
  have hkept (u : State) (h : u.store.backlog = min 3 (s.store.backlog + 1)) := State.storeSettle_of_backlog (s := u) (by omega)
  refine ⟨(hkept _ rfl).1, ?_, ?_, ?_, ?_, ?_, (hkept _ rfl).2⟩ <;> simp [State.withStore, satAdd]

theorem State.trickleEnd_onlyChanged (s : State) : onlyChanged [.store] s s.trickleEnd :=
  State.storeChange_onlyChanged s _ rfl

/-- The end of the wake-up (R141). -/
theorem State.wakeEnd_store (s : State) : let t := (s.withStore (fun b => { b with wake := none })).storeSettle
    t.store.wake = none ∧ t.store.backlog = s.store.backlog ∧ t.store.slots = s.store.slots ∧ t.store.buf = s.store.buf := by
  simp [State.withStore]

theorem State.wakeEnd_grant {s : State} (hready : s.store.state = .ready) (hgrant : s.store.grant = none)
    (hurgent : s.store.urgent = true) (hbuf : s.store.buf.length < 32768) :
    (s.withStore (fun b => { b with wake := none })).storeSettle.store.grant =
      some { who := .refresh, bytes := 0, endAt := s.clock + 35, discard := false } :=
  State.storeChange_grant (s := s) (f := fun b => { b with wake := none }) hready hgrant rfl hbuf hurgent

/-- STILL finds the store with nothing to do. -/
theorem State.goStill_store_of_quiet {s : State} (hstate : s.store.state = .ready)
    (hstreams : s.store.streams = PerPort.all none) (hfilling : ∀ x ∈ s.store.slots, x.state ≠ .filling) (hbuf : s.store.buf = [])
    (hremnant : s.store.remnant = 0) (hbacklog : s.store.backlog = 0) (hurgent : s.store.urgent = false)
    (hgrant : s.store.grant = none) (hwake : s.store.wake = none) :
    s.goStill.store = { s.store with state := .selfRefresh, trickle := none } := by
  generalize hu : ((s.withFc (fun c => { c with cadence := .still })).stopLoop.afIdle.calAbort.stopSampling).derive = u
  have hgo : s.goStill = u.storeSettle := by rw [← hu, State.goStill]
  have hsame : u.store = s.store := by simp [← hu]
  have hstill : u.fc.cadence = .still := by
    have hfc : u.fc = s.goStill.fc := by rw [hgo]; simp
    rw [hfc, s.goStill_fc]
    simp
  rw [← hsame] at hstate hstreams hfilling hbuf hremnant hbacklog hurgent hgrant hwake ⊢
  rw [hgo, State.storeSettle_of_quiet hstate hstill hstreams hfilling hbuf hremnant hbacklog hurgent hgrant hwake, State.withStore]

/-- Settles O53: each expiry changes the refresh record and lets the arbiter choose. -/
theorem refreshIsOwedAndGranted : Obligations.RefreshIsOwedAndGranted := by
  refine fun s d => ⟨fun hdue => ?startup, fun hdue => ?trickle, fun hdue => ?wake,
    fun hdue hslow hready hstreams hfilling hbuf hremnant hbacklog hurgent hgrant hwake => ?still⟩
  case startup =>
    change completes (execStoreStartupEnd s) _
    refine completes_timed hdue ?_
    obtain ⟨hstate, hstartup, hbacklog, hurgent, hslots, hbuf, htrickle⟩ := (s.begin.reach d).startupEnd_store
    have hchanged := (s.begin.reach d).startupEnd_onlyChanged
    have hclock : (s.begin.reach d).startupEnd.clock = (s.begin.reach d).clock := hchanged.2.2 .clock (by simp)
    refine ⟨hclock, onlyChanged_of_reach hchanged, hstate, hstartup, hbacklog, hurgent, hslots, hbuf, ?_, fun hgrant hwake hbuf => ?_⟩
    · rw [hclock]
      exact htrickle
    · rw [hclock]
      exact State.startupEnd_grant hgrant hwake hbuf
  case trickle =>
    change completes (execTrickleExpiry s) _
    refine completes_timed hdue ?_
    obtain ⟨hstate, hbacklog, hurgent, hslots, hbuf, hstreams, htrickle⟩ := (s.begin.reach d).trickleEnd_store
    have hchanged := (s.begin.reach d).trickleEnd_onlyChanged
    have hclock : (s.begin.reach d).trickleEnd.clock = (s.begin.reach d).clock := hchanged.2.2 .clock (by simp)
    refine ⟨hclock, onlyChanged_of_reach hchanged, hstate, hbacklog, hurgent, hslots, hbuf, hstreams, ?_⟩
    rw [hclock]
    exact htrickle
  case wake =>
    change completes (execDramWake s) _
    refine completes_timed hdue ?_
    obtain ⟨hwake, hbacklog, hslots, hbuf⟩ := (s.begin.reach d).wakeEnd_store
    have hchanged := State.storeChange_onlyChanged (s.begin.reach d) (fun b => { b with wake := none }) rfl
    have hclock := hchanged.2.2 .clock (by simp)
    refine ⟨hclock, onlyChanged_of_reach hchanged, hwake, hbacklog, hslots, hbuf, fun hready hgrant hurgent hbuf => ?_⟩
    rw [show State.clock _ = (s.begin.reach d).clock from hclock]
    exact State.wakeEnd_grant (s := s.begin.reach d) hready hgrant hurgent hbuf
  case still =>
    change completes (execQuietTimer2Expiry s) _
    refine completes_timed hdue ?_
    rw [State.setCadence_still (by simpa using hslow)]
    exact State.goStill_store_of_quiet (s := (s.begin.reach d).withFc (fun c => { c with quiet2 := none })) hready hstreams hfilling hbuf
      hremnant hbacklog hurgent hgrant hwake

/-! ### The end of a grant (R145) -/

/-- The state after a grant's data have moved, before the arbiter chooses. -/
def State.grantData (s : State) (g : Grant) : State :=
  let t := s.withStore (fun b => { b with grant := none })
  match g.who with
  | .ingest => t.withStore (fun b => b.ingestDone g.bytes)
  | .refresh => t.withStore Store.refreshDone
  | .stream p => if g.discard then t else t.streamData p g.bytes

theorem State.grantDone_of_some {s : State} {g : Grant} (h : s.store.grant = some g) : s.grantDone = (s.grantData g).storeSettle := by
  rw [State.grantDone, h]
  rfl

theorem PerPort.set_set {α : Type} (f : PerPort α) (p : Port) (x y : α) : (f.set p x).set p y = f.set p y := by cases p <;> rfl

theorem State.streamData_of_some {s : State} {p : Port} {x : Stream} (h : s.store.streams.get p = some x) (n : Nat) :
    s.streamData p n = s.withStore (fun b => { b with
      fifos := b.fifos.set p (b.fifos.get p ++ s.dramBytes (x.slot * 2 ^ 25 + x.next) n),
      streams := b.streams.set p (some (Stream.stalled { x with next := x.next + n }
        (s.store.fifos.get p ++ s.dramBytes (x.slot * 2 ^ 25 + x.next) n).length s.clock)) }) := by
  rw [State.streamData, h]
  dsimp only
  rw [State.stallUpdate_of_some (x := { x with next := x.next + n }) (PerPort.get_set ..)]
  simp [State.withStore, dramAddress, slotSize, PerPort.set_set]

theorem State.streamData_of_none {s : State} {p : Port} (h : s.store.streams.get p = none) (n : Nat) : s.streamData p n = s := by
  rw [State.streamData, h]

theorem State.streamData_onlyChanged (s : State) (p : Port) (n : Nat) : onlyChanged [.store] s (s.streamData p n) := by
  cases h : s.store.streams.get p with
  | none =>
    rw [State.streamData_of_none h]
    exact onlyChanged_mono (onlyChanged_refl s) (by simp)
  | some x =>
    rw [State.streamData_of_some h]
    exact State.withStore_onlyChanged s _ rfl

/-- What a grant's data leave of the store. -/
theorem State.grantData_kept (s : State) (g : Grant) : (s.grantData g).store.grant = none ∧
    (s.grantData g).store.state = s.store.state ∧ (s.grantData g).store.trickle = s.store.trickle ∧
    (s.grantData g).store.wake = s.store.wake ∧ (s.grantData g).store.slots = s.store.slots ∧
    (s.grantData g).store.cut = s.store.cut ∧ (s.grantData g).store.ring1 = s.store.ring1 ∧
    (s.grantData g).store.ring2 = s.store.ring2 := by
  unfold State.grantData
  cases g.who with
  | ingest => exact ⟨rfl, rfl, rfl, rfl, rfl, rfl, rfl, rfl⟩
  | refresh => exact ⟨rfl, rfl, rfl, rfl, rfl, rfl, rfl, rfl⟩
  | stream p =>
    dsimp only
    split
    · exact ⟨rfl, rfl, rfl, rfl, rfl, rfl, rfl, rfl⟩
    · cases h : s.store.streams.get p with
      | none => rw [State.streamData_of_none (by exact h)]; exact ⟨rfl, rfl, rfl, rfl, rfl, rfl, rfl, rfl⟩
      | some x => rw [State.streamData_of_some (by exact h)]; exact ⟨rfl, rfl, rfl, rfl, rfl, rfl, rfl, rfl⟩

theorem State.grantData_onlyChanged (s : State) (g : Grant) : onlyChanged [.store, .memory] s (s.grantData g) := by
  have hfreed := State.withStore_onlyChanged s (fun b => { b with grant := none }) rfl
  unfold State.grantData
  cases g.who with
  | ingest =>
    refine ⟨rfl, rfl, fun y hy => ?_⟩
    cases y <;> simp [Part.same, State.withStore] at hy ⊢
  | refresh => exact onlyChanged_mono (onlyChanged_trans hfreed (State.withStore_onlyChanged _ _ rfl)) (by simp)
  | stream p =>
    dsimp only
    split
    · exact onlyChanged_mono hfreed (by simp)
    · exact onlyChanged_mono (onlyChanged_trans hfreed (State.streamData_onlyChanged _ _ _)) (by simp)

/-- An ingest grant writes the oldest bytes of the buffer where they are bound for. -/
theorem State.grantData_ingest {s : State} {g : Grant} (h : g.who = .ingest) :
    s.grantData g = (s.withStore (fun b => { b with grant := none })).withStore (fun b => b.ingestDone g.bytes) := by
  rw [State.grantData, h]

theorem State.grantData_refresh {s : State} {g : Grant} (h : g.who = .refresh) :
    s.grantData g = (s.withStore (fun b => { b with grant := none })).withStore Store.refreshDone := by
  rw [State.grantData, h]

theorem State.grantData_discarded {s : State} {g : Grant} {p : Port} (h : g.who = .stream p) (hdiscard : g.discard = true) :
    s.grantData g = s.withStore (fun b => { b with grant := none }) := by
  rw [State.grantData, h]
  exact if_pos hdiscard

theorem State.grantData_stream {s : State} {g : Grant} {p : Port} (h : g.who = .stream p) (hdiscard : g.discard = false) :
    s.grantData g = (s.withStore (fun b => { b with grant := none })).streamData p g.bytes := by
  rw [State.grantData, h]
  exact if_neg (by simp [hdiscard])

/-- A stream's grant leaves the buffer, the backlog, the DRAM and the other streams. -/
theorem State.grantData_stream_kept {s : State} {g : Grant} {p : Port} (h : g.who = .stream p) :
    onlyChanged [.store] s (s.grantData g) ∧ (s.grantData g).store.buf = s.store.buf ∧
    (s.grantData g).store.backlog = s.store.backlog ∧
    ∀ q, q ≠ p → (s.grantData g).store.streams.get q = s.store.streams.get q ∧
      (s.grantData g).store.fifos.get q = s.store.fifos.get q := by
  have hfreed := State.withStore_onlyChanged s (fun b => { b with grant := none }) rfl
  cases hdiscard : g.discard with
  | true =>
    rw [State.grantData_discarded h hdiscard]
    exact ⟨hfreed, rfl, rfl, fun q _ => ⟨rfl, rfl⟩⟩
  | false =>
    rw [State.grantData_stream h hdiscard]
    refine ⟨onlyChanged_mono (onlyChanged_trans hfreed (State.streamData_onlyChanged _ _ _)) (by simp), ?_⟩
    cases hx : s.store.streams.get p with
    | none =>
      rw [State.streamData_of_none (by exact hx)]
      exact ⟨rfl, rfl, fun q _ => ⟨rfl, rfl⟩⟩
    | some x =>
      rw [State.streamData_of_some (by exact hx)]
      exact ⟨rfl, rfl, fun q hq => ⟨PerPort.get_set_ne _ _ hq, PerPort.get_set_ne _ _ hq⟩⟩

/-- What a stream's grant brings to its FIFO. -/
theorem State.grantData_stream_read {s : State} {g : Grant} {p : Port} {x : Stream} (h : g.who = .stream p) (hdiscard : g.discard = false)
    (hx : s.store.streams.get p = some x) :
    (s.grantData g).store.fifos.get p = s.store.fifos.get p ++ s.dramBytes (x.slot * 2 ^ 25 + x.next) g.bytes ∧
    (s.grantData g).store.streams.get p = some (Stream.stalled { x with next := x.next + g.bytes }
      ((s.grantData g).store.fifos.get p).length s.clock) := by
  have hdata := State.streamData_of_some (s := s.withStore (fun b => { b with grant := none })) hx g.bytes
  have hfifo : (s.grantData g).store.fifos.get p = s.store.fifos.get p ++ s.dramBytes (x.slot * 2 ^ 25 + x.next) g.bytes := by
    rw [State.grantData_stream h hdiscard, hdata]
    exact PerPort.get_set ..
  refine ⟨hfifo, ?_⟩
  rw [hfifo, State.grantData_stream h hdiscard, hdata]
  exact PerPort.get_set ..

theorem State.dramBytes_getElem? (s : State) (addr : Nat) {n k : Nat} (h : k < n) :
    (s.dramBytes addr n)[k]? = some (s.dramByte (addr + k)) := by
  simp [State.dramBytes, h]

/-- A grant of the rings read from pointers. -/
theorem State.ringGranted.congr {s u t : State} (h : u.ringGranted t) (hring1 : u.store.ring1 = s.store.ring1)
    (hring2 : u.store.ring2 = s.store.ring2) : s.ringGranted t := by
  unfold State.ringGranted at h ⊢
  rwa [← hring1, ← hring2]

/-- The stream, buffer and refresh state after a grant that is not a stream's. -/
theorem State.grantData_streams_of_none {s : State} {g : Grant} (h : s.store.streams = PerPort.all none) :
    (s.grantData g).store.streams = PerPort.all none := by
  cases hwho : g.who with
  | ingest => rw [State.grantData_ingest hwho]; exact h
  | refresh => rw [State.grantData_refresh hwho]; exact h
  | stream p =>
    cases hdiscard : g.discard with
    | true => rw [State.grantData_discarded hwho hdiscard]; exact h
    | false =>
      have hnone : s.store.streams.get p = none := by rw [h, PerPort.get_all]
      rw [State.grantData_stream hwho hdiscard, State.streamData_of_none (by exact hnone)]
      exact h

/-- The arbiter's choice after the data have moved, tier by tier (R146, R147). -/
theorem State.grantDone_chooses {s : State} {g : Grant} {t : State} (ht : t = (s.grantData g).storeSettle)
    (hready : t.store.state = .ready) (hwake : s.store.wake = none) :
    (32768 ≤ t.store.buf.length → t.store.ring1 = s.store.ring1 ∧ t.store.ring2 = s.store.ring2 ∧ t.store.grant =
      some { who := .ingest, bytes := 2048, endAt := t.clock + 16, discard := false }) ∧
    (t.store.buf.length < 32768 → t.store.urgent = true → t.store.ring1 = s.store.ring1 ∧ t.store.ring2 = s.store.ring2 ∧
      t.store.grant = some { who := .refresh, bytes := 0, endAt := t.clock + 35, discard := false }) ∧
    (t.store.buf.length < 32768 → t.store.urgent = false → s.ringGranted t) := by
  obtain ⟨hgrant, -, -, hwake', -, -, hring1, hring2⟩ := s.grantData_kept g
  have hstate : (s.grantData g).store.state = .ready := State.storeSettle_ready (ht ▸ hready)
  have hfree : (s.grantData g).dramFree = true := (State.dramFree_iff _).2 ⟨hstate, hgrant, hwake'.trans hwake⟩
  have hbuf : t.store.buf = (s.grantData g).store.buf := by simp [ht]
  have hurgent : t.store.urgent = (s.grantData g).store.urgent := by simp [ht]
  have hclock : t.clock = (s.grantData g).clock := by simp [ht]
  rw [hbuf, hurgent, hclock, ← hring1, ← hring2]
  refine ⟨fun h => ?_, fun h hu => ?_, fun h hu => ?_⟩
  · obtain ⟨h1, h2, h3⟩ := State.storeSettle_of_half hfree h
    exact ht ▸ ⟨h2, h3, h1⟩
  · obtain ⟨h1, h2, h3⟩ := State.storeSettle_of_urgent hfree h hu
    exact ht ▸ ⟨h2, h3, h1⟩
  · exact ht ▸ (State.storeSettle_ringGranted hfree h hu).congr hring1 hring2

section
variable (s : State) {g : Grant}

theorem State.grantDone_onlyChanged : onlyChanged [.store, .memory] s (s.grantData g).storeSettle :=
  onlyChanged_mono (onlyChanged_trans (s.grantData_onlyChanged g) (State.storeSettle_onlyChanged _)) (by simp)

/-- In STILL the end of the last work owed brings SelfRefresh (R140). -/
theorem State.grantDone_of_quiet (hstate : s.store.state = .ready) (hwake : s.store.wake = none) (hstill : s.fc.cadence = .still)
    (hstreams : s.store.streams = PerPort.all none) (hfilling : ∀ x ∈ s.store.slots, x.state ≠ .filling)
    (hbuf : (s.grantData g).storeSettle.store.buf = []) (hremnant : (s.grantData g).storeSettle.store.remnant = 0)
    (hbacklog : (s.grantData g).storeSettle.store.backlog = 0) (hurgent : (s.grantData g).storeSettle.store.urgent = false) :
    (s.grantData g).storeSettle.store.state = .selfRefresh ∧ (s.grantData g).storeSettle.store.trickle = none ∧
      (s.grantData g).storeSettle.store.grant = none := by
  obtain ⟨hgrant, hstate', -, hwake', hslots, -, -, -⟩ := s.grantData_kept g
  have hfc : (s.grantData g).fc = s.fc := (s.grantData_onlyChanged g).2.2 .frames (by simp)
  rw [State.storeSettle_of_quiet (hstate'.trans hstate) (by rw [hfc]; exact hstill) (State.grantData_streams_of_none hstreams)
    (by rw [hslots]; exact hfilling) (by simpa using hbuf) (by simpa using hremnant) (by simpa using hbacklog) (by simpa using hurgent)
    hgrant (hwake'.trans hwake)]
  exact ⟨rfl, rfl, hgrant⟩

/-- With work owed the store's state and its trickle counter stay. -/
theorem State.grantDone_of_work (h : s.fc.cadence ≠ .still ∨ (s.grantData g).storeSettle.store.streams ≠ PerPort.all none ∨
      (∃ x ∈ s.store.slots, x.state = .filling) ∨ (s.grantData g).storeSettle.store.buf ≠ [] ∨
      (s.grantData g).storeSettle.store.backlog ≠ 0) :
    (s.grantData g).storeSettle.store.state = s.store.state ∧ (s.grantData g).storeSettle.store.trickle = s.store.trickle := by
  obtain ⟨-, hstate, htrickle, -, hslots, -⟩ := s.grantData_kept g
  have hfc : (s.grantData g).fc = s.fc := (s.grantData_onlyChanged g).2.2 .frames (by simp)
  have hwork : (s.grantData g).fc.cadence ≠ .still ∨ (s.grantData g).store.streams ≠ PerPort.all none ∨
      ((s.grantData g).store.firstSlot .filling).isSome ∨ (s.grantData g).store.buf ≠ [] ∨ (s.grantData g).store.backlog ≠ 0 ∨
      (s.grantData g).store.wake.isSome := by
    rw [hfc, Store.firstSlot, hslots]
    rcases h with h | h | h | h | h
    · exact .inl h
    · exact .inr (.inl (by simpa using h))
    · exact .inr (.inr (.inl (by simpa using h)))
    · exact .inr (.inr (.inr (.inl (by simpa using h))))
    · exact .inr (.inr (.inr (.inr (.inl (by simpa using h)))))
  rw [State.storeSettle_stays hwork]
  exact ⟨(State.arbitrate_store _).1.trans hstate, (State.arbitrate_store _).2.1.trans htrickle⟩

theorem State.dramByte_storeSettle (a : Nat) : s.storeSettle.dramByte a = s.dramByte a := by simp [State.dramByte]

/-- The DRAM after an ingest grant. -/
theorem State.grantDone_ingest (h : g.who = .ingest) : let t := (s.grantData g).storeSettle
    t.store.buf = s.store.buf.drop g.bytes ∧ t.store.remnant = s.store.remnant - g.bytes ∧
    t.store.streams = s.store.streams ∧ t.store.fifos = s.store.fifos ∧ t.store.backlog = s.store.backlog ∧
    (∀ a, (∀ x ∈ s.store.buf.take g.bytes, x.1 ≠ a) → t.dramByte a = s.dramByte a) ∧
    ∀ before x after, s.store.buf.take g.bytes = before ++ x :: after → x.1 < 2 ^ 30 → (∀ y ∈ after, y.1 ≠ x.1) →
      t.dramByte x.1 = x.2 := by
  dsimp only
  rw [State.grantData_ingest h]
  refine ⟨by simp [State.withStore, Store.ingestDone], by simp [State.withStore, Store.ingestDone],
    by simp [State.withStore, Store.ingestDone], by simp [State.withStore, Store.ingestDone], by simp [State.withStore, Store.ingestDone],
    fun a ha => ?_, fun before x after hcells hx hafter => ?_⟩
  · rw [State.dramByte_storeSettle]
    exact congrArg (Option.getD · _) (dramRead_writeAll_ne _ _ ha)
  · rw [State.dramByte_storeSettle]
    have hread := dramRead_writeAll_last s.store.dram before after hx hafter
    rw [← hcells] at hread
    exact congrArg (Option.getD · _) hread

theorem State.grantDone_refresh (h : g.who = .refresh) : let t := (s.grantData g).storeSettle
    t.store.backlog = s.store.backlog - 1 ∧ t.store.urgent = (s.store.urgent && decide (2 ≤ s.store.backlog)) ∧ Part.memory.same s t ∧
    t.store.buf = s.store.buf ∧ t.store.streams = s.store.streams ∧ t.store.fifos = s.store.fifos := by
  dsimp only
  rw [State.grantData_refresh h]
  refine ⟨by simp [State.withStore, Store.refreshDone], ?_, by simp [Part.same, State.dramByte, State.withStore, Store.refreshDone],
    by simp [State.withStore, Store.refreshDone], by simp [State.withStore, Store.refreshDone],
    by simp [State.withStore, Store.refreshDone]⟩
  obtain ⟨-, -, -, -, -, hurgent, -⟩ := State.storeSettle_store ((s.withStore (fun b => { b with grant := none })).withStore Store.refreshDone)
  exact hurgent

/-- What a stream's grant changes: its FIFO and its place, unless it is discarded. -/
theorem State.grantDone_stream {p : Port} (h : g.who = .stream p) : let t := (s.grantData g).storeSettle
    Part.memory.same s t ∧ t.store.buf = s.store.buf ∧ t.store.backlog = s.store.backlog ∧
    (∀ q, q ≠ p → t.store.streams.get q = s.store.streams.get q ∧ t.store.fifos.get q = s.store.fifos.get q) ∧
    (g.discard = true → t.store.streams = s.store.streams ∧ t.store.fifos = s.store.fifos) ∧
    (g.discard = false → ∀ x, s.store.streams.get p = some x → ∃ l : List Byte, l.length = g.bytes ∧
      (∀ k, k < g.bytes → l[k]? = some (s.dramByte (x.slot * 2 ^ 25 + x.next + k))) ∧
      t.store.fifos.get p = s.store.fifos.get p ++ l ∧
      t.store.streams.get p = some { x with
        next := x.next + g.bytes,
        stall := if 14336 < (t.store.fifos.get p).length then some (x.stall.getD t.clock) else none }) := by
  dsimp only
  obtain ⟨hparts, hbuf, hbacklog, hothers⟩ := State.grantData_stream_kept (s := s) h
  have hclock : (s.grantData g).clock = s.clock := hparts.2.2 .clock (by simp)
  refine ⟨(onlyChanged_trans hparts (State.storeSettle_onlyChanged _)).2.2 .memory (by simp), by simpa using hbuf,
    by simpa using hbacklog, by simpa using hothers, fun hdiscard => ?_, fun hdiscard x hx => ?_⟩
  · rw [State.grantData_discarded h hdiscard]
    simp [State.withStore]
  · obtain ⟨hfifo, hstream⟩ := State.grantData_stream_read h hdiscard hx
    refine ⟨s.dramBytes (x.slot * 2 ^ 25 + x.next) g.bytes, by simp [State.dramBytes], fun k hk => s.dramBytes_getElem? _ hk,
      by simpa using hfifo, ?_⟩
    have hsettled : (s.grantData g).storeSettle.clock = s.clock := by simpa using hclock
    rw [(State.storeSettle_store _).1, (State.storeSettle_store _).2.1, hstream, hsettled]
    rfl

end

/-- Settles O54: the data of each kind of grant, then what settling chooses. -/
theorem grantEndMovesTheData : Obligations.GrantEndMovesTheData := by
  intro s g hg
  have hdue : s.dueGrant = some g.endAt := by simp [State.dueGrant, hg]
  change completes (execGrantEnd s) _
  refine completes_timed hdue ?_
  rw [State.grantDone_of_some (s := s.begin.reach g.endAt) hg]
  have hchanged := (s.begin.reach g.endAt).grantDone_onlyChanged (g := g)
  refine ⟨hchanged.2.2 .clock (by simp), onlyChanged_of_reach hchanged, ?_, ?_, ?_, ?_, ?_, ?_, ?_, ?_⟩
  · simpa using ((s.begin.reach g.endAt).grantData_kept g).2.2.2.2.1
  · exact (s.begin.reach g.endAt).grantDone_of_quiet
  · exact (s.begin.reach g.endAt).grantDone_of_work
  · simpa using ((s.begin.reach g.endAt).grantData_kept g).2.2.2.2.2.1
  · exact (s.begin.reach g.endAt).grantDone_ingest
  · exact (s.begin.reach g.endAt).grantDone_refresh
  · exact fun p => (s.begin.reach g.endAt).grantDone_stream
  · exact fun hready hwake => State.grantDone_chooses (s := s.begin.reach g.endAt) rfl hready hwake

end Sys2Proof.Machine
end

section
/-! The release and the clearing of slots (R154 to R156). -/

namespace Sys2Proof.Machine

/-! ### RELEASE SLOT (R154) -/

theorem SlotState.releasable_iff (x : SlotState) : x.releasable = true ↔ x ∈ [SlotState.full, .draining, .spent] := by
  cases x <;> simp [SlotState.releasable]

theorem State.slotRelease_of_kept {s : State} {i : Nat} (h : (s.store.slotAt i).state ≠ .draining) :
    s.slotRelease i = ((s.withdraw i).withStore (fun b => b.onSlot i Slot.release)).storeSettle := by
  rw [State.slotRelease]
  split
  · next hdrain _ => exact absurd hdrain h
  · rfl

theorem State.slotRelease_of_drain {s : State} {i : Nat} {p : Port} (h : (s.store.slotAt i).state = .draining)
    (hport : (s.store.slotAt i).drainPort = some p) :
    s.slotRelease i = ((((s.streamClose p .released .full).raiseTo p .streamEnded).withdraw i).withStore (fun b =>
      b.onSlot i Slot.release)).storeSettle := by
  rw [State.slotRelease]
  rw [h, hport]

/-- The slot's record is withdrawn whatever its stream does. -/
theorem State.slotRelease_rq (s : State) (i : Nat) : (s.slotRelease i).rq = (s.withdraw i).rq := by
  rw [State.slotRelease]
  split
  · simp [State.withdraw, State.withRq]
  · simp

/-- A withdrawal takes the slot's records from the queue (R168). -/
theorem State.withdraw_rq (s : State) (i : Nat) : (s.withdraw i).rq.queue = s.rq.queue.filter (fun r => r.slot ≠ i) ∧
    (s.withdraw i).rq.stale = if (s.withdraw i).rq.queue = [] then none else s.rq.stale := by
  refine ⟨rfl, if_congr (List.isEmpty_iff) rfl rfl⟩

theorem State.slotRelease_onlyChanged (s : State) (i : Nat) : onlyChanged [.store, .records, .events] s (s.slotRelease i) := by
  refine ⟨by simp, by simp, fun y hy => ?_⟩
  cases y <;> simp [Part.same, State.dramByte] at hy ⊢

/-- A slot without a drain: Free without pins, else Releasing. -/
theorem State.slotRelease_kept {s : State} {i : Nat} {x : Slot} (hx : s.store.slots[i]? = some x) (h : x.state ≠ .draining) :
    Part.events.same s (s.slotRelease i) ∧ (s.slotRelease i).store.streams = s.store.streams ∧
    (s.slotRelease i).store.slotAt i = (if x.pins = 0 then Slot.freed else { x with state := .releasing, drainPort := none }) ∧
    ∀ j, j ≠ i → (s.slotRelease i).store.slotAt j = s.store.slotAt j := by
  rw [State.slotRelease_of_kept (by rwa [Store.slotAt_of_getElem? hx])]
  refine ⟨by simp [Part.same, State.withdraw, State.withRq, State.withStore],
    by simp [State.withdraw, State.withRq, State.withStore, Store.onSlot], ?_, fun j hj => ?_⟩
  · rw [State.storeSettle_slotAt]
    exact Store.slotAt_onSlot (b := s.store) hx Slot.release
  · rw [State.storeSettle_slotAt]
    exact Store.slotAt_onSlot_ne s.store hj Slot.release

/-- A slot that drains: its stream ends with reason Released as well. -/
theorem State.slotRelease_drain {s : State} {i : Nat} {x : Slot} {q : Port} {y : Stream} (hx : s.store.slots[i]? = some x)
    (h : x.state = .draining) (hport : x.drainPort = some q) (hy : s.store.streams.get q = some y) (hkind : y.kind = .drain)
    (hslot : y.slot = i) :
    (s.slotRelease i).store.slotAt i = (if x.pins = 0 then Slot.freed else { x with state := .releasing, drainPort := none }) ∧
    (∀ j, j ≠ i → (s.slotRelease i).store.slotAt j = s.store.slotAt j) ∧ (s.slotRelease i).store.streams.get q = none ∧
    (s.slotRelease i).store.fifos.get q = [] ∧
    (s.slotRelease i).store.ends.get q = some { slot := i, kind := .drain, reason := .released } ∧
    (s.slotRelease i).pends q .streamEnded ∧ (s.slotRelease i).occurred .streamEnded := by
  subst hslot
  have hentry := Store.slotAt_of_getElem? hx
  rw [State.slotRelease_of_drain (by rw [hentry, h]) (by rw [hentry, hport])]
  have hclose := State.streamClose_of_some hy .released .full
  obtain ⟨hclosed, hempty, hended, -, hothers, -⟩ := State.streamClose_closed hy .released .full
  obtain ⟨hpends, hoccurred, -⟩ := (s.streamClose q .released .full).raiseTo_raised q .streamEnded
  have hget : (s.streamClose q .released .full).store.slots[y.slot]? = some { x with state := .full, drainPort := none } := by
    simp [hclose, State.withStore, Store.discardGrant, Store.onSlot, modifyAt, hx, Slot.streamGone, hkind]
  refine ⟨?_, fun j hj => ?_, by simpa [State.withdraw, State.withRq, State.withStore, Store.onSlot] using hclosed,
    by simpa [State.withdraw, State.withRq, State.withStore, Store.onSlot] using hempty,
    by simpa [State.withdraw, State.withRq, State.withStore, Store.onSlot, hkind] using hended,
    by simpa [State.pends, State.withdraw, State.withRq, State.withStore] using hpends,
    by simpa [State.occurred, State.withdraw, State.withRq, State.withStore] using hoccurred⟩
  · rw [State.storeSettle_slotAt]
    exact Store.slotAt_onSlot (b := (s.streamClose q .released .full).store) hget Slot.release
  · rw [State.storeSettle_slotAt]
    exact (Store.slotAt_onSlot_ne (s.streamClose q .released .full).store hj Slot.release).trans (hothers j hj)

theorem exec_releaseSlot {i : Byte} (p : Port) (s : State) (hi : i.toNat ≤ 31) : exec (.releaseSlot p [i]) s =
    .next ((if (s.store.slotAt i.toNat).state.releasable then answer (s.begin.slotRelease i.toNat) .ok
      else answer s.begin .wrongState).sendTo p) := by
  change execReleaseSlot p [i] s = _
  rw [execReleaseSlot, show lengthIs 1 [i] = true from rfl, State.request_ok, firstByte_cons, if_neg (not_lt.2 hi)]
  rfl

/-! ### CLEAR STORE (R156) -/

theorem exec_clearStore (p : Port) (s : State) : exec (.clearStore p []) s = .next ((answer s.begin.storeClear .ok).sendTo p) := rfl

theorem Slot.clearable_iff (x : Slot) : x.clearable = true ↔ ¬ (x.state = .free ∨ x.state = .filling) := by
  cases h : x.state <;> simp [Slot.clearable, h]

/-- The slots that CLEAR STORE acts on. -/
theorem State.mem_clearSlots {s : State} (hslots : s.store.slots.length = 32) {i : Nat} :
    i ∈ s.clearSlots ↔ ∃ x, s.store.slots[i]? = some x ∧ ¬ (x.state = .free ∨ x.state = .filling) := by
  rw [State.clearSlots, List.mem_filter, List.mem_range, Slot.clearable_iff]
  constructor
  · rintro ⟨hi, h⟩
    have hget : s.store.slots[i]? = some s.store.slots[i] := List.getElem?_eq_getElem (hslots ▸ hi)
    exact ⟨_, hget, Store.slotAt_of_getElem? hget ▸ h⟩
  · rintro ⟨x, hget, h⟩
    exact ⟨hslots ▸ (List.getElem?_eq_some_iff.1 hget).1, Store.slotAt_of_getElem? hget ▸ h⟩

theorem State.mem_clearSlots_slotAt {s : State} (hslots : s.store.slots.length = 32) {i : Nat} :
    i ∈ s.clearSlots ↔ ¬ ((s.store.slotAt i).state = .free ∨ (s.store.slotAt i).state = .filling) := by
  rw [State.mem_clearSlots hslots]
  cases hget : s.store.slots[i]? with
  | none => simp [Store.slotAt, List.getD_eq_getElem?_getD, hget, Slot.freed]
  | some x => simp [Store.slotAt_of_getElem? hget]

/-- One slot cleared: its record withdrawn, its entry Free. -/
def State.clearSlot (s : State) (i : Nat) : State := (s.withdraw i).withStore (fun b => b.onSlot i (fun _ => Slot.freed))

/-- CLEAR STORE once the streams have ended. -/
theorem State.clearAll_eq (s : State) (l : List Nat) : s.clearAll l =
    (if l.any (fun i => (s.store.slotAt i).state = .full) then
      (l.foldl State.clearSlot ([Port.a, .b, .c].foldl (State.clearStream l) s)).raise .storeClearedUnread
     else l.foldl State.clearSlot ([Port.a, .b, .c].foldl (State.clearStream l) s)).storeSettle := rfl

theorem State.clearSlot_slots (s : State) (i j : Nat) : (s.clearSlot i).store.slots[j]? =
    if j = i then (s.store.slots[j]?).map (fun _ => Slot.freed) else s.store.slots[j]? := by
  simp only [State.clearSlot, State.withStore, Store.onSlot, modifyAt, List.getElem?_modify, State.withdraw, State.withRq]
  by_cases h : j = i
  · simp [h]
  · simp [h, Ne.symm h]

/-- Clearing slot by slot frees the slots named and withdraws their records. -/
theorem State.clearSlots_fold (l : List Nat) (s : State) :
    (∀ j, (l.foldl State.clearSlot s).store.slots[j]? =
      if j ∈ l then (s.store.slots[j]?).map (fun _ => Slot.freed) else s.store.slots[j]?) ∧
    (l.foldl State.clearSlot s).rq.queue = s.rq.queue.filter (fun r => r.slot ∉ l) ∧
    (l.foldl State.clearSlot s).links = s.links ∧ (l.foldl State.clearSlot s).store.streams = s.store.streams ∧
    (l.foldl State.clearSlot s).store.fifos = s.store.fifos ∧ (l.foldl State.clearSlot s).store.ends = s.store.ends ∧
    (l.foldl State.clearSlot s).store.buf = s.store.buf ∧ (l.foldl State.clearSlot s).store.cut = s.store.cut ∧
    (l.foldl State.clearSlot s).store.backlog = s.store.backlog ∧ (l.foldl State.clearSlot s).store.dram = s.store.dram := by
  induction l generalizing s with
  | nil => simp
  | cons i rest ih =>
    obtain ⟨hslots, hqueue, hlinks, hstreams, hfifos, hends, hbuf, hcut, hbacklog, hdram⟩ := ih (s.clearSlot i)
    refine ⟨fun j => ?_, ?_, hlinks, hstreams, hfifos, hends, hbuf, hcut, hbacklog, hdram⟩
    · rw [List.foldl_cons, hslots, State.clearSlot_slots]
      by_cases hi : j = i
      · by_cases hrest : j ∈ rest
        · rw [if_pos hrest, if_pos hi, if_pos (List.mem_cons_of_mem _ hrest), Option.map_map]
          rfl
        · rw [if_neg hrest, if_pos hi, if_pos (List.mem_cons.2 (.inl hi))]
      · simp [hi]
    · rw [List.foldl_cons, hqueue]
      simp only [State.clearSlot, State.withdraw, State.withRq, State.withStore, List.filter_filter]
      exact List.filter_congr (fun r _ => by simp [Bool.and_comm])

/-! The streams at a clearing, port by port. -/

/-- What CLEAR STORE reads and changes of a port. -/
def State.samePort (p : Port) (s t : State) : Prop :=
  t.store.streams.get p = s.store.streams.get p ∧ t.store.fifos.get p = s.store.fifos.get p ∧
    t.store.ends.get p = s.store.ends.get p ∧ t.links.pend.get p = s.links.pend.get p

theorem State.samePort.trans {p : Port} {s t u : State} (h : s.samePort p t) (h' : t.samePort p u) : s.samePort p u :=
  ⟨h'.1.trans h.1, h'.2.1.trans h.2.1, h'.2.2.1.trans h.2.2.1, h'.2.2.2.trans h.2.2.2⟩

theorem State.clearStream_of_none {s : State} {p : Port} (h : s.store.streams.get p = none) (l : List Nat) : s.clearStream l p = s := by
  rw [State.clearStream, h]

theorem State.clearStream_of_other {s : State} {p : Port} {x : Stream} {l : List Nat} (h : s.store.streams.get p = some x)
    (hslot : x.slot ∉ l) : s.clearStream l p = s := by
  rw [State.clearStream, h]
  exact if_neg hslot

theorem State.clearStream_of_mem {s : State} {p : Port} {x : Stream} {l : List Nat} (h : s.store.streams.get p = some x)
    (hslot : x.slot ∈ l) : s.clearStream l p = (s.streamClose p .cleared .full).raiseTo p .streamEnded := by
  rw [State.clearStream, h]
  exact if_pos hslot

/-- The end of one port's stream leaves the other ports, the entries of the slots that are not cleared, and the rest of the store. -/
theorem State.clearStream_leaves (s : State) (l : List Nat) (p : Port) : (∀ q, q ≠ p → s.samePort q (s.clearStream l p)) ∧
    (∀ i, i ∉ l → (s.clearStream l p).store.slots[i]? = s.store.slots[i]?) ∧
    (s.clearStream l p).store.slots.length = s.store.slots.length ∧ (s.clearStream l p).store.buf = s.store.buf := by
  cases h : s.store.streams.get p with
  | none =>
    rw [State.clearStream_of_none h]
    exact ⟨fun q _ => ⟨rfl, rfl, rfl, rfl⟩, fun i _ => rfl, rfl, rfl⟩
  | some x =>
    by_cases hslot : x.slot ∈ l
    · obtain ⟨-, -, -, hports, -, -⟩ := State.streamClose_closed h .cleared .full
      rw [State.clearStream_of_mem h hslot]
      refine ⟨fun q hq => ?_, fun i hi => ?_, ?_, ?_⟩
      · obtain ⟨hstream, hfifo, hend⟩ := hports q hq
        refine ⟨hstream, hfifo, hend, ?_⟩
        simpa using ((s.streamClose p .cleared .full).raiseTo_raised p .streamEnded).2.2 q hq
      · have hne : x.slot ≠ i := fun heq => hi (heq ▸ hslot)
        simp [State.streamClose_of_some h, State.withStore, Store.discardGrant, Store.onSlot, modifyAt, hne]
      · simp [State.streamClose_of_some h, State.withStore, Store.discardGrant, Store.onSlot, modifyAt]
      · simp [State.streamClose_of_some h, State.withStore, Store.discardGrant, Store.onSlot]
    · rw [State.clearStream_of_other h hslot]
      exact ⟨fun q _ => ⟨rfl, rfl, rfl, rfl⟩, fun i _ => rfl, rfl, rfl⟩

/-- The streams of all three ports at a clearing. -/
def State.clearStreams (s : State) (l : List Nat) : State := [Port.a, .b, .c].foldl (State.clearStream l) s

theorem State.clearStreams_leaves (s : State) (l : List Nat) :
    (∀ i, i ∉ l → (s.clearStreams l).store.slots[i]? = s.store.slots[i]?) ∧
    (s.clearStreams l).store.slots.length = s.store.slots.length ∧ (s.clearStreams l).store.buf = s.store.buf := by
  obtain ⟨-, ha, hla, hba⟩ := s.clearStream_leaves l .a
  obtain ⟨-, hb, hlb, hbb⟩ := (s.clearStream l .a).clearStream_leaves l .b
  obtain ⟨-, hc, hlc, hbc⟩ := ((s.clearStream l .a).clearStream l .b).clearStream_leaves l .c
  exact ⟨fun i hi => (hc i hi).trans ((hb i hi).trans (ha i hi)), hlc.trans (hlb.trans hla), hbc.trans (hbb.trans hba)⟩

/-- A port's turn comes on a state that has the port as it was, and nothing after it touches the port. -/
theorem State.clearStreams_turn (s : State) (l : List Nat) (q : Port) :
    ∃ u : State, s.samePort q u ∧ (u.clearStream l q).samePort q (s.clearStreams l) := by
  have ha := (s.clearStream_leaves l .a).1
  have hb := ((s.clearStream l .a).clearStream_leaves l .b).1
  have hc := (((s.clearStream l .a).clearStream l .b).clearStream_leaves l .c).1
  cases q with
  | a => exact ⟨s, ⟨rfl, rfl, rfl, rfl⟩, (hb .a (by decide)).trans (hc .a (by decide))⟩
  | b => exact ⟨s.clearStream l .a, ha .b (by decide), hc .b (by decide)⟩
  | c => exact ⟨(s.clearStream l .a).clearStream l .b, (ha .c (by decide)).trans (hb .c (by decide)), ⟨rfl, rfl, rfl, rfl⟩⟩

/-- A stream on a slot cleared ends with reason Cleared; another goes on. -/
theorem State.clearStreams_stream {s : State} {q : Port} {y : Stream} (l : List Nat) (h : s.store.streams.get q = some y) :
    (y.slot ∈ l → (s.clearStreams l).store.streams.get q = none ∧ (s.clearStreams l).store.fifos.get q = [] ∧
      (s.clearStreams l).pends q .streamEnded ∧
      (s.clearStreams l).store.ends.get q = some { slot := y.slot, kind := y.kind, reason := .cleared }) ∧
    (y.slot ∉ l → (s.clearStreams l).store.streams.get q = some y ∧
      (s.clearStreams l).store.fifos.get q = s.store.fifos.get q) := by
  obtain ⟨u, ⟨hstream, hfifo, -, -⟩, hstream', hfifo', hend', hpend'⟩ := s.clearStreams_turn l q
  have hu : u.store.streams.get q = some y := hstream.trans h
  refine ⟨fun hmem => ?_, fun hnot => ?_⟩
  · rw [State.clearStream_of_mem hu hmem] at hstream' hfifo' hend' hpend'
    obtain ⟨hclosed, hempty, hended, -⟩ := State.streamClose_closed hu .cleared .full
    refine ⟨hstream'.trans hclosed, hfifo'.trans hempty, ?_, hend'.trans hended⟩
    rw [State.pends, hpend']
    exact ((u.streamClose q .cleared .full).raiseTo_raised q .streamEnded).1
  · rw [State.clearStream_of_other hu hnot] at hstream' hfifo'
    exact ⟨hstream'.trans hu, hfifo'.trans hfifo⟩

theorem State.clearStreams_of_none {s : State} (h : s.store.streams = PerPort.all none) (l : List Nat) : s.clearStreams l = s := by
  have hnone (p : Port) : s.clearStream l p = s := State.clearStream_of_none (by rw [h, PerPort.get_all]) l
  simp only [State.clearStreams, List.foldl_cons, List.foldl_nil, hnone]

/-! CLEAR STORE as a whole. -/

/-- The state before the event of a clearing and the arbiter's choice. -/
def State.cleared (s : State) (l : List Nat) : State := l.foldl State.clearSlot (s.clearStreams l)

theorem State.clearAll_of_unread {s : State} {l : List Nat} (h : l.any (fun i => (s.store.slotAt i).state = .full) = true) :
    s.clearAll l = ((s.cleared l).raise .storeClearedUnread).storeSettle := by
  rw [State.clearAll_eq, if_pos h]
  rfl

theorem State.clearAll_of_read {s : State} {l : List Nat} (h : l.any (fun i => (s.store.slotAt i).state = .full) = false) :
    s.clearAll l = (s.cleared l).storeSettle := by
  rw [State.clearAll_eq, if_neg (by simp [h])]
  rfl

/-- The event of a clearing leaves the store and the records. -/
theorem State.clearAll_kept (s : State) (l : List Nat) : (s.clearAll l).store.slots = (s.cleared l).store.slots ∧
    (s.clearAll l).rq = (s.cleared l).rq ∧ (s.clearAll l).store.streams = (s.cleared l).store.streams ∧
    (s.clearAll l).store.fifos = (s.cleared l).store.fifos ∧ (s.clearAll l).store.ends = (s.cleared l).store.ends ∧
    (s.clearAll l).store.buf = (s.cleared l).store.buf ∧ (s.clearAll l).store.cut = (s.cleared l).store.cut ∧
    (s.clearAll l).store.backlog = (s.cleared l).store.backlog ∧ (s.clearAll l).store.dram = (s.cleared l).store.dram ∧
    ∀ q k, (s.cleared l).pends q k → (s.clearAll l).pends q k := by
  cases h : l.any (fun i => (s.store.slotAt i).state = .full) with
  | true =>
    rw [State.clearAll_of_unread h]
    refine ⟨by simp, by simp, by simp, by simp, by simp, by simp, by simp, by simp, by simp, fun q k hq => ?_⟩
    exact Invariant.holds.storeSettle (v := .pends q k) (Invariant.holds.raise (v := .pends q k) hq)
  | false =>
    rw [State.clearAll_of_read h]
    refine ⟨by simp, by simp, by simp, by simp, by simp, by simp, by simp, by simp, by simp, fun q k hq => ?_⟩
    exact Invariant.holds.storeSettle (v := .pends q k) hq

theorem State.cleared_kept (s : State) (l : List Nat) : (s.cleared l).rq.queue = s.rq.queue.filter (fun r => r.slot ∉ l) ∧
    (s.cleared l).store.buf = s.store.buf ∧ (s.cleared l).store.cut = s.store.cut ∧ (s.cleared l).store.backlog = s.store.backlog ∧
    (s.cleared l).store.dram = s.store.dram ∧
    ∀ i, (s.cleared l).store.slots[i]? = if i ∈ l then (s.store.slots[i]?).map (fun _ => Slot.freed) else s.store.slots[i]? := by
  obtain ⟨hslots, hqueue, -, -, -, -, hbuf, hcut, hbacklog, hdram⟩ := State.clearSlots_fold l (s.clearStreams l)
  obtain ⟨hother, hlength, hbuf'⟩ := s.clearStreams_leaves l
  refine ⟨hqueue.trans (by simp [State.clearStreams]), hbuf.trans hbuf', hcut.trans (by simp [State.clearStreams]),
    hbacklog.trans (by simp [State.clearStreams]), hdram.trans (by simp [State.clearStreams]), fun i => (hslots i).trans ?_⟩
  by_cases hi : i ∈ l
  · rw [if_pos hi, if_pos hi]
    by_cases hlt : i < s.store.slots.length
    · rw [List.getElem?_eq_getElem hlt, List.getElem?_eq_getElem (hlength ▸ hlt)]
      rfl
    · rw [List.getElem?_eq_none (not_lt.1 hlt), List.getElem?_eq_none (hlength ▸ not_lt.1 hlt)]
  · rw [if_neg hi, if_neg hi, hother i hi]

theorem State.clearAll_txn (s : State) (l : List Nat) : (s.clearAll l).links.txn = s.links.txn := by
  have hlinks : (s.cleared l).links = (s.clearStreams l).links := (State.clearSlots_fold l (s.clearStreams l)).2.2.1
  have htxn : (s.cleared l).links.txn = s.links.txn := by
    rw [hlinks]
    simp [State.clearStreams]
  cases h : l.any (fun i => (s.store.slotAt i).state = .full) with
  | true => simpa [State.clearAll_of_unread h] using htxn
  | false => simpa [State.clearAll_of_read h] using htxn

theorem State.storeClear_of_none {s : State} (h : s.clearSlots = []) : s.storeClear = s := if_pos (by simp [h])

theorem State.storeClear_of_some {s : State} (h : s.clearSlots ≠ []) : s.storeClear = s.clearAll s.clearSlots :=
  if_neg (by simpa using h)

/-- What CLEAR STORE frees, withdraws and leaves, by the slots it acts on. -/
theorem State.storeClear_kept (s : State) : s.storeClear.rq.queue = s.rq.queue.filter (fun r => r.slot ∉ s.clearSlots) ∧
    s.storeClear.store.buf = s.store.buf ∧ s.storeClear.store.cut = s.store.cut ∧ s.storeClear.store.backlog = s.store.backlog ∧
    s.storeClear.store.dram = s.store.dram ∧ s.storeClear.links.txn = s.links.txn ∧
    ∀ i, s.storeClear.store.slots[i]? =
      if i ∈ s.clearSlots then (s.store.slots[i]?).map (fun _ => Slot.freed) else s.store.slots[i]? := by
  by_cases h : s.clearSlots = []
  · rw [State.storeClear_of_none h, h]
    simp
  · obtain ⟨hqueue, hbuf, hcut, hbacklog, hdram, hslots⟩ := s.cleared_kept s.clearSlots
    obtain ⟨hslots', hrq', -, -, -, hbuf', hcut', hbacklog', hdram', -⟩ := s.clearAll_kept s.clearSlots
    rw [State.storeClear_of_some h, hslots', hrq']
    exact ⟨hqueue, hbuf'.trans hbuf, hcut'.trans hcut, hbacklog'.trans hbacklog, hdram'.trans hdram, s.clearAll_txn _, hslots⟩

theorem State.storeClear_onlyChanged (s : State) : onlyChanged [.store, .records, .events] s s.storeClear := by
  obtain ⟨-, -, -, -, hdram, htxn, -⟩ := s.storeClear_kept
  refine ⟨by simp, by simp, fun y hy => ?_⟩
  cases y <;> simp [Part.same, State.dramByte, hdram, htxn] at hy ⊢

/-- The streams at a CLEAR STORE. -/
theorem State.storeClear_stream {s : State} {q : Port} {y : Stream} (h : s.store.streams.get q = some y) :
    (y.slot ∈ s.clearSlots → s.storeClear.store.streams.get q = none ∧ s.storeClear.store.fifos.get q = [] ∧
      s.storeClear.pends q .streamEnded ∧
      s.storeClear.store.ends.get q = some { slot := y.slot, kind := y.kind, reason := .cleared }) ∧
    (y.slot ∉ s.clearSlots → s.storeClear.store.streams.get q = some y ∧
      s.storeClear.store.fifos.get q = s.store.fifos.get q) := by
  by_cases hnone : s.clearSlots = []
  · rw [State.storeClear_of_none hnone, hnone]
    exact ⟨fun hmem => absurd hmem (by simp), fun _ => ⟨h, rfl⟩⟩
  · obtain ⟨-, -, hlinks, hstreams, hfifos, hends, -⟩ := State.clearSlots_fold s.clearSlots (s.clearStreams s.clearSlots)
    obtain ⟨-, -, hstreams', hfifos', hends', -, -, -, -, hpends⟩ := s.clearAll_kept s.clearSlots
    obtain ⟨hmem, hnot⟩ := State.clearStreams_stream s.clearSlots h
    rw [State.storeClear_of_some hnone, hstreams'.trans hstreams, hfifos'.trans hfifos, hends'.trans hends]
    refine ⟨fun hslot => ?_, hnot⟩
    obtain ⟨hclosed, hempty, hpend, hended⟩ := hmem hslot
    refine ⟨hclosed, hempty, hpends q .streamEnded ?_, hended⟩
    rw [State.pends, State.cleared, hlinks]
    exact hpend

/-- An unread frame cleared is told to every port. -/
theorem State.storeClear_of_unread {s : State} (hslots : s.store.slots.length = 32) (h : ∃ x ∈ s.store.slots, x.state = .full) :
    s.storeClear.occurred .storeClearedUnread ∧ ∀ q, s.storeClear.pends q .storeClearedUnread := by
  obtain ⟨x, hx, hfull⟩ := h
  obtain ⟨i, hget⟩ := List.mem_iff_getElem?.1 hx
  have hmem : i ∈ s.clearSlots := (State.mem_clearSlots hslots).2 ⟨x, hget, by simp [hfull]⟩
  have hany : s.clearSlots.any (fun i => (s.store.slotAt i).state = .full) = true :=
    List.any_eq_true.2 ⟨i, hmem, by simp [Store.slotAt_of_getElem? hget, hfull]⟩
  rw [State.storeClear_of_some (List.ne_nil_of_mem hmem), State.clearAll_of_unread hany]
  obtain ⟨hoccurred, hpends⟩ := (s.cleared s.clearSlots).raise_raised .storeClearedUnread
  exact ⟨Invariant.holds.storeSettle (v := .occurred .storeClearedUnread) hoccurred,
    fun q => Invariant.holds.storeSettle (v := .pends q .storeClearedUnread) (hpends q)⟩

/-- Without a Full slot or a stream, no event is raised. -/
theorem State.storeClear_of_read {s : State} (h : ∀ x ∈ s.store.slots, x.state ≠ .full)
    (hstreams : s.store.streams = PerPort.all none) : Part.events.same s s.storeClear := by
  suffices hlinks : s.storeClear.links = s.links by simp [Part.same, hlinks]
  have hany : s.clearSlots.any (fun i => (s.store.slotAt i).state = .full) = false := by
    rw [List.any_eq_false]
    intro i _
    cases hget : s.store.slots[i]? with
    | none => simp [Store.slotAt, List.getD_eq_getElem?_getD, hget, Slot.freed]
    | some x => simpa [Store.slotAt_of_getElem? hget] using h x (List.mem_of_getElem? hget)
  by_cases hnone : s.clearSlots = []
  · rw [State.storeClear_of_none hnone]
  · obtain ⟨-, -, hlinks, -⟩ := State.clearSlots_fold s.clearSlots (s.clearStreams s.clearSlots)
    have hsettle (v : State) : v.storeSettle.links = v.links := by simp
    rw [State.storeClear_of_some hnone, State.clearAll_of_read hany, hsettle, State.cleared, hlinks,
      State.clearStreams_of_none hstreams]

/-! What CLEAR STORE does, by the state of the slots. -/

section
variable {s : State} (hslots : s.store.slots.length = 32)
include hslots

theorem State.storeClear_slots {i : Nat} {x : Slot} (hx : s.store.slots[i]? = some x) :
    s.storeClear.store.slots[i]? = some (if x.state = .free ∨ x.state = .filling then x else Slot.freed) := by
  obtain ⟨-, -, -, -, -, -, hentries⟩ := s.storeClear_kept
  rw [hentries i, hx]
  by_cases hquiet : x.state = .free ∨ x.state = .filling
  · rw [if_neg (fun hi => (State.mem_clearSlots_slotAt hslots).1 hi (Store.slotAt_of_getElem? hx ▸ hquiet)), if_pos hquiet]
  · rw [if_pos ((State.mem_clearSlots_slotAt hslots).2 (Store.slotAt_of_getElem? hx ▸ hquiet)), if_neg hquiet]
    rfl

theorem State.storeClear_queue : s.storeClear.rq.queue = s.rq.queue.filter (fun r =>
    (s.store.slotAt r.slot).state = .free || (s.store.slotAt r.slot).state = .filling) := by
  obtain ⟨hqueue, -⟩ := s.storeClear_kept
  refine hqueue.trans (List.filter_congr (fun r _ => ?_))
  simp [State.mem_clearSlots_slotAt hslots]

theorem State.storeClear_stream_by_state {q : Port} {y : Stream} (hy : s.store.streams.get q = some y) :
    ((s.store.slotAt y.slot).state ∉ [.free, .filling] →
      s.storeClear.store.streams.get q = none ∧ s.storeClear.store.fifos.get q = [] ∧ s.storeClear.pends q .streamEnded ∧
      s.storeClear.store.ends.get q = some { slot := y.slot, kind := y.kind, reason := .cleared }) ∧
    ((s.store.slotAt y.slot).state ∈ [.free, .filling] →
      s.storeClear.store.streams.get q = some y ∧ s.storeClear.store.fifos.get q = s.store.fifos.get q) := by
  obtain ⟨hbusy, hquiet⟩ := State.storeClear_stream hy
  rw [State.mem_clearSlots_slotAt hslots] at hbusy hquiet
  exact ⟨fun h => hbusy (by simpa using h), fun h => hquiet (by simpa [imp_iff_not_or] using h)⟩

end

/-- Settles O52: the release by the slot's state, then the clearing by the slots it acts on. -/
theorem slotsAreReleasedAndCleared : Obligations.SlotsAreReleasedAndCleared := by
  refine ⟨fun s p i => ⟨fun hi => ?slot, fun hi hstate => ?state, fun x hx hi hstate => ?release⟩,
    fun s p hslots => ⟨fun hfree => ?nothing, ?clear⟩⟩
  case slot =>
    refine answers_refused (?_ : exec (.releaseSlot p [i]) s = .next ((answer s.begin .badArgument).sendTo p))
    change execReleaseSlot p [i] s = _
    rw [execReleaseSlot, show lengthIs 1 [i] = true from rfl, State.request_ok, firstByte_cons, if_pos hi]
  case state =>
    have hnot : ¬ (s.store.slotAt i.toNat).state.releasable = true := by
      rw [SlotState.releasable_iff]
      intro h
      cases hs : (s.store.slotAt i.toNat).state <;> simp [hs] at h hstate
    have hexec := exec_releaseSlot (i := i) p s hi
    rw [if_neg hnot] at hexec
    exact answers_refused hexec
  case release =>
    have hslot : s.store.slotAt i.toNat = x := Store.slotAt_of_getElem? hx
    have hexec := exec_releaseSlot (i := i) p s hi
    rw [hslot, if_pos ((SlotState.releasable_iff _).2 hstate)] at hexec
    obtain ⟨hqueue, hstale⟩ := s.begin.withdraw_rq i.toNat
    rw [← State.slotRelease_rq] at hqueue hstale
    have hkept := State.slotRelease_kept (s := s.begin) hx
    have hdrain (q : Port) (y : Stream) := State.slotRelease_drain (s := s.begin) (q := q) (y := y) hx
    have hchanged := onlyChanged_of_begin (s.begin.slotRelease_onlyChanged i.toNat)
    generalize s.begin.slotRelease i.toNat = u at hexec hqueue hstale hkept hdrain hchanged
    exact answers_of_sendTo (answer u .ok) hexec rfl hchanged ⟨hqueue, hstale, hkept, hdrain⟩
  case nothing =>
    have hnone : s.begin.clearSlots = [] := List.eq_nil_iff_forall_not_mem.2 (fun i hi => by
      obtain ⟨x, hget, hbusy⟩ := (State.mem_clearSlots (s := s.begin) hslots).1 hi
      exact hbusy (hfree x (List.mem_of_getElem? hget)))
    have hexec := exec_clearStore p s
    rw [State.storeClear_of_none hnone] at hexec
    exact answers_refused hexec
  case clear =>
    obtain ⟨-, hbuf, hcut, hbacklog, -⟩ := s.begin.storeClear_kept
    refine answers_of_sendTo (answer s.begin.storeClear .ok) (exec_clearStore p s) rfl
      (onlyChanged_of_begin s.begin.storeClear_onlyChanged) ⟨?_, ?_, ?_, ?_, ?_, hbuf, hcut, hbacklog⟩
    · exact fun i x => State.storeClear_slots (s := s.begin) hslots
    · exact State.storeClear_queue (s := s.begin) hslots
    · exact fun q y => State.storeClear_stream_by_state (s := s.begin) hslots
    · exact State.storeClear_of_unread (s := s.begin) hslots
    · exact State.storeClear_of_read (s := s.begin)

end Sys2Proof.Machine
end

section
/-! Requests of the link to Lens Drive and Focus Search: what a request does to its actuator's record (R73, R74), and the commands that
make one in Ready (R78 to R82, R90, R100). -/

namespace Sys2Proof.Machine

/-! ### One actuator's record -/

@[simp] theorem State.act_statMove (s : State) (which other : Actuator) : (s.statMove which).act other = s.act other := by
  cases other <;> simp [State.act]

/-- A target taken: the record holds it, and a move is in flight until the position is there (R73). -/
theorem State.drive_act (s : State) (which : Actuator) (x : Int) (o : Origin) (n : Nat) :
    ((s.drive which x o n).1.act which).pos = (s.act which).pos ∧ ((s.drive which x o n).1.act which).target = some x ∧
    ((s.drive which x o n).1.act which).origin = o ∧ ((s.drive which x o n).1.act which).speed = n ∧
    ((s.drive which x o n).1.act which).pending = (s.act which).pending ∧
    ((s.drive which x o n).1.act which).inFlight = decide ((s.act which).pos ≠ some x) ∧
    (s.drive which x o n).2 = decide ((s.act which).pos = some x) := by
  unfold State.drive
  dsimp only
  split_ifs with hthere hflight
  · simp [ActRecord.rest, hthere]
  · simp [hthere, hflight]
  · simp [hthere]

/-- Under the capture hold a request waits as the pending target (R74). -/
theorem State.give_of_hold {s : State} (h : s.hold = true) (which : Actuator) (x : Int) (o : Origin) (n : Nat) :
    s.give which x o n = (s.setAct which { s.act which with
      pending := some { target := s.clampTarget which x, origin := o, speed := n } }, false) := if_pos h

theorem State.give_of_free {s : State} (h : s.hold = false) (which : Actuator) (x : Int) (o : Origin) (n : Nat) :
    s.give which x o n = s.drive which (s.clampTarget which x) o n := if_neg (by simp [h])

/-- A focus request's completion at once renews the completion stamp alone (R77). -/
@[simp] theorem State.giveFocus_lens (s : State) (x : Int) (o : Origin) :
    (s.giveFocus x o).1.lens = (s.give .focus x o 0).1.lens ∧ (s.giveFocus x o).2 = (s.give .focus x o 0).2 := by
  unfold State.giveFocus
  dsimp only
  split
  · next h => exact ⟨rfl, h.symm⟩
  · exact ⟨rfl, rfl⟩

/-! ### Focus and iris requests leave the zoom -/

@[simp] theorem State.drive_focus_zoom (s : State) (x : Int) (o : Origin) (n : Nat) :
    (s.drive .focus x o n).1.lens.zoom = s.lens.zoom := by
  simp only [State.drive]; (repeat' split) <;> simp [State.setAct]

@[simp] theorem State.give_focus_zoom (s : State) (x : Int) (o : Origin) (n : Nat) : (s.give .focus x o n).1.lens.zoom = s.lens.zoom := by
  simp only [State.give]; split <;> simp [State.setAct]

@[simp] theorem State.afDecide_zoom (s : State) : s.afDecide.1.lens.zoom = s.lens.zoom := by
  unfold State.afDecide
  split <;> rfl

@[simp] theorem State.afAdvance_zoom (n : Nat) (s : State) : (State.afAdvance n s).lens.zoom = s.lens.zoom := by
  induction n generalizing s with
  | zero => rfl
  | succ n ih =>
    unfold State.afAdvance
    dsimp only
    split
    · simp
    · split <;> simp [ih]
    · split <;> simp [ih]
    · simp [State.afLock]
    · simp [State.afFail]
    · simp [State.probeEnd, State.setDistance]
    · rfl
    · rfl

@[simp] theorem State.afMove_zoom (s : State) (w : AfWait) (x : Int) : (s.afMove w x).lens.zoom = s.lens.zoom := by
  simp only [State.afMove]; split <;> simp

@[simp] theorem State.afAbort_zoom (s : State) : s.afAbort.lens.zoom = s.lens.zoom := by
  simp only [State.afAbort]; (repeat' split) <;> simp

@[simp] theorem State.afIdle_zoom (s : State) : s.afIdle.lens.zoom = s.lens.zoom := by
  simp only [State.afIdle]; split <;> simp

@[simp] theorem State.afFocusDone_zoom (s : State) (o : Origin) : (s.afFocusDone o).lens.zoom = s.lens.zoom := by
  simp only [State.afFocusDone]; (repeat' split) <;> simp

@[simp] theorem State.requestFocus_zoom (s : State) (x : Int) (o : Origin) : (s.requestFocus x o).lens.zoom = s.lens.zoom := by
  simp only [State.requestFocus]; split <;> simp

@[simp] theorem State.trackingPoint_zoom (s : State) : s.trackingPoint.lens.zoom = s.lens.zoom := by
  simp only [State.trackingPoint, State.trackFocus]; (repeat' split) <;> simp

@[simp] theorem State.zoomDone_zoom (s : State) (o : Origin) : (s.zoomDone o).lens.zoom = s.lens.zoom := by
  simp only [State.zoomDone]; split <;> simp

/-! ### A search given up (R100) -/

theorem State.afAbort_of_other {s : State} (h : s.af.state.searching = false) : s.afAbort = s := if_neg (by simp [h])

/-- A search whose focus target is not its own is given up without a move. -/
theorem State.afAbort_of_foreign {s : State} (h : s.af.state.searching = true) (hown : s.focusOwned = false) :
    s.afAbort = s.withAf FocusSearch.giveUp := by
  have hsame : (s.withAf FocusSearch.giveUp).focusOwned = s.focusOwned := rfl
  rw [State.afAbort, if_pos h]
  exact if_neg (by simp [hsame, hown])

/-- A search whose focus target is its own stops its move at the present position. -/
theorem State.afAbort_of_own {s : State} (h : s.af.state.searching = true) (hready : s.lens.state = .ready) (hown : s.focusOwned = true) :
    s.afAbort = ((s.withAf FocusSearch.giveUp).giveFocus s.focusPos .search).1 := by
  rw [State.afAbort, if_pos h]
  exact if_pos ⟨decide_eq_true hready, hown⟩

theorem State.afIdle_of_searching {s : State} (h : s.af.state.searching = true) : s.afIdle = s.afAbort := if_pos h

theorem State.afIdle_of_other {s : State} (h : s.af.state.searching = false) : s.afIdle = s.afLeave := if_neg (by simp [h])

/-- What giving up a search leaves of Focus Search. -/
theorem State.afIdle_af (s : State) : s.afIdle.af = if s.af.state.searching then s.af.giveUp else s.afLeave.af := by
  cases h : s.af.state.searching with
  | true => rw [State.afIdle_of_searching h, State.afAbort_af h, if_pos rfl]
  | false => rw [State.afIdle_of_other h, if_neg (by decide)]

/-- A completion of a move that is not the search's own gives the search up where it waits for one (R93). -/
theorem State.requestFocus_af {s : State} {o : Origin} (h : o ≠ .search) (x : Int) :
    (s.requestFocus x o).af = s.af ∨ (s.af.state.searching = true ∧ (s.requestFocus x o).af = s.af.giveUp) := by
  unfold State.requestFocus State.afFocusDone
  dsimp only
  split_ifs with hdone hwaits
  · rw [State.afAbort_af (by simpa using hwaits.1)]
    exact .inr ⟨by simpa using hwaits.1, by simp⟩
  · exact .inl (by simp)
  · exact .inl (by simp)

/-! ### AF CANCEL (R100, R102) -/

theorem State.afIdle_onlyChanged (s : State) : onlyChanged [.statistics, .lens, .focus] s s.afIdle := by
  refine ⟨by simp, by simp, fun y hy => ?_⟩
  cases y <;> simp [Part.same, State.dramByte] at hy ⊢

theorem State.afLeave_onlyChanged (s : State) : onlyChanged [.focus] s s.afLeave := by
  refine ⟨by simp, by simp, fun y hy => ?_⟩
  cases y <;> simp [Part.same, State.dramByte] at hy ⊢

theorem State.afLeave_of_idle {s : State} (h : s.af.state = .idle) : s.afLeave = s := if_pos (.inr h)

/-- A lock, tracking or a failure is left with its result. -/
theorem State.afLeave_af {s : State} (h : s.af.state.searching = false) : s.afLeave.af.state = .idle ∧ s.afLeave.af.flock = s.af.flock ∧
    s.afLeave.af.log = s.af.log ∧ s.afLeave.af.result = s.af.result := by
  by_cases hidle : s.af.state = .idle
  · rw [State.afLeave_of_idle hidle]
    exact ⟨hidle, rfl, rfl, rfl⟩
  · rw [State.afLeave, if_neg (by simp [h, hidle])]
    exact ⟨rfl, rfl, rfl, rfl⟩

/-- What going to Idle keeps and sets of Focus Search (R100, R102). -/
theorem State.afIdle_kept (s : State) : s.afIdle.af.state = .idle ∧ s.afIdle.af.flock = s.af.flock ∧ s.afIdle.af.log = s.af.log ∧
    s.afIdle.af.result = if s.af.state.searching then .aborted else s.af.result := by
  rw [State.afIdle_af]
  cases h : s.af.state.searching with
  | true => exact ⟨rfl, rfl, rfl, rfl⟩
  | false => exact State.afLeave_af h

/-- The stop of a search's own move: the present position is its target. -/
theorem State.afIdle_stops {s : State} (hsearching : s.af.state.searching = true) (hready : s.lens.state = .ready) (hhold : s.hold = false)
    (hown : s.lens.focus.origin = .search) : s.afIdle.lens.focus.pos = s.lens.focus.pos ∧
      s.afIdle.lens.focus.target = some (max 0 (min 1023 (s.lens.focus.pos.getD 0))) ∧
      s.afIdle.lens.focus.inFlight = decide (s.afIdle.lens.focus.pos ≠ s.afIdle.lens.focus.target) := by
  have hfocus : s.focusOwned = true := by simp [State.focusOwned, hown]
  obtain ⟨hpos, htarget, -, -, -, hflight, -⟩ := (s.withAf FocusSearch.giveUp).drive_act .focus (clamp 0 1023 s.focusPos) .search 0
  have hlens : s.afIdle.lens = ((s.withAf FocusSearch.giveUp).drive .focus (clamp 0 1023 s.focusPos) .search 0).1.lens := by
    rw [State.afIdle_of_searching hsearching, State.afAbort_of_own hsearching hready hfocus, (State.giveFocus_lens _ _ _).1,
      State.give_of_free (s := s.withAf FocusSearch.giveUp) hhold]
    rfl
  rw [hlens]
  refine ⟨hpos, htarget, hflight.trans ?_⟩
  rw [show ((s.withAf FocusSearch.giveUp).drive .focus (clamp 0 1023 s.focusPos) .search 0).1.lens.focus.pos = _ from hpos,
    show ((s.withAf FocusSearch.giveUp).drive .focus (clamp 0 1023 s.focusPos) .search 0).1.lens.focus.target = _ from htarget]

/-- Settles O44: by whether a search runs. -/
theorem afCancelGoesToIdle : Obligations.AfCancelGoesToIdle := by
  intro s p
  have hexec : exec (.afCancel p []) s = .next ((answer s.begin.afIdle .ok).sendTo p) := rfl
  obtain ⟨hstate, hflock, hlog, hresult⟩ := s.begin.afIdle_kept
  have hchanged := onlyChanged_of_begin s.begin.afIdle_onlyChanged
  have hd : s.begin.afIdle.lens.d = s.lens.d := by simp
  have hstops := State.afIdle_stops (s := s.begin)
  have hquiet (h : s.af.state.searching = false) : onlyChanged [.focus] s s.begin.afIdle := by
    rw [State.afIdle_of_other (s := s.begin) h]
    exact onlyChanged_of_begin s.begin.afLeave_onlyChanged
  have hidle (h : s.af.state = .idle) : onlyChanged [] s s.begin.afIdle := by
    rw [State.afIdle_of_other (s := s.begin) (by simp [h, AfState.searching]), State.afLeave_of_idle (s := s.begin) h]
    exact s.begin_onlyChanged
  generalize s.begin.afIdle = u at hexec hstate hflock hlog hresult hchanged hd hstops hquiet hidle
  exact answers_of_sendTo (answer u .ok) hexec rfl hchanged ⟨hstate, hflock, hlog, hd, hresult,
    fun h => onlyChanged_mono (onlyChanged_trans (hquiet h) (Answer.sendTo_onlyChanged (answer u .ok) p)) (by simp),
    fun h => onlyChanged_mono (onlyChanged_trans (hidle h) (Answer.sendTo_onlyChanged (answer u .ok) p)) (by simp), hstops⟩

/-! ### AF START (R90, R92, R94) -/

/-- The record of Focus Search at a search's beginning, with the start position of its range. -/
def State.searchFrom (s : State) (origin : SearchOrigin) : FocusSearch :=
  let lo := max 0 (s.lens.iv.inf - 32)
  let start := clamp lo s.lens.iv.near s.focusPos
  { s.af with
    state := .coarse, origin := origin, coarse := s.setting ixCoarseStep, fine := s.setting ixFineStep,
    budget := s.settingNat ixSampleBudget, fmin := s.settingNat ixFmin, zone := s.settingNat ixAfZone, lo := lo, hi := s.lens.iv.near,
    start := start, near := startsNear start lo s.lens.iv.near, reversed := false, count := 0, low := 0, f0 := 0, f1 := 0,
    peak := none, best := none, probe := none, log := [], wrapped := false }

theorem State.afStart_eq (s : State) (o : SearchOrigin) :
    s.afStart o = (s.withAf (fun _ => s.searchFrom o)).afMove .sampleMove (s.searchFrom o).start := rfl

/-- The move to a sample's position is a focus request, whether it completes at once or not. -/
theorem State.afMove_lens (s : State) (x : Int) :
    (s.afMove .sampleMove x).lens = ((s.withAf (fun a => { a with wait := .sampleMove })).give .focus x .search 0).1.lens := by
  rw [← (State.giveFocus_lens _ _ _).1]
  unfold State.afMove
  dsimp only
  split
  · unfold State.afAdvance
    simp
  · rfl

/-- A search's first move: to the start position, at once or under the hold (R74, R94). -/
theorem State.afStart_lens (s : State) (o : SearchOrigin) :
    (s.hold = false → (s.afStart o).lens.focus.target = some (clamp 0 1023 (s.searchFrom o).start) ∧
      (s.afStart o).lens.focus.origin = .search) ∧
    (s.hold = true → (s.afStart o).lens.focus.pending =
      some { target := clamp 0 1023 (s.searchFrom o).start, origin := .search, speed := 0 }) := by
  rw [State.afStart_eq, State.afMove_lens]
  generalize hu : (s.withAf (fun _ => s.searchFrom o)).withAf (fun a => { a with wait := .sampleMove }) = u
  have hsame : u.hold = s.hold := by rw [← hu]; rfl
  refine ⟨fun hfree => ?_, fun hhold => ?_⟩
  · rw [State.give_of_free (hsame.trans hfree)]
    obtain ⟨-, htarget, horigin, -⟩ := u.drive_act .focus (u.clampTarget .focus (s.searchFrom o).start) .search 0
    exact ⟨htarget, horigin⟩
  · rw [State.give_of_hold (hsame.trans hhold)]
    rfl

theorem State.afMove_d (s : State) (x : Int) : (s.afMove .sampleMove x).lens.d = s.lens.d := by
  rw [State.afMove_lens]
  simp

theorem State.afStart_d (s : State) (o : SearchOrigin) : (s.afStart o).lens.d = s.lens.d := State.afMove_d _ _

/-- The wait apart, a search begins with its record. -/
theorem State.afStart_record (s : State) (o : SearchOrigin) :
    (s.afStart o).af = { s.searchFrom o with wait := .sampleMove } ∨ (s.afStart o).af = { s.searchFrom o with wait := .sample } :=
  (State.afMove_sampleMove _ _).2

theorem State.afStart_onlyChanged (s : State) (o : SearchOrigin) : onlyChanged [.statistics, .lens, .focus] s (s.afStart o) := by
  refine ⟨by simp, by simp, fun y hy => ?_⟩
  cases y <;> simp [Part.same, State.dramByte, (s.afStart_af o).1] at hy ⊢

/-- An activity request moves the focus and the search no further than its effect did. -/
theorem State.activeStep_lens (f : State → State) (s : State) : (s.activeStep f).lens.focus = (f s).lens.focus ∧
    (s.activeStep f).lens.zoom = (f s).lens.zoom ∧ (s.activeStep f).lens.d = (f s).lens.d ∧ (s.activeStep f).af = (f s).af := by
  simp [State.activeStep]

/-- Settles O43: the search begins in Ready alone. -/
theorem afStartBeginsASearch : Obligations.AfStartBeginsASearch := by
  refine fun s p => ⟨fun hnot => ?refused, fun hready => ?taken⟩
  case refused =>
    have hexec : exec (.afStart p []) s = .next ((answer s.begin.activityOnly .wrongState).sendTo p) := by
      change execAfStart p [] s = _
      rw [execAfStart, show lengthIs 0 [] = true from rfl, State.request_ok, if_neg (by simpa [State.lensReady] using hnot)]
    obtain ⟨htook, hlive⟩ := s.activityOnly_sendTo p .wrongState
    exact answers_of_sendTo (answer s.begin.activityOnly .wrongState) hexec rfl (onlyChanged_of_begin s.begin.activityOnly_onlyChanged)
      ⟨htook, fun h => (hlive h).2⟩
  case taken =>
    have hexec : exec (.afStart p []) s = .next ((answer (s.begin.activeStep (fun x => x.afStart .command)) .ok).sendTo p) := by
      change execAfStart p [] s = _
      rw [execAfStart, show lengthIs 0 [] = true from rfl, State.request_ok, if_pos (by simpa [State.lensReady] using hready)]
    have htook : s.tookActivity (s.begin.activeStep (fun x => x.afStart .command)) :=
      State.activeStep_tookActivity (f := fun x => x.afStart .command) (s := s.begin) (by simp) (by simp)
    have hchanged := onlyChanged_of_begin (onlyChanged_trans (s.begin.afStart_onlyChanged .command)
      (State.activeStep_onlyChanged (fun x => x.afStart .command) s.begin))
    obtain ⟨hfocus, -, hd, haf⟩ := State.activeStep_lens (fun x => x.afStart .command) s.begin
    have hd : (s.begin.activeStep (fun x => x.afStart .command)).lens.d = s.lens.d := hd.trans (s.begin.afStart_d .command)
    obtain ⟨hfree, hhold⟩ := s.begin.afStart_lens .command
    rw [← hfocus] at hfree hhold
    have hrecord := s.begin.afStart_record .command
    rw [← haf] at hrecord
    generalize s.begin.activeStep (fun x => x.afStart .command) = u at hexec htook hchanged hd hfree hhold hrecord
    obtain ⟨w, hw⟩ : ∃ w, u.af = { s.begin.searchFrom .command with wait := w } := hrecord.elim (fun h => ⟨_, h⟩) (fun h => ⟨_, h⟩)
    refine answers_of_sendTo (answer u .ok) hexec rfl (onlyChanged_mono hchanged (by simp [activityParts]))
      ⟨htook, ?_⟩
    rw [show ((answer u .ok).sendTo p).af = u.af from rfl, hw]
    exact ⟨rfl, rfl, rfl, hd, rfl, rfl, rfl, rfl, rfl, rfl, rfl, rfl, rfl, rfl, rfl, rfl, rfl, rfl, rfl, hfree, hhold⟩

/-! ### FOCUS TO (R78, R82, R102) -/

theorem State.afAbort_lens_of_foreign {s : State} (h : s.af.state.searching = true → s.focusOwned = false) : s.afAbort.lens = s.lens := by
  cases hsearching : s.af.state.searching with
  | true => rw [State.afAbort_of_foreign hsearching (h hsearching)]; rfl
  | false => rw [State.afAbort_of_other hsearching]

theorem State.afIdle_lens_of_foreign {s : State} (h : s.af.state.searching = true → s.focusOwned = false) : s.afIdle.lens = s.lens := by
  cases hsearching : s.af.state.searching with
  | true => rw [State.afIdle_of_searching hsearching, State.afAbort_lens_of_foreign h]
  | false => rw [State.afIdle_of_other hsearching]; simp

/-- A request of another origin: its lens record, where a search that it ends does not own the focus. -/
theorem State.requestFocus_lens {s : State} {x : Int} {o : Origin} (ho : o ≠ .search)
    (h : (s.giveFocus x o).1.af.state.searching = true → (s.giveFocus x o).1.focusOwned = false) :
    (s.requestFocus x o).lens = (s.give .focus x o 0).1.lens := by
  rw [← (s.giveFocus_lens x o).1]
  unfold State.requestFocus State.afFocusDone
  dsimp only
  split_ifs with hdone hwaits
  · exact State.afAbort_lens_of_foreign h
  · rfl
  · rfl

theorem State.linkFocus_eq (s : State) (x : Int) :
    s.linkFocus x = ((s.setDistance (clamp 0 1023 x)).requestFocus (clamp 0 1023 x) .link).afIdle := rfl

theorem State.linkFocus_onlyChanged (s : State) (x : Int) :
    onlyChanged [.statistics, .lens, .focus, .events] s (s.linkFocus x) := by
  refine ⟨by simp [State.linkFocus], by simp [State.linkFocus], fun y hy => ?_⟩
  cases y <;> simp [Part.same, State.dramByte, State.linkFocus] at hy ⊢

/-- Focus Search goes to Idle on FOCUS TO (R102). -/
theorem State.linkFocus_af (s : State) (x : Int) : (s.linkFocus x).af.state = .idle ∧
    (s.af.state.searching = true → (s.linkFocus x).af.result = .aborted) := by
  obtain ⟨hidle, -, -, hresult⟩ := ((s.setDistance (clamp 0 1023 x)).requestFocus (clamp 0 1023 x) .link).afIdle_kept
  rw [State.linkFocus_eq]
  refine ⟨hidle, fun hsearching => hresult.trans ?_⟩
  rcases (s.setDistance (clamp 0 1023 x)).requestFocus_af (o := .link) (by decide) (clamp 0 1023 x) with h | ⟨-, h⟩
  · rw [h, if_pos (by simpa [State.setDistance] using hsearching)]
  · rw [h, FocusSearch.giveUp, ite_self]

theorem clamp_clamp (lo hi x : Int) (h : lo ≤ hi) : clamp lo hi (clamp lo hi x) = clamp lo hi x := by
  unfold clamp
  omega

theorem State.requestFocus_d {s : State} {o : Origin} (h : o ≠ .search) (x : Int) : (s.requestFocus x o).lens.d = s.lens.d := by
  unfold State.requestFocus State.afFocusDone
  dsimp only
  rw [if_neg h]
  split_ifs <;> simp

/-- The distance index is held at once, the position stays (R82). -/
theorem State.linkFocus_d (s : State) (x : Int) : (s.linkFocus x).lens.d = some (distanceOf s.lens.iv (clamp 0 1023 x)) ∧
    (s.linkFocus x).lens.focus.pos = s.lens.focus.pos := by
  have hidle (v : State) : v.afIdle.lens.d = v.lens.d := by simp
  rw [State.linkFocus_eq]
  refine ⟨?_, by simp [State.setDistance]⟩
  rw [hidle]
  exact State.requestFocus_d (by decide) _

/-- Without the hold the position is the focus's target (R74). -/
theorem State.linkFocus_of_free {s : State} (hfree : s.hold = false)
    (hown : s.af.state.searching = false ∨ s.lens.focus.pending = none) (x : Int) :
    (s.linkFocus x).lens.focus.target = some (clamp 0 1023 x) ∧ (s.linkFocus x).lens.focus.origin = .link ∧
    (s.linkFocus x).lens.focus.inFlight = decide (s.lens.focus.pos ≠ some (clamp 0 1023 x)) := by
  generalize hu : s.setDistance (clamp 0 1023 x) = u
  have hsame : u.af = s.af ∧ u.lens.focus = s.lens.focus ∧ u.hold = s.hold := by rw [← hu]; exact ⟨rfl, rfl, rfl⟩
  obtain ⟨haf, hfocus, hhold⟩ := hsame
  have hgive := State.give_of_free (hhold.trans hfree) .focus (clamp 0 1023 x) .link 0
  rw [show u.clampTarget .focus (clamp 0 1023 x) = clamp 0 1023 x from clamp_clamp _ _ _ (by decide)] at hgive
  obtain ⟨-, htarget, horigin, -, hpending, hflight, -⟩ := u.drive_act .focus (clamp 0 1023 x) .link 0
  rw [← hgive] at htarget horigin hpending hflight
  have hforeign {v : State} (hvaf : v.af.state.searching = true → s.af.state.searching = true)
      (hv : v.lens = (u.give .focus (clamp 0 1023 x) .link 0).1.lens) : v.af.state.searching = true → v.focusOwned = false := by
    intro hv'
    have hnone : s.lens.focus.pending = none := hown.resolve_left (by rw [hvaf hv']; decide)
    have hpend : v.lens.focus.pending = none := by
      rw [hv]
      exact hpending.trans ((congrArg ActRecord.pending hfocus).trans hnone)
    have horig : v.lens.focus.origin = .link := by
      rw [hv]
      exact horigin
    simp [State.focusOwned, hpend, horig]
  have hrequest : (u.requestFocus (clamp 0 1023 x) .link).lens = (u.give .focus (clamp 0 1023 x) .link 0).1.lens :=
    State.requestFocus_lens (by decide) (hforeign (by simp [haf]) (u.giveFocus_lens _ _).1)
  have hsearching : (u.requestFocus (clamp 0 1023 x) .link).af.state.searching = true → s.af.state.searching = true := by
    rcases u.requestFocus_af (o := .link) (by decide) (clamp 0 1023 x) with h | ⟨h', h⟩
    · rw [h, haf]; exact id
    · rw [haf] at h'; exact fun _ => h'
  rw [State.linkFocus_eq, hu, State.afIdle_lens_of_foreign (hforeign hsearching hrequest), hrequest]
  exact ⟨htarget, horigin, hflight.trans (by rw [show u.act .focus = s.lens.focus from hfocus])⟩

/-- Under the hold it waits. -/
theorem State.linkFocus_of_hold {s : State} (hhold : s.hold = true) (hquiet : s.af.state.searching = false) (x : Int) :
    (s.linkFocus x).lens.focus.pending = some { target := clamp 0 1023 x, origin := .link, speed := 0 } ∧
    (s.linkFocus x).lens.focus.target = s.lens.focus.target := by
  have hgive := State.give_of_hold (s := s.setDistance (clamp 0 1023 x)) hhold .focus (clamp 0 1023 x) .link 0
  have hforeign {v : State} (hv : v.af = s.af) : v.af.state.searching = true → v.focusOwned = false := by
    rw [hv, hquiet]
    exact fun h => absurd h (by decide)
  have hrequest := State.requestFocus_lens (s := s.setDistance (clamp 0 1023 x)) (x := clamp 0 1023 x) (o := .link) (by decide)
    (hforeign (by simp [State.setDistance]))
  rcases (s.setDistance (clamp 0 1023 x)).requestFocus_af (o := .link) (by decide) (clamp 0 1023 x) with haf | ⟨h, -⟩
  · rw [State.linkFocus_eq, State.afIdle_lens_of_foreign (hforeign haf), hrequest, hgive]
    refine ⟨?_, rfl⟩
    rw [State.clampTarget, clamp_clamp _ _ _ (by decide)]
    rfl
  · exact absurd (h.symm.trans hquiet) (by decide)

theorem exec_focusTo_refused {s : State} (h : s.lens.state ≠ .ready) (p : Port) (a b : Byte) :
    exec (.focusTo p [a, b]) s = .next ((answer s.begin.activityOnly .wrongState).sendTo p) := by
  change execFocusTo p [a, b] s = _
  rw [execFocusTo, show lengthIs 2 [a, b] = true from rfl, State.request_ok, if_neg (by simpa [State.lensReady] using h)]

theorem exec_focusTo_taken {s : State} (h : s.lens.state = .ready) (p : Port) (a b : Byte) : exec (.focusTo p [a, b]) s =
    .next ((answer (s.begin.activeStep (fun x => x.linkFocus (focusTarget [a, b])))
      (s.begin.clampStatus .focus (focusTarget [a, b]) .ok)).sendTo p) := by
  change execFocusTo p [a, b] s = _
  rw [execFocusTo, show lengthIs 2 [a, b] = true from rfl, State.request_ok, if_pos (by simpa [State.lensReady] using h)]

theorem field_two (a b : Byte) (rest : List Byte) : field (a :: b :: rest) 0 2 = a.toNat * 256 + b.toNat := by
  simp [field, bigEndian]

/-- Settles O40: taken in Ready alone; there by the hold and the search. -/
theorem focusToSetsTargetAndDistance : Obligations.FocusToSetsTargetAndDistance := by
  refine fun s p a b x hx => ⟨fun hnot => ?refused, fun hready => ?taken⟩
  case refused =>
    obtain ⟨htook, hlive⟩ := s.activityOnly_sendTo p .wrongState
    exact answers_of_sendTo (answer s.begin.activityOnly .wrongState) (exec_focusTo_refused hnot p a b) rfl
      (onlyChanged_of_begin s.begin.activityOnly_onlyChanged)
      ⟨htook, by simp [State.activityOnly, State.activeStep], by simp [State.activityOnly, State.activeStep], fun h => (hlive h).2⟩
  case taken =>
    have htarget : focusTarget [a, b] = (a.toNat * 256 + b.toNat : Nat) := congrArg Nat.cast (field_two a b [])
    have hclamp : clamp 0 1023 (focusTarget [a, b]) = x := by
      rw [htarget, hx, clamp]
      omega
    have hstatus : s.begin.clampStatus .focus (focusTarget [a, b]) .ok = if a.toNat * 256 + b.toNat ≤ 1023 then .ok else .adjusted := by
      refine if_congr ?_ rfl rfl
      rw [show s.begin.clampTarget .focus (focusTarget [a, b]) = clamp 0 1023 (focusTarget [a, b]) from rfl, hclamp, hx, htarget]
      omega
    have hexec := exec_focusTo_taken hready p a b
    rw [hstatus] at hexec
    have htook : s.tookActivity (s.begin.activeStep (fun x => x.linkFocus (focusTarget [a, b]))) :=
      State.activeStep_tookActivity (f := fun x => x.linkFocus (focusTarget [a, b])) (s := s.begin) (by simp) (by simp)
    have hchanged := onlyChanged_of_begin (onlyChanged_trans (s.begin.linkFocus_onlyChanged (focusTarget [a, b]))
      (State.activeStep_onlyChanged (fun x => x.linkFocus (focusTarget [a, b])) s.begin))
    obtain ⟨hfocus, -, hd, haf⟩ := State.activeStep_lens (fun x => x.linkFocus (focusTarget [a, b])) s.begin
    obtain ⟨hdistance, hpos⟩ := s.begin.linkFocus_d (focusTarget [a, b])
    obtain ⟨hidle, haborted⟩ := s.begin.linkFocus_af (focusTarget [a, b])
    have hfree (h : s.hold = false) (hown : s.af.state.searching = false ∨ s.lens.focus.pending = none) :=
      State.linkFocus_of_free (s := s.begin) h hown (focusTarget [a, b])
    have hhold (h : s.hold = true) (hquiet : s.af.state.searching = false) :=
      State.linkFocus_of_hold (s := s.begin) h hquiet (focusTarget [a, b])
    rw [← haf] at hidle haborted
    rw [← hd] at hdistance
    rw [← hfocus] at hpos hfree hhold
    rw [hclamp] at hdistance hfree hhold
    generalize s.begin.activeStep (fun x => x.linkFocus (focusTarget [a, b])) = u
      at hexec htook hchanged hidle haborted hdistance hpos hfree hhold
    exact answers_of_sendTo (answer u _) hexec rfl (onlyChanged_mono hchanged (by simp [activityParts]))
      ⟨htook, hdistance, hpos, hidle, haborted, hfree, hhold⟩

/-! ### ZOOM TO and ZOOM RUN (R79, R81) -/

/-- The tracking point of a zoom move gives up a search that waits for a focus move, and changes nothing else of it. -/
theorem State.trackingPoint_af (s : State) : s.trackingPoint.af = s.af ∨ (s.af.state.searching = true ∧ s.trackingPoint.af = s.af.giveUp) := by
  have hiris (t : State) : t.trackIris.af = t.af := by simp
  unfold State.trackingPoint State.trackFocus
  split_ifs
  · exact .inl (hiris _)
  · rw [hiris]
    exact State.requestFocus_af (by decide) _
  · exact .inl rfl

theorem State.requestZoom_of_done {s : State} {x : Int} {o : Origin} {n : Nat} (h : (s.give .zoom x o n).2 = true) :
    s.requestZoom x o n = (s.give .zoom x o n).1.zoomDone o := if_pos h

theorem State.requestZoom_of_started {s : State} {x : Int} {o : Origin} {n : Nat} (h : (s.give .zoom x o n).2 = false) :
    s.requestZoom x o n = (s.give .zoom x o n).1 := if_neg (by simp [h])

theorem State.zoomDone_of_link (s : State) : s.zoomDone .link = (s.raise .zoomReached).trackingPoint := rfl

/-- The zoom's record is the one the request leaves. -/
theorem State.requestZoom_zoom (s : State) (x : Int) (o : Origin) (n : Nat) :
    (s.requestZoom x o n).lens.zoom = (s.give .zoom x o n).1.lens.zoom := by
  unfold State.requestZoom
  dsimp only
  split
  · simp
  · rfl

theorem State.requestZoom_af (s : State) (x : Int) (n : Nat) : (s.requestZoom x .link n).af = s.af ∨
    (s.af.state.searching = true ∧ (s.requestZoom x .link n).af = s.af.giveUp) := by
  have hgive : (s.give .zoom x .link n).1.af = s.af := by simp
  cases h : (s.give .zoom x .link n).2 with
  | true =>
    rw [State.requestZoom_of_done h, State.zoomDone_of_link, ← hgive]
    exact ((s.give .zoom x .link n).1.raise .zoomReached).trackingPoint_af
  | false =>
    rw [State.requestZoom_of_started h]
    exact .inl hgive

/-- A link request for the zoom, and the search it ends (R81, R100). -/
theorem State.linkZoom_requested (s : State) (v : Int) (n : Nat) : s.zoomRequested (s.linkZoom v n) (clamp s.loader.table.zwide 2048 v) n := by
  have hzoom : (s.linkZoom v n).lens.zoom = (s.give .zoom v .link n).1.lens.zoom := by
    rw [State.linkZoom, State.afAbort_zoom, State.requestZoom_zoom]
  have hpos : (s.give .zoom v .link n).1.lens.zoom.pos = s.lens.zoom.pos := by simp
  refine ⟨by rw [hzoom, hpos], fun hhold => ?_, fun hfree => ?_, fun hsearching => ?_⟩
  · rw [hzoom, State.give_of_hold hhold]
    exact ⟨rfl, rfl⟩
  · have hgive : s.give .zoom v .link n = s.drive .zoom (clamp s.loader.table.zwide 2048 v) .link n := State.give_of_free hfree ..
    obtain ⟨-, htarget, horigin, hspeed, -, hflight, hdone⟩ := s.drive_act .zoom (clamp s.loader.table.zwide 2048 v) .link n
    rw [← hgive] at htarget horigin hspeed hflight hdone
    rw [hzoom]
    refine ⟨htarget, horigin, hspeed, hflight, fun hthere => ?_⟩
    have hdone : (s.give .zoom v .link n).2 = true := hdone.trans (decide_eq_true hthere)
    rw [State.linkZoom, State.requestZoom_of_done hdone, State.zoomDone_of_link]
    exact Invariant.holds.afAbort (v := .occurred .zoomReached) (Invariant.holds.trackingPoint (v := .occurred .zoomReached)
      (State.raise_raised _ _).1)
  · rcases s.requestZoom_af v n with h | ⟨-, h⟩
    · rw [State.linkZoom, State.afAbort_af (by rw [h]; exact hsearching)]
      exact ⟨rfl, rfl⟩
    · rw [State.linkZoom, State.afAbort_of_other (by rw [h]; rfl), h]
      exact ⟨rfl, rfl⟩

theorem State.linkZoom_onlyChanged (s : State) (v : Int) (n : Nat) :
    onlyChanged [.statistics, .lens, .focus, .events] s (s.linkZoom v n) := by
  refine ⟨by simp [State.linkZoom], by simp [State.linkZoom], fun y hy => ?_⟩
  cases y <;> simp [Part.same, State.dramByte, State.linkZoom] at hy ⊢

/-- A request for the zoom is read from its record, its events and the search. -/
theorem State.zoomRequested.congr {s t u : State} {x : Int} {n : Nat} (h : s.zoomRequested t x n) (hzoom : u.lens.zoom = t.lens.zoom)
    (hocc : u.links.occ = t.links.occ) (haf : u.af = t.af) : s.zoomRequested u x n := by
  unfold State.zoomRequested State.occurred at h ⊢
  rwa [hzoom, hocc, haf]

/-- A zoom request taken. -/
theorem answers_of_linkZoom {i : Instr} {s : State} {p : Port} {v : Int} {n : Nat} {st : Status}
    (hexec : exec i s = .next ((answer (s.begin.activeStep (fun x => x.linkZoom v n)) st).sendTo p)) :
    answers i s p st [] [.frames, .statistics, .planner, .lens, .focus, .stabilizer, .store, .records, .events, .choices] (fun t =>
      s.tookActivity t ∧ s.zoomRequested t (max s.loader.table.zwide (min 2048 v)) n) := by
  have htook : s.tookActivity (s.begin.activeStep (fun x => x.linkZoom v n)) :=
    State.activeStep_tookActivity (f := fun x => x.linkZoom v n) (s := s.begin) (by simp) (by simp)
  have hchanged := onlyChanged_of_begin (onlyChanged_trans (s.begin.linkZoom_onlyChanged v n)
    (State.activeStep_onlyChanged (fun x => x.linkZoom v n) s.begin))
  obtain ⟨-, hzoom, -, haf⟩ := State.activeStep_lens (fun x => x.linkZoom v n) s.begin
  have hrequested := (s.begin.linkZoom_requested v n).congr hzoom (by simp [State.activeStep]) haf
  generalize s.begin.activeStep (fun x => x.linkZoom v n) = u at hexec htook hchanged hrequested
  exact answers_of_sendTo (answer u st) hexec rfl (onlyChanged_mono hchanged (by simp [activityParts])) ⟨htook, hrequested⟩

/-- A zoom request refused: the activity alone. -/
theorem answers_zoom_refused {i : Instr} {s : State} {p : Port} {st : Status}
    (hexec : exec i s = .next ((answer s.begin.activityOnly st).sendTo p)) :
    answers i s p st [] [.frames, .statistics, .planner, .lens, .stabilizer, .store, .records, .choices] (fun t =>
      s.tookActivity t ∧ t.lens.zoom = s.lens.zoom ∧ (s.fc.cadence = .liveFast → onlyChanged [.transaction p, .frames] s t)) := by
  obtain ⟨htook, hlive⟩ := s.activityOnly_sendTo p st
  exact answers_of_sendTo (answer s.begin.activityOnly st) hexec rfl (onlyChanged_of_begin s.begin.activityOnly_onlyChanged)
    ⟨htook, by simp [State.activityOnly, State.activeStep], fun h => (hlive h).2⟩

theorem speedOk_iff (n : Nat) : speedOk n = true ↔ 1 ≤ n ∧ n ≤ 4 := by simp [speedOk]

theorem zoomToSpeed_eq (a b speed : Byte) : zoomToSpeed [a, b, speed] = speed.toNat := by
  simp [zoomToSpeed, field, bigEndian]

theorem runSpeed_eq (dir speed : Byte) : runSpeed [dir, speed] = speed.toNat := by
  simp [runSpeed, field, bigEndian]

theorem runDirection_eq (dir speed : Byte) : runDirection [dir, speed] = dir.toNat := by
  simp [runDirection, field, bigEndian]

theorem zoomTarget_eq (a b speed : Byte) : zoomTarget [a, b, speed] = ((a.toNat * 256 + b.toNat : Nat) : Int) :=
  congrArg Nat.cast (field_two a b [speed])

section
variable (s : State) (p : Port) (a b dir speed : Byte)

theorem exec_zoomTo : exec (.zoomTo p [a, b, speed]) s = .next (Answer.sendTo
    (if !speedOk speed.toNat then answer s.begin.activityOnly .badArgument
     else if !s.begin.lensReady then answer s.begin.activityOnly .wrongState
     else answer (s.begin.activeStep (fun x => x.linkZoom ((a.toNat * 256 + b.toNat : Nat) : Int) speed.toNat))
      (s.begin.clampStatus .zoom ((a.toNat * 256 + b.toNat : Nat) : Int) .later)) p) := by
  change execZoomTo p [a, b, speed] s = _
  rw [execZoomTo, show lengthIs 3 [a, b, speed] = true from rfl, State.request_ok, zoomToSpeed_eq, zoomTarget_eq]

theorem exec_zoomRun : exec (.zoomRun p [dir, speed]) s = .next (Answer.sendTo
    (if 1 < dir.toNat ∨ !speedOk speed.toNat then answer s.begin.activityOnly .badArgument
     else if !s.begin.lensReady then answer s.begin.activityOnly .wrongState
     else answer (s.begin.activeStep (fun x => x.linkZoom (s.begin.runTarget dir.toNat) speed.toNat)) .later) p) := by
  change execZoomRun p [dir, speed] s = _
  rw [execZoomRun, show lengthIs 2 [dir, speed] = true from rfl, State.request_ok, runSpeed_eq, runDirection_eq]
  rfl

end

/-! ### ZOOM HALT (R80) -/

theorem exec_zoomHalt (s : State) (p : Port) : exec (.zoomHalt p []) s =
    .next ((if s.begin.lensReady then answer s.begin.zoomHalt .ok else answer s.begin .wrongState).sendTo p) := by
  change execZoomHalt p [] s = _
  rw [execZoomHalt, show lengthIs 0 [] = true from rfl, State.request_ok]

theorem State.zoomHalt_of_flight {s : State} (h : s.lens.zoom.inFlight = true) : s.zoomHalt =
    (s.setAct .zoom { s.lens.zoom with target := s.lens.zoom.pos, inFlight := false, stepAt := none }).zoomDone s.lens.zoom.origin := by
  rw [State.zoomHalt]
  exact if_pos h

theorem State.zoomHalt_of_pending {s : State} {m : PendingMove} (h : s.lens.zoom.inFlight = false) (hm : s.lens.zoom.pending = some m) :
    s.zoomHalt = if m.origin = .link then (s.setAct .zoom { s.lens.zoom with pending := none }).raise .zoomReached
      else s.setAct .zoom { s.lens.zoom with pending := none } := by
  rw [State.zoomHalt]
  dsimp only
  rw [if_neg (by simp [h]), hm]

theorem State.zoomHalt_of_none {s : State} (h : s.lens.zoom.inFlight = false) (hm : s.lens.zoom.pending = none) : s.zoomHalt = s := by
  rw [State.zoomHalt]
  dsimp only
  rw [if_neg (by simp [h]), hm]

theorem State.zoomHalt_onlyChanged (s : State) : onlyChanged [.statistics, .lens, .focus, .events] s s.zoomHalt := by
  refine ⟨by simp, by simp, fun y hy => ?_⟩
  cases y <;> simp [Part.same, State.dramByte] at hy ⊢

theorem State.setAct_onlyChanged (s : State) (which : Actuator) (r : ActRecord) : onlyChanged [.lens] s (s.setAct which r) := by
  refine ⟨by simp, by simp, fun y hy => ?_⟩
  cases y <;> simp [Part.same, State.dramByte] at hy ⊢

/-- A link move so ended has reached its position (R81). -/
theorem State.zoomHalt_reached {s : State} (h : s.lens.zoom.inFlight = true) (hlink : s.lens.zoom.origin = .link) :
    s.zoomHalt.occurred .zoomReached ∧ ∀ q, s.zoomHalt.pends q .zoomReached := by
  rw [State.zoomHalt_of_flight h, hlink, State.zoomDone_of_link]
  obtain ⟨hoccurred, hpends⟩ := State.raise_raised (s.setAct .zoom _) .zoomReached
  exact ⟨Invariant.holds.trackingPoint (v := .occurred .zoomReached) hoccurred,
    fun q => Invariant.holds.trackingPoint (v := .pends q .zoomReached) (hpends q)⟩

/-- A pending target dropped. -/
theorem State.zoomHalt_drops {s : State} {m : PendingMove} (h : s.lens.zoom.inFlight = false) (hm : s.lens.zoom.pending = some m) :
    onlyChanged [.lens, .events] s s.zoomHalt ∧ s.zoomHalt.lens = { s.lens with zoom := { s.lens.zoom with pending := none } } ∧
    (m.origin = .link → s.zoomHalt.occurred .zoomReached) ∧ (m.origin ≠ .link → Part.events.same s s.zoomHalt) := by
  have hset := s.setAct_onlyChanged .zoom { s.lens.zoom with pending := none }
  rw [State.zoomHalt_of_pending h hm]
  split_ifs with hlink
  · exact ⟨onlyChanged_mono (onlyChanged_trans hset (State.raise_onlyChanged _ _)) (by simp), rfl, fun _ => (State.raise_raised _ _).1,
      fun hnot => absurd hlink hnot⟩
  · exact ⟨onlyChanged_mono hset (by simp), rfl, fun hlink' => absurd hlink' hlink, fun _ => hset.2.2 .events (by simp)⟩

/-- Settles O39: the checks in order, then the request; ZOOM HALT by the zoom's record. -/
theorem zoomRequestsAreTakenInReady : Obligations.ZoomRequestsAreTakenInReady := by
  have hspeed (n : Byte) (h1 : 1 ≤ n.toNat) (h4 : n.toNat ≤ 4) : ¬ (!speedOk n.toNat) = true := by simp [(speedOk_iff _).2 ⟨h1, h4⟩]
  have hbad (n : Byte) (h : n.toNat = 0 ∨ 4 < n.toNat) : (!speedOk n.toNat) = true := by simp [speedOk]; omega
  have hready (s : State) (h : s.lens.state = .ready) : ¬ (!s.begin.lensReady) = true := by simp [State.lensReady, h]
  have hnot (s : State) (h : s.lens.state ≠ .ready) : (!s.begin.lensReady) = true := by simp [State.lensReady, h]
  refine ⟨fun s p a b speed dir x hx => ?request, fun s p => ⟨fun hstate => ?refused, fun hstate hflight => ?flight,
    fun m hstate hflight hm => ?pending, fun hstate hflight hm => ?nothing⟩⟩
  case request =>
    rcases List.mem_cons.1 hx with rfl | hx
    · refine ⟨fun hcheck => ?_, fun _ h1 h4 hstate => ?_, fun _ h1 h4 hstate => ?_⟩
      · have hexec := exec_zoomTo s p a b speed
        rw [if_pos (hbad speed (hcheck.resolve_left (by simp)))] at hexec
        exact answers_zoom_refused hexec
      · have hexec := exec_zoomTo s p a b speed
        rw [if_neg (hspeed speed h1 h4), if_pos (hnot s hstate)] at hexec
        exact answers_zoom_refused hexec
      · have hexec := exec_zoomTo s p a b speed
        rw [if_neg (hspeed speed h1 h4), if_neg (hready s hstate)] at hexec
        have hstatus : s.begin.clampStatus .zoom ((a.toNat * 256 + b.toNat : Nat) : Int) .later =
            if Instr.zoomTo p [a, b, speed] = .zoomTo p [a, b, speed] ∧ max s.loader.table.zwide
              (min 2048 ((a.toNat * 256 + b.toNat : Nat) : Int)) ≠ ((a.toNat * 256 + b.toNat : Nat) : Int) then .adjusted else .later := by
          rw [State.clampStatus]
          split_ifs <;> simp_all [State.clampTarget, clamp]
        rw [hstatus] at hexec
        exact answers_of_linkZoom hexec
    · obtain rfl := List.mem_singleton.1 hx
      have htarget : s.begin.runTarget dir.toNat = if dir.toNat = 0 then 2048 else s.loader.table.zwide := rfl
      refine ⟨fun hcheck => ?_, fun hdir h1 h4 hstate => ?_, fun hdir h1 h4 hstate => ?_⟩
      · have hexec := exec_zoomRun s p dir speed
        rw [if_pos (hcheck.imp (fun h => by simpa using h) (hbad speed))] at hexec
        exact answers_zoom_refused hexec
      · have hexec := exec_zoomRun s p dir speed
        have hdir : dir.toNat ≤ 1 := of_decide_eq_true hdir
        rw [if_neg (not_or.2 ⟨by omega, hspeed speed h1 h4⟩), if_pos (hnot s hstate)] at hexec
        exact answers_zoom_refused hexec
      · have hexec := exec_zoomRun s p dir speed
        have hdir : dir.toNat ≤ 1 := of_decide_eq_true hdir
        rw [if_neg (not_or.2 ⟨by omega, hspeed speed h1 h4⟩), if_neg (hready s hstate), htarget] at hexec
        have htaken := answers_of_linkZoom hexec
        simpa using htaken
  case refused =>
    have hexec := exec_zoomHalt s p
    rw [if_neg (by simpa [State.lensReady] using hstate)] at hexec
    exact answers_refused hexec
  case flight =>
    have hexec := exec_zoomHalt s p
    rw [if_pos (by simpa [State.lensReady] using hstate)] at hexec
    have hzoom : s.begin.zoomHalt.lens.zoom = { s.lens.zoom with target := s.lens.zoom.pos, inFlight := false, stepAt := none } := by
      rw [State.zoomHalt_of_flight (s := s.begin) hflight, State.zoomDone_zoom]
      rfl
    have hreached := State.zoomHalt_reached (s := s.begin) hflight
    have hchanged := onlyChanged_of_begin s.begin.zoomHalt_onlyChanged
    generalize s.begin.zoomHalt = u at hexec hzoom hreached hchanged
    exact answers_of_sendTo (answer u .ok) hexec rfl hchanged ⟨hzoom, hreached⟩
  case pending =>
    have hexec := exec_zoomHalt s p
    rw [if_pos (by simpa [State.lensReady] using hstate)] at hexec
    obtain ⟨hchanged, hlens, hlink, hother⟩ := State.zoomHalt_drops (s := s.begin) hflight hm
    generalize s.begin.zoomHalt = u at hexec hchanged hlens hlink hother
    exact answers_of_sendTo (answer u .ok) hexec rfl (onlyChanged_of_begin hchanged) ⟨hlens, hlink, hother⟩
  case nothing =>
    have hexec := exec_zoomHalt s p
    rw [if_pos (by simpa [State.lensReady] using hstate), State.zoomHalt_of_none (s := s.begin) hflight hm] at hexec
    exact answers_refused hexec

end Sys2Proof.Machine
end

section
/-! EXTEND and RETRACT (R67 to R71). -/

namespace Sys2Proof.Machine

/-! ### Outside Ready nothing that runs the planner moves the iris (R59) -/

section
variable {s : State} (h : s.lens.state ≠ .ready)
include h

@[simp] theorem State.requestIris_iris : s.requestIris = s := if_neg (by simp [State.lensReady, h])

@[simp] theorem State.plannerRun_iris : s.plannerRun.lens.iris = s.lens.iris := by
  unfold State.plannerRun
  split
  · rfl
  · rw [State.requestIris_iris (by simpa using h)]
    rfl

@[simp] theorem State.creditWatch_iris (b : Bool) : (s.creditWatch b).lens.iris = s.lens.iris := by
  simp only [State.creditWatch]; split <;> simp [h]

@[simp] theorem State.setPenalty_iris (b : Bool) : (s.setPenalty b).lens.iris = s.lens.iris := by
  simp only [State.setPenalty]; split <;> simp [h]

@[simp] theorem State.renewTlive_iris : s.renewTlive.lens.iris = s.lens.iris := by
  simp only [State.renewTlive, State.setTlive]; split <;> simp [h]

@[simp] theorem State.stabSet_iris (x : StabState) : (s.stabSet x).lens.iris = s.lens.iris := by
  simp only [State.stabSet]; (repeat' split) <;> simp [h]

@[simp] theorem State.derive_iris : s.derive.lens.iris = s.lens.iris := by
  simp only [State.derive]; split <;> simp [h]

@[simp] theorem State.calAbort_iris : s.calAbort.lens.iris = s.lens.iris := by
  simp only [State.calAbort]; split <;> simp [State.calEnd, h]

@[simp] theorem State.gatePass_iris : s.gatePass.lens.iris = s.lens.iris := by
  simp [State.gatePass, h]

@[simp] theorem State.leaveIdle_iris : s.leaveIdle.lens.iris = s.lens.iris := by
  simp only [State.leaveIdle]; (repeat' split) <;> simp [h]

@[simp] theorem State.wakeBoth_iris : s.wakeBoth.lens.iris = s.lens.iris := by
  simp only [State.wakeBoth]; (repeat' split) <;> simp [h]

@[simp] theorem State.goLive_iris (x : Cadence) : (s.goLive x).lens.iris = s.lens.iris := by
  simp only [State.goLive]; split <;> simp [h]

@[simp] theorem State.activity_iris : s.activity.lens.iris = s.lens.iris := by
  simp only [State.activity, State.setCadence, reduceCtorEq, if_false]; (repeat' split) <;> simp [h]

@[simp] theorem State.clearShots_iris : s.clearShots.lens.iris = s.lens.iris := by
  simp only [State.clearShots, State.burstCheck]; split <;> simp [h]

end

/-! ### Drives (R73) -/

/-- A drive of the lens is the actuator's drive; a focus move that completes at once renews the completion stamp. -/
@[simp] theorem State.driveLens_lens (s : State) (which : Actuator) (x : Int) (n : Nat) :
    (s.driveLens which x n).lens = (s.drive which x .lens n).1.lens := by
  unfold State.driveLens
  dsimp only
  split <;> rfl

@[simp] theorem State.drive_iv (s : State) (which : Actuator) (x : Int) (o : Origin) (n : Nat) :
    (s.drive which x o n).1.lens.iv = s.lens.iv ∧ (s.drive which x o n).1.lens.sensor = s.lens.sensor := by
  unfold State.drive
  dsimp only
  split_ifs <;> cases which <;> simp [State.setAct]

theorem State.drive_act_ne (s : State) {which other : Actuator} (h : other ≠ which) (x : Int) (o : Origin) (n : Nat) :
    (s.drive which x o n).1.act other = s.act other := by
  unfold State.drive
  dsimp only
  split_ifs <;> simp [State.act_setAct_ne _ _ h]

/-- A drive of the lens leaves the other actuators. -/
theorem State.driveLens_act_ne (s : State) {which other : Actuator} (h : other ≠ which) (x : Int) (n : Nat) :
    (s.driveLens which x n).act other = s.act other := by
  rw [← s.drive_act_ne h x .lens n]
  cases other <;> simp [State.act]

theorem State.driveLens_act (s : State) (which : Actuator) (x : Int) (n : Nat) :
    ((s.driveLens which x n).act which).pos = (s.act which).pos ∧ ((s.driveLens which x n).act which).target = some x ∧
    ((s.driveLens which x n).act which).origin = .lens ∧ ((s.driveLens which x n).act which).speed = n ∧
    ((s.driveLens which x n).act which).inFlight = decide ((s.act which).pos ≠ some x) := by
  obtain ⟨hpos, htarget, horigin, hspeed, -, hflight, -⟩ := s.drive_act which x .lens n
  have hsame : (s.driveLens which x n).act which = (s.drive which x .lens n).1.act which := by cases which <;> simp [State.act]
  rw [hsame]
  exact ⟨hpos, htarget, horigin, hspeed, hflight⟩

/-! ### EXTEND (R69) -/

/-- The iris and the zoom on their way, before it is asked whether both are there. -/
def State.extendMoving (s : State) : State :=
  ((s.withLens (fun l => { l with state := .extending, drive := .extendMoves })).driveLens .iris 0 0).driveLens .zoom
    s.loader.table.zwide 3

theorem State.extendStart_eq (s : State) : s.extendStart = s.extendMoving.extendCheck := rfl

theorem State.extendMoving_lens (s : State) : s.extendMoving.lens.state = .extending ∧ s.extendMoving.lens.d = s.lens.d ∧
    s.extendMoving.lens.iv = s.lens.iv ∧ s.extendMoving.lens.focus = s.lens.focus := by
  refine ⟨by simp [State.extendMoving], by simp [State.extendMoving], by simp [State.extendMoving], ?_⟩
  exact ((State.driveLens_act_ne _ (other := .focus) (by decide) _ _).trans (State.driveLens_act_ne _ (other := .focus) (by decide) 0 0)).trans rfl

theorem State.extendMoving_moves (s : State) : s.extendMoving.lens.iris.target = some 0 ∧
    s.extendMoving.lens.iris.inFlight = decide (s.lens.iris.pos ≠ some 0) ∧
    s.extendMoving.lens.zoom.target = some s.loader.table.zwide ∧ s.extendMoving.lens.zoom.speed = 3 ∧
    s.extendMoving.lens.zoom.origin = .lens ∧
    s.extendMoving.lens.zoom.inFlight = decide (s.lens.zoom.pos ≠ some s.loader.table.zwide) := by
  generalize hu : s.withLens (fun l => { l with state := .extending, drive := .extendMoves }) = u
  have hsame : u.lens.zoom = s.lens.zoom ∧ u.lens.iris = s.lens.iris := by rw [← hu]; exact ⟨rfl, rfl⟩
  have hmoving : s.extendMoving = (u.driveLens .iris 0 0).driveLens .zoom s.loader.table.zwide 3 := by rw [← hu]; rfl
  obtain ⟨-, hiris, -, -, hirisFlight⟩ := u.driveLens_act .iris 0 0
  obtain ⟨-, hzoom, horigin, hspeed, hzoomFlight⟩ := (u.driveLens .iris 0 0).driveLens_act .zoom s.loader.table.zwide 3
  have hkept := (u.driveLens .iris 0 0).driveLens_act_ne (which := .zoom) (other := .iris) (by decide) s.loader.table.zwide 3
  have hkept' := u.driveLens_act_ne (which := .iris) (other := .zoom) (by decide) 0 0
  rw [hmoving]
  exact ⟨(congrArg ActRecord.target hkept).trans hiris,
    (congrArg ActRecord.inFlight hkept).trans (hirisFlight.trans (by rw [show u.act .iris = s.lens.iris from hsame.2])), hzoom, hspeed,
    horigin, hzoomFlight.trans (by rw [hkept', show u.act .zoom = s.lens.zoom from hsame.1])⟩

/-- While the zoom or the iris is not there, the extend waits for them. -/
theorem State.extendStart_of_moving {s : State} (h : s.lens.zoom.pos ≠ some s.loader.table.zwide ∨ s.lens.iris.pos ≠ some 0) :
    s.extendStart = s.extendMoving := by
  obtain ⟨-, hiris, -, -, -, hzoom⟩ := s.extendMoving_moves
  rw [State.extendStart_eq, State.extendCheck, if_pos]
  rw [hiris, hzoom]
  simpa using h

theorem State.extendStart_of_there {s : State} (hzoom : s.lens.zoom.pos = some s.loader.table.zwide) (hiris : s.lens.iris.pos = some 0) :
    s.extendStart = s.extendMoving.extendFocus := by
  obtain ⟨-, hirisFlight, -, -, -, hzoomFlight⟩ := s.extendMoving_moves
  rw [State.extendStart_eq, State.extendCheck, if_neg]
  rw [hirisFlight, hzoomFlight]
  simp [hzoom, hiris]

theorem State.becomeReady_spec (s : State) : s.becomeReady.lens.state = .ready ∧ s.becomeReady.lens.d = s.lens.d ∧
    s.becomeReady.occurred .lensReady := by
  refine ⟨by simp [State.becomeReady, State.withLens], by simp, ?_⟩
  have hraised := ((s.withLens (fun l => { l with state := .ready, drive := .none })).raise_raised .lensReady).1
  exact Invariant.holds.leaveIdle (v := .occurred .lensReady) (Invariant.holds.startTimers (v := .occurred .lensReady)
    (Invariant.holds.plannerRun (v := .occurred .lensReady) (Invariant.holds.derive (v := .occurred .lensReady) hraised)))

/-- The focus's part of an extend: to track(z, 32), and Ready where it is there (R69). -/
theorem State.extendFocus_spec (s : State) : s.extendFocus.lens.d = some 32 ∧
    s.extendFocus.lens.focus.target = some (trackAt s.lens.iv 32) ∧
    (s.lens.focus.pos ≠ some (trackAt s.lens.iv 32) → s.extendFocus.lens.state = s.lens.state) ∧
    (s.lens.focus.pos = some (trackAt s.lens.iv 32) → s.extendFocus.lens.state = .ready ∧ s.extendFocus.occurred .lensReady) := by
  generalize hu : (s.setDistance32.setDrive .extendFocus).driveLens .focus (s.setDistance32.setDrive .extendFocus).curve 0 = u
  obtain ⟨-, htarget, -, -, hflight⟩ :=
    (s.setDistance32.setDrive .extendFocus).driveLens_act .focus (s.setDistance32.setDrive .extendFocus).curve 0
  have hkept : u.lens.d = some 32 ∧ u.lens.state = s.lens.state := by
    rw [← hu]
    simp [State.setDistance32, State.setDrive, State.withLens]
  rw [hu] at htarget hflight
  have hfocus : s.extendFocus = if u.lens.focus.inFlight then u else u.becomeReady := by rw [← hu]; rfl
  have hflight : u.lens.focus.inFlight = decide (s.lens.focus.pos ≠ some (trackAt s.lens.iv 32)) := hflight
  rw [hfocus, hflight]
  by_cases hthere : s.lens.focus.pos = some (trackAt s.lens.iv 32)
  · rw [if_neg (by simp [hthere])]
    obtain ⟨hready, hd, hraised⟩ := u.becomeReady_spec
    exact ⟨hd.trans hkept.1, (congrArg ActRecord.target u.becomeReady_motors.2.1).trans htarget, fun hnot => absurd hthere hnot, fun _ => ⟨hready, hraised⟩⟩
  · rw [if_pos (by simp [hthere])]
    exact ⟨hkept.1, htarget, fun _ => hkept.2, fun h => absurd h hthere⟩

theorem State.extend_onlyChanged (s : State) :
    onlyChanged [.frames, .statistics, .planner, .lens, .stabilizer, .store, .records, .events] s s.extend := by
  refine ⟨by simp, by simp, fun y hy => ?_⟩
  cases y <;> simp [Part.same, State.dramByte] at hy ⊢

theorem State.extendStatus_of_out {s : State} (h : s.lens.state = .intermediate ∨ s.lens.state = .stowed ∧ s.loader.loading = none) :
    s.extendStatus = .later := by
  rcases h with h | ⟨h, hloading⟩
  · simp [State.extendStatus, h]
  · simp [State.extendStatus, h, hloading]

/-- An EXTEND that is not taken is activity alone. -/
theorem State.extend_of_refused {s : State} (h : s.extendStatus ≠ .later) : s.activeStep State.extend = s.activityOnly := by
  have hnot : s.extend = s := if_neg h
  rw [State.activeStep, hnot]
  rfl

theorem exec_extend (s : State) (p : Port) :
    exec (.extend p []) s = .next ((answer (s.begin.activeStep State.extend) s.begin.extendStatus).sendTo p) := rfl

/-- What an EXTEND that is not taken answers and leaves. -/
theorem answers_extend_refused {s : State} (p : Port) {st : Status} (hst : s.extendStatus = st) (h : st ≠ .later) :
    answers (.extend p []) s p st [] [.frames, .statistics, .planner, .lens, .stabilizer, .store, .records, .choices] (fun t =>
      s.tookActivity t ∧ t.lens.state = s.lens.state ∧ t.fc.owed = s.fc.owed ∧ t.fc.continuous = s.fc.continuous ∧
      t.fc.prepare = s.fc.prepare ∧ (s.fc.cadence = .liveFast → onlyChanged [.transaction p, .frames] s t)) := by
  have hexec := exec_extend s p
  have hstatus : s.begin.extendStatus = st := hst
  rw [State.extend_of_refused (hstatus ▸ h), hstatus] at hexec
  obtain ⟨htook, hlive⟩ := s.activityOnly_sendTo p st
  exact answers_of_sendTo (answer s.begin.activityOnly st) hexec rfl (onlyChanged_of_begin s.begin.activityOnly_onlyChanged)
    ⟨htook, by simp [State.activityOnly], by simp [State.activityOnly], by simp [State.activityOnly], by simp [State.activityOnly],
      fun h => (hlive h).2⟩

/-- The extend begun, as seen after the activity that the request is. -/
theorem State.extend_active {s : State} (h : s.lens.state = .intermediate ∨ s.lens.state = .stowed ∧ s.loader.loading = none) :
    (s.lens.zoom.pos ≠ some s.loader.table.zwide ∨ s.lens.iris.pos ≠ some 0 →
      (s.activeStep State.extend).lens.state = .extending ∧ (s.activeStep State.extend).lens.iris.target = some 0 ∧
      (s.activeStep State.extend).lens.zoom.target = some s.loader.table.zwide ∧ (s.activeStep State.extend).lens.zoom.speed = 3 ∧
      (s.activeStep State.extend).lens.zoom.origin = .lens ∧ (s.activeStep State.extend).lens.d = s.lens.d) ∧
    (s.lens.zoom.pos = some s.loader.table.zwide → s.lens.iris.pos = some 0 → (s.activeStep State.extend).lens.d = some 32 ∧
      (s.activeStep State.extend).lens.focus.target = some (trackAt s.lens.iv 32) ∧
      (s.lens.focus.pos ≠ some (trackAt s.lens.iv 32) → (s.activeStep State.extend).lens.state = .extending) ∧
      (s.lens.focus.pos = some (trackAt s.lens.iv 32) → (s.activeStep State.extend).lens.state = .ready ∧
        (s.activeStep State.extend).occurred .lensReady)) := by
  have hextend : s.extend = s.extendStart := if_pos (State.extendStatus_of_out h)
  obtain ⟨hfocus, hzoom, hd, -⟩ := State.activeStep_lens State.extend s
  have hstate : (s.activeStep State.extend).lens.state = s.extend.lens.state := by simp
  obtain ⟨hextending, hdKept, hiv, hfocusKept⟩ := s.extendMoving_lens
  obtain ⟨hirisTarget, -, hzoomTarget, hspeed, horigin, -⟩ := s.extendMoving_moves
  rw [hstate, hfocus, hzoom, hd]
  refine ⟨fun hmoving => ?_, fun hzoomThere hirisThere => ?_⟩
  · rw [State.extendStart_of_moving hmoving] at hextend
    have hiris : (s.activeStep State.extend).lens.iris = s.extend.lens.iris := by
      simp [State.activeStep, hextend, hextending]
    rw [hiris, hextend]
    exact ⟨hextending, hirisTarget, hzoomTarget, hspeed, horigin, hdKept⟩
  · rw [State.extendStart_of_there hzoomThere hirisThere] at hextend
    obtain ⟨hd32, htarget, hstays, hbecomes⟩ := s.extendMoving.extendFocus_spec
    rw [hiv, hfocusKept, ← hextend] at hstays hbecomes
    rw [hiv, ← hextend] at htarget
    rw [← hextend] at hd32
    refine ⟨hd32, htarget, fun hnot => (hstays hnot).trans hextending, fun hthere => ⟨(hbecomes hthere).1, ?_⟩⟩
    exact Invariant.holds.activeStep (v := .occurred .lensReady) (hbecomes hthere).2

/-- Settles O37: by the answer that the lens state gives. -/
theorem extendTakesTheLensOut : Obligations.ExtendTakesTheLensOut := by
  refine fun s p => ⟨fun hout => ?taken, fun hready => ?ready, fun hnot => ?refused⟩
  case taken =>
    have hexec := exec_extend s p
    rw [State.extendStatus_of_out (s := s.begin) hout] at hexec
    have htook : s.tookActivity (s.begin.activeStep State.extend) :=
      State.activeStep_tookActivity (f := State.extend) (s := s.begin) (by simp) (by simp)
    have hchanged := onlyChanged_of_begin (onlyChanged_trans s.begin.extend_onlyChanged (State.activeStep_onlyChanged State.extend s.begin))
    have hactive := State.extend_active (s := s.begin) hout
    generalize s.begin.activeStep State.extend = u at hexec htook hchanged hactive
    exact answers_of_sendTo (answer u .later) hexec rfl (onlyChanged_mono hchanged (by simp [activityParts])) ⟨htook, hactive⟩
  case ready =>
    have hstatus : s.extendStatus = .ok := by simp [State.extendStatus, hready]
    simpa only [hready] using answers_extend_refused p hstatus (by decide)
  case refused =>
    have hstatus : s.extendStatus = .wrongState := by
      rcases hnot with ⟨h, hloading⟩ | h | h | h | h <;> simp [State.extendStatus, h]
      exact fun hnone => by simp [hnone] at hloading
    exact answers_extend_refused p hstatus (by decide)

/-! ### RETRACT (R70, R71) -/

/-- Outside Ready a search is given up without a move. -/
theorem State.afIdle_of_away {s : State} (h : s.lens.state ≠ .ready) : s.afIdle.lens = s.lens := by
  cases hsearching : s.af.state.searching with
  | false =>
    rw [State.afIdle_of_other hsearching]
    simp
  | true =>
    rw [State.afIdle_of_searching hsearching, State.afAbort, if_pos hsearching]
    dsimp only
    rw [if_neg (fun hready => h (of_decide_eq_true hready.1))]
    rfl

@[simp] theorem State.clearShots_motors (s : State) : s.clearShots.lens.zoom = s.lens.zoom ∧ s.clearShots.lens.focus = s.lens.focus ∧
    s.clearShots.lens.sensor = s.lens.sensor ∧ s.clearShots.lens.d = s.lens.d := by
  simp only [State.clearShots, State.burstCheck]
  split <;> simp

/-- What leaving Ready does to the shots, the loop, the search and the Stabilizer (R67). -/
theorem State.leaveReady_lens (s : State) : s.leaveReady.lens.zoom = s.lens.zoom ∧ s.leaveReady.lens.focus = s.lens.focus ∧
    s.leaveReady.lens.sensor = s.lens.sensor ∧ s.leaveReady.lens.d = s.lens.d ∧ s.leaveReady.lens.state = .retracting := by
  generalize hu : (s.withLens (fun l => { l with state := .retracting })).clearShots.stopLoop = u
  have hstate : u.lens.state = .retracting := by rw [← hu]; simp [State.withLens]
  have hmotors : u.lens.zoom = s.lens.zoom ∧ u.lens.focus = s.lens.focus ∧ u.lens.sensor = s.lens.sensor ∧ u.lens.d = s.lens.d := by
    rw [← hu]
    simp [State.withLens]
  have hidle : u.afIdle.lens = u.lens := State.afIdle_of_away (by simp [hstate])
  have hleave : s.leaveReady = u.afIdle.calAbort.derive := by rw [← hu]; rfl
  rw [hleave]
  simp [hidle, hmotors, hstate]

/-- The zoom on its way in. -/
theorem State.retractZoom_spec (s : State) : s.retractZoom.lens.zoom.target = some 0 ∧ s.retractZoom.lens.zoom.speed = 3 ∧
    s.retractZoom.lens.zoom.origin = .lens ∧ s.retractZoom.lens.zoom.inFlight = true ∧
    s.retractZoom.lens.zoom.pos = s.lens.zoom.pos ∧ s.retractZoom.lens.focus = s.lens.focus ∧
    s.retractZoom.lens.iris = s.lens.iris ∧ s.retractZoom.lens.d = s.lens.d ∧ s.retractZoom.lens.sensor = s.lens.sensor ∧
    s.retractZoom.lens.state = s.lens.state := by
  unfold State.retractZoom
  dsimp only
  split_ifs with hflight
  · exact ⟨rfl, rfl, rfl, hflight, rfl, rfl, rfl, rfl, rfl, rfl⟩
  · exact ⟨rfl, rfl, rfl, rfl, rfl, rfl, rfl, rfl, rfl, rfl⟩

/-- The three actuators on their way in, before the zoom's watch is looked at. -/
def State.retractMoving (s : State) : State :=
  ((s.driveLens .focus s.loader.table.park 0).driveLens .iris 0 0).retractZoom

theorem State.retractMoving_spec (s : State) : s.retractMoving.lens.focus.target = some s.loader.table.park ∧
    s.retractMoving.lens.iris.target = some 0 ∧ s.retractMoving.lens.zoom.target = some 0 ∧ s.retractMoving.lens.zoom.speed = 3 ∧
    s.retractMoving.lens.zoom.origin = .lens ∧ s.retractMoving.lens.zoom.inFlight = true ∧
    s.retractMoving.lens.zoom.pos = s.lens.zoom.pos ∧ s.retractMoving.lens.focus.pos = s.lens.focus.pos ∧
    s.retractMoving.lens.d = s.lens.d ∧ s.retractMoving.lens.sensor = s.lens.sensor ∧
    s.retractMoving.lens.state = s.lens.state := by
  obtain ⟨hpos, htarget, -⟩ := s.driveLens_act .focus s.loader.table.park 0
  obtain ⟨-, hiris, -⟩ := (s.driveLens .focus s.loader.table.park 0).driveLens_act .iris 0 0
  have hfocus := (s.driveLens .focus s.loader.table.park 0).driveLens_act_ne (which := .iris) (other := .focus) (by decide) 0 0
  have hzoom := ((s.driveLens .focus s.loader.table.park 0).driveLens_act_ne (which := .iris) (other := .zoom) (by decide) 0 0).trans
    (s.driveLens_act_ne (which := .focus) (other := .zoom) (by decide) s.loader.table.park 0)
  generalize hu : (s.driveLens .focus s.loader.table.park 0).driveLens .iris 0 0 = u at hiris hfocus hzoom
  have hkept : u.lens.d = s.lens.d ∧ u.lens.sensor = s.lens.sensor ∧ u.lens.state = s.lens.state := by
    rw [← hu]
    simp
  have hmoving : s.retractMoving = u.retractZoom := by rw [← hu]; rfl
  obtain ⟨ht, hspeed, horigin, hflight, hzoomPos, hf, hi, hd, hsensor, hstate⟩ := u.retractZoom_spec
  rw [hmoving, hf, hi]
  exact ⟨(congrArg ActRecord.target hfocus).trans htarget, hiris, ht, hspeed, horigin, hflight,
    hzoomPos.trans (congrArg ActRecord.pos hzoom), (congrArg ActRecord.pos hfocus).trans hpos, hd.trans hkept.1,
    hsensor.trans hkept.2.1, hstate.trans hkept.2.2⟩

/-- The lens at the beginning of a retract: out of Ready where it was there (R67, R70). -/
def State.retractFrom (s : State) : State :=
  if s.lensReady then s.leaveReady else s.withLens (fun l => { l with state := .retracting })

theorem State.retractFrom_spec (s : State) : s.retractFrom.lens.zoom = s.lens.zoom ∧ s.retractFrom.lens.focus = s.lens.focus ∧
    s.retractFrom.lens.sensor = s.lens.sensor ∧ s.retractFrom.lens.d = s.lens.d ∧ s.retractFrom.lens.state = .retracting ∧
    s.retractFrom.loader = s.loader := by
  unfold State.retractFrom
  split
  · obtain ⟨hzoom, hfocus, hsensor, hd, hstate⟩ := s.leaveReady_lens
    exact ⟨hzoom, hfocus, hsensor, hd, hstate, by simp⟩
  · exact ⟨rfl, rfl, rfl, rfl, rfl, rfl⟩

theorem State.retractStart_eq (s : State) : s.retractStart =
    if s.lens.zoom.pos.getD 0 ≤ 8 then s.retractFrom.retractMoving.watchBegin s.lens.sensor
    else s.retractFrom.retractMoving.setDrive .retractFar := by
  obtain ⟨hzoom, -, hsensor, -, -, hloader⟩ := s.retractFrom_spec
  obtain ⟨-, -, -, -, -, -, hpos, -, -, hsensor', -⟩ := s.retractFrom.retractMoving_spec
  have hmoving : s.retractFrom.retractMoving =
      ((s.retractFrom.driveLens .focus s.loader.table.park 0).driveLens .iris 0 0).retractZoom := by
    rw [State.retractMoving, hloader]
  rw [← hsensor, ← hsensor', ← hzoom, ← hpos, hmoving]
  rfl

/-- The drives of a retract, and how its zoom is watched (R70, R71). -/
theorem State.retractStart_lens (s : State) : s.retractStart.lens.state = .retracting ∧
    s.retractStart.lens.focus.target = some s.loader.table.park ∧ s.retractStart.lens.iris.target = some 0 ∧
    s.retractStart.lens.zoom.target = some 0 ∧ s.retractStart.lens.zoom.speed = 3 ∧ s.retractStart.lens.zoom.origin = .lens ∧
    s.retractStart.lens.zoom.inFlight = true ∧ s.retractStart.lens.zoom.pos = s.lens.zoom.pos ∧
    s.retractStart.lens.focus.pos = s.lens.focus.pos ∧ s.retractStart.lens.d = s.lens.d ∧
    (∀ z, s.lens.zoom.pos = some z → 8 < z → s.retractStart.lens.drive = .retractFar) ∧
    ∀ z, s.lens.zoom.pos = some z → z ≤ 8 →
      s.retractStart.lens.drive = if s.lens.sensor = .home then .retractOut 0 else .retractWatch := by
  obtain ⟨hzoom, hfocus, -, hd, hstate, hloader⟩ := s.retractFrom_spec
  obtain ⟨hpark, hiris, htarget, hspeed, horigin, hflight, hpos, hfocusPos, hd', -, hstate'⟩ := s.retractFrom.retractMoving_spec
  rw [hloader] at hpark
  rw [hzoom] at hpos
  rw [hfocus] at hfocusPos
  rw [State.retractStart_eq]
  by_cases hnear : s.lens.zoom.pos.getD 0 ≤ 8
  · rw [if_pos hnear]
    exact ⟨hstate'.trans hstate, hpark, hiris, htarget, hspeed, horigin, hflight, hpos, hfocusPos, hd'.trans hd,
      fun z hz hfar => absurd hnear (by rw [hz, Option.getD_some]; omega), fun z _ _ => rfl⟩
  · rw [if_neg hnear]
    exact ⟨hstate'.trans hstate, hpark, hiris, htarget, hspeed, horigin, hflight, hpos, hfocusPos, hd'.trans hd,
      fun z _ _ => rfl, fun z hz hclose => absurd hclose (by rw [hz, Option.getD_some] at hnear; omega)⟩

theorem State.retractMoving_kept (s : State) : s.retractMoving.fc = s.fc ∧ s.retractMoving.af = s.af ∧ s.retractMoving.stab = s.stab ∧
    s.retractMoving.links = s.links := by
  simp [State.retractMoving]

/-- Outside Lens Drive a retract leaves the state as leaving Ready does. -/
theorem State.retractStart_kept (s : State) : s.retractStart.fc = s.retractFrom.fc ∧ s.retractStart.af = s.retractFrom.af ∧
    s.retractStart.stab = s.retractFrom.stab ∧ s.retractStart.links = s.retractFrom.links := by
  obtain ⟨hfc, haf, hstab, hlinks⟩ := s.retractFrom.retractMoving_kept
  rw [State.retractStart_eq]
  split_ifs
  · exact ⟨hfc, haf, hstab, hlinks⟩
  · exact ⟨hfc, haf, hstab, hlinks⟩

/-- What leaving Ready ends (R8, R16, R67, R102, R110, R129). -/
theorem State.leaveReady_ends (s : State) : s.leaveReady.fc.owed = 0 ∧ s.leaveReady.fc.continuous = false ∧
    s.leaveReady.af.state = .idle ∧ s.leaveReady.stab.state ≠ .active ∧ s.leaveReady.stab.state ≠ .calibrating ∧
    (s.burstRunning = true → s.leaveReady.occurred .burstEnded) ∧
    (s.fc.state = .live → s.leaveReady.fc.next = .none ∧ (s.fc.frame = none → s.leaveReady.fc.state = .idle)) := by
  generalize hu : s.withLens (fun l => { l with state := .retracting }) = u
  have hsame : u.fc = s.fc ∧ u.lens.state = .retracting := by rw [← hu]; exact ⟨rfl, rfl⟩
  have hleave : s.leaveReady = u.clearShots.stopLoop.afIdle.calAbort.derive := by rw [← hu]; rfl
  have hfc : s.leaveReady.fc = u.clearShots.stopLoop.fc := by rw [hleave]; simp
  have hshots : u.clearShots.fc.owed = 0 ∧ u.clearShots.fc.continuous = false := by rw [State.clearShots_fc]; exact ⟨rfl, rfl⟩
  have hcalibrating := (u.clearShots.stopLoop.afIdle.calAbort_stab).1
  have hderived : u.clearShots.stopLoop.afIdle.calAbort.derivedState = .off :=
    if_pos (.inr (by simp [State.lensReady, hsame.2]))
  rw [hfc]
  refine ⟨by simpa using hshots.1, by simpa using hshots.2, by rw [hleave]; simp [State.afIdle_state], ?_, ?_, fun hrun => ?_,
    fun hlive => ?_⟩
  · rw [hleave, State.derive_state, hderived]
    split_ifs with h
    · rcases h with h | h <;> simp [h]
    · decide
  · rw [hleave, State.derive_state, hderived]
    split_ifs
    · exact hcalibrating
    · decide
  · have hended := (State.clearShots_ends (s := u) (by simpa [State.burstRunning, hsame.1] using hrun)).2.1
    rw [hleave]
    exact Invariant.holds.derive (v := .occurred .burstEnded) (Invariant.holds.calAbort (v := .occurred .burstEnded)
      (Invariant.holds.afIdle (v := .occurred .burstEnded) (Invariant.holds.stopLoop (v := .occurred .burstEnded) hended)))
  · have hlive' : u.clearShots.fc.state = .live := by simpa [hsame.1] using hlive
    rw [State.stopLoop_fc_of_live hlive']
    exact ⟨rfl, fun hframe => if_pos (by simp [hsame.1, hframe])⟩

theorem State.retract_onlyChanged (s : State) :
    onlyChanged [.frames, .statistics, .planner, .lens, .focus, .stabilizer, .events] s s.retract := by
  refine ⟨by simp, by simp, fun y hy => ?_⟩
  cases y <;> simp [Part.same, State.dramByte] at hy ⊢

theorem exec_retract (s : State) (p : Port) :
    exec (.retract p []) s = .next ((answer (s.begin.watchBusy State.retract) s.begin.retractStatus).sendTo p) := rfl

/-- A RETRACT that is not taken moves the quiet timers at most. -/
theorem answers_retract_refused {s : State} (p : Port) {st : Status} (hst : s.retractStatus = st) (h : st ≠ .later) :
    answers (.retract p []) s p st [] [.frames] (fun t => t.fc = { s.fc with quiet1 := t.fc.quiet1, quiet2 := t.fc.quiet2 }) := by
  have hexec := exec_retract s p
  have hstatus : s.begin.retractStatus = st := hst
  have hnot : s.begin.retract = s.begin := if_neg (hstatus ▸ h)
  have hchanged := State.watchBusy_onlyChanged State.retract s.begin
  obtain ⟨x, y, hsync⟩ := s.begin.retract.quietSync_eq s.begin.busy
  have hsync : s.begin.watchBusy State.retract = _ := hsync
  rw [hnot] at hchanged hsync
  have hfc : (s.begin.watchBusy State.retract).fc = { s.fc with quiet1 := x, quiet2 := y } := by rw [hsync]; rfl
  rw [hstatus] at hexec
  generalize s.begin.watchBusy State.retract = u at hexec hchanged hfc
  exact answers_of_sendTo (answer u st) hexec rfl (onlyChanged_of_begin hchanged) (by
    rw [show ((answer u st).sendTo p).fc = u.fc from rfl, hfc])

/-- A RETRACT taken, as seen after the quiet timers have followed the busy conditions. -/
theorem State.retract_watched {s : State} (h : s.retractStatus = .later) :
    (s.watchBusy State.retract).lens = s.retractStart.lens ∧
    (s.lens.state = .ready → (s.watchBusy State.retract).fc.owed = 0 ∧ (s.watchBusy State.retract).fc.continuous = false ∧
      (s.watchBusy State.retract).af.state = .idle ∧ (s.watchBusy State.retract).stab.state ≠ .active ∧
      (s.watchBusy State.retract).stab.state ≠ .calibrating ∧
      (s.burstRunning = true → (s.watchBusy State.retract).occurred .burstEnded)) ∧
    (s.lens.state = .ready → s.fc.state = .live → (s.watchBusy State.retract).fc.next = .none ∧
      (s.fc.frame = none → (s.watchBusy State.retract).fc.state = .idle)) := by
  have hretract : s.retract = s.retractStart := if_pos h
  obtain ⟨x, y, hsync⟩ := s.retract.quietSync_eq s.busy
  have hwatched : s.watchBusy State.retract = s.retractStart.withFc (fun c => { c with quiet1 := x, quiet2 := y }) := by
    rw [State.watchBusy, hsync, hretract]
  obtain ⟨hfc, haf, hstab, hlinks⟩ := s.retractStart_kept
  rw [hwatched]
  have hleave (hready : s.lens.state = .ready) : s.retractFrom = s.leaveReady := if_pos (decide_eq_true hready)
  obtain ⟨howed, hcontinuous, hidle, hactive, hcalibrating, hburst, hlive⟩ := s.leaveReady_ends
  refine ⟨rfl, fun hready => ?_, fun hready hloop => ?_⟩
  · rw [hleave hready] at hfc haf hstab hlinks
    simp only [State.withFc_fc, State.occurred, State.withFc_frame, hfc, haf, hstab, hlinks]
    exact ⟨howed, hcontinuous, hidle, hactive, hcalibrating, hburst⟩
  · rw [hleave hready] at hfc
    simp only [State.withFc_fc, hfc]
    exact hlive hloop

/-- Settles O38: by the answer that the lens state gives. -/
theorem retractTakesTheLensIn : Obligations.RetractTakesTheLensIn := by
  refine fun s p => ⟨fun hout => ?taken, fun hstowed => ?stowed, fun hnot => ?refused⟩
  case taken =>
    have hstatus : s.begin.retractStatus = .later := by
      rcases hout with h | h | ⟨h, hflight⟩
      · simp [State.retractStatus, h]
      · simp [State.retractStatus, h]
      · have hflight : s.begin.inFlight = false := hflight
        simp [State.retractStatus, h, hflight]
    have hretract : s.begin.retract = s.begin.retractStart := if_pos hstatus
    have hexec := exec_retract s p
    rw [hstatus] at hexec
    have hchanged := onlyChanged_of_begin (onlyChanged_trans s.begin.retract_onlyChanged (State.watchBusy_onlyChanged State.retract s.begin))
    obtain ⟨hlens, hended, hlive⟩ := State.retract_watched hstatus
    obtain ⟨hstate, hpark, hiris, htarget, hspeed, horigin, hinFlight, hpos, hfocusPos, hd, hfar, hnear⟩ := s.begin.retractStart_lens
    rw [← hlens] at hstate hpark hiris htarget hspeed horigin hinFlight hpos hfocusPos hd hfar hnear
    generalize s.begin.watchBusy State.retract = u
      at hexec hchanged hlens hended hlive hstate hpark hiris htarget hspeed horigin hinFlight hpos hfocusPos hd hfar hnear
    refine answers_of_sendTo (answer u .later) hexec rfl (onlyChanged_mono hchanged (by simp))
      ⟨hstate, hpark, hiris, htarget, hspeed, horigin, hinFlight, hpos, hfocusPos, hd, hfar, hnear, fun hready => ?_⟩
    obtain ⟨howed, hcontinuous, hidle, hactive, hcalibrating, hburst⟩ := hended hready
    exact ⟨howed, hcontinuous, hidle, hactive, hcalibrating, hburst, hlive hready⟩
  case stowed =>
    exact answers_retract_refused p (by simp [State.retractStatus, hstowed]) (by decide)
  case refused =>
    have hstatus : s.retractStatus = .wrongState := by
      rcases hnot with h | h | h | ⟨h, hflight⟩
      · simp [State.retractStatus, h]
      · simp [State.retractStatus, h]
      · simp [State.retractStatus, h]
      · simp [State.retractStatus, h, hflight]
    exact answers_retract_refused p hstatus (by decide)

end Sys2Proof.Machine
end

section
/-! The Table Loader (R190 to R195). -/

namespace Sys2Proof.Machine

/-! ### The fields of an image (Table 11-8) -/

theorem imageBytes_of_length {image : List Byte} (h : image.length = 408) : imageBytes image = image := by
  rw [imageBytes, ← h, List.take_left]

theorem imageField_eq {image : List Byte} {off : Nat} (h : off + 2 ≤ image.length) : imageField image off = field image off 2 := by
  have h0 : off < image.length := by omega
  have h1 : off + 1 < image.length := by omega
  have htake : (image.drop off).take 2 = [image[off], image[off + 1]] := by
    rw [List.drop_eq_getElem_cons h0, List.drop_eq_getElem_cons h1]
    rfl
  rw [field, htake, imageField]
  simp [bigEndian, List.getD_eq_getElem?_getD, List.getElem?_eq_getElem h0, List.getElem?_eq_getElem h1]

theorem imageKnot_eq {image : List Byte} (h : image.length = 408) {k : Nat} (hk : k < 33) : imageKnot image k =
    { amin := field image (10 + 12 * k) 2, tlimit := field image (12 + 12 * k) 2,
      inf := field image (14 + 12 * k) 2, near := field image (16 + 12 * k) 2,
      gain := field image (18 + 12 * k) 2, focal := field image (20 + 12 * k) 2 } := by
  have hfield (n : Nat) (hn : n ≤ 10) : imageField image (10 + 12 * k + n) = field image (10 + n + 12 * k) 2 := by
    rw [imageField_eq (by omega), show 10 + 12 * k + n = 10 + n + 12 * k by omega]
  rw [imageKnot, hfield 2 (by omega), hfield 4 (by omega), hfield 6 (by omega), hfield 8 (by omega), hfield 10 (by omega),
    imageField_eq (by omega)]
  rfl

/-! ### The checks (R192) -/

theorem inRange_iff (lo hi x : Int) : inRange lo hi x = true ↔ lo ≤ x ∧ x ≤ hi := by simp [inRange]

/-- A knot's ranges. -/
def Knot.passes (x : Knot) : Prop :=
  (32 ≤ x.amin ∧ x.amin ≤ 128) ∧ (80 ≤ x.tlimit ∧ x.tlimit ≤ 320) ∧ (0 ≤ x.inf ∧ x.inf ≤ 1023) ∧ (0 ≤ x.near ∧ x.near ≤ 1023) ∧
    x.inf ≤ x.near

theorem knotCheck_passed_iff (k : Nat) (x : Knot) : knotCheck k x = .passed ↔ x.passes := by
  unfold knotCheck Knot.passes
  split_ifs with hamin htlimit hfocus hnear <;> simp only [inRange, Bool.not_eq_true', Bool.or_eq_true, Bool.and_eq_false_iff,
    decide_eq_false_iff_not, false_iff, true_iff] at * <;> omega

theorem knotsCheck_passed_iff (k : Nat) (l : List Knot) : knotsCheck k l = .passed ↔ ∀ x ∈ l, x.passes := by
  induction l generalizing k with
  | nil => simp [knotsCheck]
  | cons x rest ih =>
    rw [knotsCheck, List.forall_mem_cons, ← knotCheck_passed_iff k x]
    split
    · next h => simp [h, ih]
    · next h => simp [h]

/-- An image passes every check exactly where its fields are in their ranges. -/
theorem imageCheck_passed_iff {image : List Byte} (h : image.length = 408) : imageCheck image = .passed ↔ imagePasses image := by
  have hknots : knotsCheck 0 (imageTable image).knots = .passed ↔ ∀ k, k < 33 → (imageKnot image k).passes := by
    rw [knotsCheck_passed_iff]
    simp [imageTable]
  have hknot (k : Nat) (hk : k < 33) : (imageKnot image k).passes ↔
      (32 ≤ field image (10 + 12 * k) 2 ∧ field image (10 + 12 * k) 2 ≤ 128) ∧
      (80 ≤ field image (12 + 12 * k) 2 ∧ field image (12 + 12 * k) 2 ≤ 320) ∧
      field image (16 + 12 * k) 2 ≤ 1023 ∧ field image (14 + 12 * k) 2 ≤ field image (16 + 12 * k) 2 := by
    rw [imageKnot_eq h hk, Knot.passes]
    dsimp only
    omega
  unfold imageCheck imagePasses
  rw [imageField_eq (by omega), imageField_eq (by omega), imageField_eq (by omega), imageField_eq (by omega)]
  split_ifs with hcrc hcount hzwide hpark
  · simp [hcrc]
  · simp [hcount]
  · refine iff_of_false (by simp) ?_
    rintro ⟨-, -, hrange, -⟩
    rw [(inRange_iff _ _ _).2 (by omega)] at hzwide
    exact absurd hzwide (by decide)
  · refine iff_of_false (by simp) ?_
    rintro ⟨-, -, -, hrange, -⟩
    rw [(inRange_iff _ _ _).2 (by omega)] at hpark
    exact absurd hpark (by decide)
  · have hzwide := (inRange_iff _ _ _).1 (by simpa using hzwide)
    have hpark := (inRange_iff _ _ _).1 (by simpa using hpark)
    rw [hknots]
    exact ⟨fun hpass => ⟨by simpa using hcrc, by simpa using hcount, by omega, by omega, fun k hk => (hknot k hk).1 (hpass k hk)⟩,
      fun hpass k hk => (hknot k hk).2 (hpass.2.2.2.2 k hk)⟩

/-! ### The end of a load (R193) -/

theorem Loader.adopt_of_passed {image : List Byte} (h : imageCheck image = .passed) : Loader.adopt image =
    { table := imageTable image, source := .flash, loading := none, result := .passed } := if_pos h

theorem Loader.adopt_of_failed {image : List Byte} (h : imageCheck image ≠ .passed) : Loader.adopt image =
    { table := defaultTable, source := .default, loading := none, result := imageCheck image } := if_neg h

/-- The table of an image that passed, field by field. -/
theorem imageTable_fields {image : List Byte} (h : image.length = 408) : (imageTable image).ident = field image 0 2 ∧
    (imageTable image).revision = field image 4 2 ∧ (imageTable image).zwide = field image 6 2 ∧
    (imageTable image).park = field image 8 2 ∧ ∀ k, k < 33 → (imageTable image).knots[k]? = some
      { amin := field image (10 + 12 * k) 2, tlimit := field image (12 + 12 * k) 2,
        inf := field image (14 + 12 * k) 2, near := field image (16 + 12 * k) 2,
        gain := field image (18 + 12 * k) 2, focal := field image (20 + 12 * k) 2 } := by
  refine ⟨imageField_eq (by omega), imageField_eq (by omega), congrArg Nat.cast (imageField_eq (by omega)),
    congrArg Nat.cast (imageField_eq (by omega)), fun k hk => ?_⟩
  rw [← imageKnot_eq h hk]
  simp [imageTable, hk]

@[simp] theorem State.give_iv (s : State) (which : Actuator) (x : Int) (o : Origin) (n : Nat) :
    (s.give which x o n).1.lens.iv = s.lens.iv := by
  unfold State.give
  dsimp only
  split
  · cases which <;> rfl
  · simp

/-- A run of the planner leaves the interpolated values, and what Lens Drive has given. -/
@[simp] theorem State.plannerRun_iv (s : State) : s.plannerRun.lens.iv = s.lens.iv ∧ s.plannerRun.ep.given = s.ep.given := by
  unfold State.plannerRun State.requestIris State.giveIris
  split
  · exact ⟨rfl, rfl⟩
  · split
    · simp [State.formPlans]
    · exact ⟨rfl, rfl⟩

theorem State.giveLimits_spec (s : State) : s.giveLimits.lens.iv = s.lens.iv ∧
    s.giveLimits.ep.given = some (s.lens.iv.amin, s.lens.iv.tlimit) := by
  unfold State.giveLimits
  split
  · next h => exact ⟨rfl, h⟩
  · simp

/-- The values at the zoom position, given to the Stabilizer and the planner (R83). -/
theorem State.reinterpolate_spec (s : State) : s.reinterpolate.lens.iv = valuesAt s.loader.table s.lens.zoom.pos ∧
    s.reinterpolate.stab.gain = s.reinterpolate.lens.iv.gain ∧
    s.reinterpolate.ep.given = some (s.reinterpolate.lens.iv.amin, s.reinterpolate.lens.iv.tlimit) ∧
    s.reinterpolate.lens.zoom = s.lens.zoom ∧ s.reinterpolate.lens.focus = s.lens.focus := by
  have hinterpolated (u : State) (h : u.lens.zoom = s.lens.zoom ∧ u.lens.focus = s.lens.focus ∧ u.stab.gain = u.lens.iv.gain) :
      u.giveLimits.stab.gain = u.giveLimits.lens.iv.gain ∧
      u.giveLimits.ep.given = some (u.giveLimits.lens.iv.amin, u.giveLimits.lens.iv.tlimit) ∧
      u.giveLimits.lens.zoom = s.lens.zoom ∧ u.giveLimits.lens.focus = s.lens.focus := by
    obtain ⟨hiv, hep⟩ := u.giveLimits_spec
    rw [hiv, hep]
    simpa using ⟨h.2.2, h.1, h.2.1⟩
  exact ⟨(State.giveLimits_spec _).1, hinterpolated _ ⟨rfl, rfl, rfl⟩⟩

/-- The motion of homing begins with the stop phase (R68). -/
theorem State.homeStart_spec (s : State) : s.homeStart.lens.iv = s.lens.iv ∧ s.homeStart.lens.state = s.lens.state ∧
    s.homeStart.stab.gain = s.stab.gain ∧ s.homeStart.ep.given = s.ep.given ∧ s.homeStart.lens.drive = .homeStop 1100 8 ∧
    s.homeStart.lens.focus.inFlight = true ∧ s.homeStart.lens.focus.stepAt = some (s.homeStart.clock + us 250) ∧
    s.homeStart.lens.iris.inFlight = true ∧ s.homeStart.lens.iris.stepAt = some (s.homeStart.clock + us 8000) :=
  ⟨rfl, rfl, rfl, rfl, rfl, rfl, rfl, rfl, rfl⟩

/-- A table given to Lens Drive: the values at the zoom position, and the homing at the first load (R83, R193). -/
theorem State.tableGiven_spec (s : State) : s.tableGiven.lens.state = s.lens.state ∧
    s.tableGiven.lens.iv = valuesAt s.loader.table s.lens.zoom.pos ∧ s.tableGiven.stab.gain = s.tableGiven.lens.iv.gain ∧
    s.tableGiven.ep.given = some (s.tableGiven.lens.iv.amin, s.tableGiven.lens.iv.tlimit) ∧
    (s.lens.drive ≠ .homeWait → s.tableGiven.lens.drive = s.lens.drive ∧ s.tableGiven.lens.focus = s.lens.focus ∧
      s.tableGiven.lens.zoom = s.lens.zoom) ∧
    (s.lens.drive = .homeWait → s.tableGiven.lens.drive = .homeStop 1100 8 ∧ s.tableGiven.lens.focus.inFlight = true ∧
      s.tableGiven.lens.focus.stepAt = some (s.tableGiven.clock + us 250) ∧ s.tableGiven.lens.iris.inFlight = true ∧
      s.tableGiven.lens.iris.stepAt = some (s.tableGiven.clock + us 8000)) := by
  obtain ⟨hiv, hgain, hgiven, hzoom, hfocus⟩ := s.reinterpolate_spec
  have hdrive : s.reinterpolate.lens.drive = s.lens.drive := by simp
  have htable : s.tableGiven = if s.lens.drive = .homeWait then s.reinterpolate.homeStart else s.reinterpolate := by
    rw [← hdrive]
    rfl
  rw [htable]
  split_ifs with hwait
  · obtain ⟨hiv', hstate, hgain', hgiven', hhoming⟩ := s.reinterpolate.homeStart_spec
    rw [hiv', hgain', hgiven']
    exact ⟨hstate.trans (by simp), hiv, hgain, hgiven, fun hnot => absurd hwait hnot, fun _ => hhoming⟩
  · exact ⟨by simp, hiv, hgain, hgiven, fun _ => ⟨hdrive, hfocus, hzoom⟩, fun h => absurd h hwait⟩

/-! ### RELOAD TABLE (R195) -/

theorem exec_reloadTable (s : State) (p : Port) : exec (.reloadTable p []) s =
    .next ((if s.begin.mayReload then answer s.begin.loadStart .later else answer s.begin .wrongState).sendTo p) := by
  change execReloadTable p [] s = _
  rw [execReloadTable, show lengthIs 0 [] = true from rfl, State.request_ok]

theorem State.loadStart_onlyChanged (s : State) : onlyChanged [.loader] s s.loadStart := by
  refine ⟨rfl, rfl, fun y hy => ?_⟩
  cases y <;> simp [Part.same, State.dramByte, State.loadStart] at hy ⊢

/-- The state in which the table read is given to Lens Drive. -/
def State.loadAdopted (s : State) (image : List Byte) : State :=
  if (Loader.adopt image).result = .passed then { s with loader := Loader.adopt image }
  else { s with loader := Loader.adopt image }.raise .tableBad

theorem State.loadEnd_eq (s : State) {image : List Byte} (h : image.length = 408) :
    s.loadEnd image = (s.loadAdopted image).tableGiven := by
  rw [State.loadEnd, imageBytes_of_length h]
  rfl

theorem State.loadAdopted_kept (s : State) (image : List Byte) : (s.loadAdopted image).loader = Loader.adopt image ∧
    (s.loadAdopted image).lens = s.lens ∧ (s.loadAdopted image).clock = s.clock := by
  unfold State.loadAdopted
  split <;> exact ⟨rfl, rfl, rfl⟩

theorem State.loadEnd_onlyChanged (s : State) (image : List Byte) :
    onlyChanged [.statistics, .planner, .lens, .stabilizer, .loader, .events] s (s.loadEnd image) := by
  refine ⟨by simp, by simp, fun y hy => ?_⟩
  cases y <;> simp [Part.same, State.dramByte] at hy ⊢

/-- The table adopted, by whether the image passes (R193). -/
theorem Loader.adopt_spec {image : List Byte} (h : image.length = 408) : (Loader.adopt image).loading = none ∧
    (imagePasses image → (Loader.adopt image).source = .flash ∧ (Loader.adopt image).result = .passed ∧
      (Loader.adopt image).table = imageTable image) ∧
    (¬ imagePasses image → (Loader.adopt image).source = .default ∧ (Loader.adopt image).result ≠ .passed ∧
      (Loader.adopt image).table = defaultTable ∧
      ((crcOf (image.take 406)).toNat ≠ field image 406 2 → (Loader.adopt image).result = .crcMismatch)) := by
  rw [← imageCheck_passed_iff h]
  by_cases hpass : imageCheck image = .passed
  · rw [Loader.adopt_of_passed hpass]
    exact ⟨rfl, fun _ => ⟨rfl, rfl, rfl⟩, fun hnot => absurd hpass hnot⟩
  · rw [Loader.adopt_of_failed hpass]
    refine ⟨rfl, fun h' => absurd h' hpass, fun _ => ⟨rfl, hpass, rfl, fun hcrc => ?_⟩⟩
    rw [← imageField_eq (by omega)] at hcrc
    exact if_pos hcrc

/-- What a load's end raises, by what it adopts. -/
theorem State.loadEnd_events (s : State) {image : List Byte} (h : image.length = 408) :
    ((Loader.adopt image).result = .passed → Part.events.same s (s.loadEnd image)) ∧
    ((Loader.adopt image).result ≠ .passed → (s.loadEnd image).occurred .tableBad ∧ ∀ q, (s.loadEnd image).pends q .tableBad) := by
  rw [s.loadEnd_eq h]
  unfold State.loadAdopted
  refine ⟨fun hpass => ?_, fun hfail => ?_⟩
  · rw [if_pos hpass]
    simp [Part.same]
  · rw [if_neg hfail]
    obtain ⟨hoccurred, hpends⟩ := State.raise_raised { s with loader := Loader.adopt image } .tableBad
    exact ⟨Invariant.holds.tableGiven (v := .occurred .tableBad) hoccurred,
      fun q => Invariant.holds.tableGiven (v := .pends q .tableBad) (hpends q)⟩

/-- Settles O55: RELOAD TABLE by the lens and the load; a load's end by the checks of the image. -/
theorem tablesAreLoadedAndAdopted : Obligations.TablesAreLoadedAndAdopted := by
  refine fun s => ⟨fun p => ⟨fun hstowed => ?starts, fun hnot => ?refused⟩, fun d image hdue himage => ?ends⟩
  case starts =>
    have hexec := exec_reloadTable s p
    rw [if_pos (by simpa [State.mayReload] using hstowed)] at hexec
    exact answers_of_sendTo (answer s.begin.loadStart .later) hexec rfl (onlyChanged_of_begin s.begin.loadStart_onlyChanged) ⟨rfl, rfl⟩
  case refused =>
    have hexec := exec_reloadTable s p
    have hmay : ¬ s.begin.mayReload = true := by
      simp only [State.mayReload, State.begin, Bool.and_eq_true, not_and]
      intro hstowed hidle
      rcases hnot with h | h
      · exact h (of_decide_eq_true hstowed)
      · simp [Option.isNone_iff_eq_none.1 hidle] at h
    rw [if_neg hmay] at hexec
    exact answers_refused hexec
  case ends =>
    change completes (execTableLoadEnd image s) _
    refine completes_timed hdue ?_
    obtain ⟨hloader, hlens, -⟩ := (s.begin.reach d).loadAdopted_kept image
    obtain ⟨hstate, hiv, hgain, hgiven, hother, hwait⟩ := ((s.begin.reach d).loadAdopted image).tableGiven_spec
    obtain ⟨hpassed, hfailed⟩ := (s.begin.reach d).loadEnd_events himage
    have hchanged := (s.begin.reach d).loadEnd_onlyChanged image
    have hkept : ((s.begin.reach d).loadAdopted image).tableGiven.loader = Loader.adopt image := by simpa using hloader
    have hclock : ((s.begin.reach d).loadEnd image).clock = max s.clock d := hchanged.2.2 .clock (by simp)
    obtain ⟨hloading, hpass, hfail⟩ := Loader.adopt_spec himage
    obtain ⟨hident, hrevision, hzwide, hpark, hknots⟩ := imageTable_fields himage
    rw [hloader] at hiv
    rw [hlens] at hstate hiv hother hwait
    rw [← State.loadEnd_eq _ himage] at hstate hiv hgain hgiven hother hwait hkept
    generalize (s.begin.reach d).loadEnd image = u
      at hstate hiv hgain hgiven hother hwait hkept hclock hchanged hpassed hfailed
    have hall := onlyChanged_of_reach hchanged
    rw [hkept]
    refine ⟨hclock, hloading, hstate, fun h => ?_, fun h => ?_, hiv, hgain, hgiven, hother, hwait, hall⟩
    · obtain ⟨hsource, hresult, htable⟩ := hpass h
      rw [htable]
      exact ⟨hsource, hresult, hpassed hresult, hident, hrevision, hzwide, hpark, hknots⟩
    · obtain ⟨hsource, hresult, htable, hcrc⟩ := hfail h
      exact ⟨hsource, hresult, htable, (hfailed hresult).1, (hfailed hresult).2, hcrc⟩

end Sys2Proof.Machine
end

section
/-! The pixel input in a readout (R29 to R33, R144). -/

namespace Sys2Proof.Machine

/-! ### A green sample in its bank (R31, R33) -/

theorem Bank.add_zones (b : Bank) (g : Geometry) (prev : Option (Nat × Nat × Nat)) (row col v : Nat) :
    (b.add g prev row col v).zones = modifyAt (fun z => z.add g.clip v) b.zones (meterZone g row col) := by
  unfold Bank.add
  dsimp only
  split <;> rfl

theorem Bank.add_feats_of_none {g : Geometry} {prev : Option (Nat × Nat × Nat)} {row col v : Nat}
    (h : featureZone g prev row col v = none) (b : Bank) : (b.add g prev row col v).feats = b.feats := by
  unfold Bank.add
  rw [h]

theorem Bank.add_feats_of_some {g : Geometry} {prev : Option (Nat × Nat × Nat)} {row col v j : Nat}
    (h : featureZone g prev row col v = some j) (b : Bank) :
    (b.add g prev row col v).feats = modifyAt (fun f => satAdd 65535 f 1) b.feats j := by
  unfold Bank.add
  rw [h]

/-- The difference of two samples against the contrast threshold. -/
theorem contrast_lt_iff (c u v : Nat) : c < (if u ≤ v then v - u else u - v) ↔ (c : Int) < |(v : Int) - u| := by
  split_ifs with h
  · rw [abs_of_nonneg (by omega)]
    omega
  · rw [abs_of_neg (by omega)]
    omega

/-- A pair of greens counts where both lie in one AF zone and differ by more than the threshold (R33). -/
theorem featureZone_of_pair {g : Geometry} {row col u v j : Nat} (hcol : 2 ≤ col) (hprev : afZoneOf g row (col - 2) = some j)
    (hhere : afZoneOf g row col = some j) : featureZone g (some (row, col - 2, u)) row col v =
      if (g.contrast : Int) < |(v : Int) - u| then some j else none := by
  refine if_congr ⟨fun h => (contrast_lt_iff _ _ _).1 h.2.2.1, fun h => ?_⟩ hhere rfl
  exact ⟨rfl, by omega, (contrast_lt_iff _ _ _).2 h, hprev.trans hhere.symm⟩

theorem featureZone_of_alone {g : Geometry} {prev : Option (Nat × Nat × Nat)} {row col : Nat} (v : Nat)
    (h : prev = none ∨ afZoneOf g row col = none) : featureZone g prev row col v = none := by
  rcases h with rfl | h
  · rfl
  · cases prev with
    | none => rfl
    | some x =>
      obtain ⟨r, c, u⟩ := x
      rw [featureZone]
      rw [h, ite_self]

theorem featureZone_of_apart {g : Geometry} {row col r c u : Nat} (v : Nat)
    (h : r ≠ row ∨ c + 2 ≠ col ∨ afZoneOf g r c ≠ afZoneOf g row col) : featureZone g (some (r, c, u)) row col v = none := by
  refine if_neg ?_
  rintro ⟨hrow, hcol, -, hzone⟩
  exact h.elim (fun h => h hrow) (fun h => h.elim (fun h => h hcol) (fun h => h hzone))

/-! ### A sample of the frame in readout (R29) -/

section
variable {st : Statistics} {g : FrameInProgress} (hfip : st.fip = some g) (hinside : g.samples < g.geo.w * g.geo.h) (v : Nat)
include hfip hinside

theorem Statistics.sample_of_green (h : isGreen g.geo.phase (g.samples / g.geo.w) (g.samples % g.geo.w) = true) : st.sample v = { st with
    active := st.active.add g.geo g.prev (g.samples / g.geo.w) (g.samples % g.geo.w) v,
    fip := some { g with samples := g.samples + 1, prev := some (g.samples / g.geo.w, g.samples % g.geo.w, v) } } := by
  rw [Statistics.sample, hfip]
  dsimp only
  rw [if_neg (not_le.2 hinside), if_pos h]

theorem Statistics.sample_of_other (h : isGreen g.geo.phase (g.samples / g.geo.w) (g.samples % g.geo.w) = false) : st.sample v =
    { st with fip := some { g with samples := g.samples + 1 } } := by
  rw [Statistics.sample, hfip]
  dsimp only
  rw [if_neg (not_le.2 hinside), if_neg (by simp [h])]

end

theorem Statistics.sample_kept (st : Statistics) (v : Nat) : (st.sample v).last = st.last ∧ (st.sample v).completed = st.completed := by
  unfold Statistics.sample
  split
  · exact ⟨rfl, rfl⟩
  · dsimp only
    split_ifs <;> exact ⟨rfl, rfl⟩

/-- The feature counts after a green (R33). -/
theorem FrameInProgress.featureCounted_of_add {g : FrameInProgress} {s t : State} {v : Nat}
    (h : t.st.active = s.st.active.add g.geo g.prev (g.samples / g.geo.w) (g.samples % g.geo.w) v) : g.featureCounted s t v := by
  unfold FrameInProgress.featureCounted
  dsimp only
  rw [h]
  refine ⟨fun u j x hprev hcol hleft hhere hx => ?_, fun halone => ?_, fun r c u hprev hapart => ?_⟩
  · have hzone := featureZone_of_pair (v := v) (u := u) hcol hleft hhere
    rw [hprev]
    refine ⟨fun hfar => ?_, fun hnear => ?_⟩
    · rw [if_pos hfar] at hzone
      rw [Bank.add_feats_of_some hzone]
      refine ⟨?_, fun k hk => ?_⟩
      · simp [modifyAt, hx, satAdd]
      · simp [modifyAt, hk.symm]
    · rw [if_neg (not_lt.2 hnear)] at hzone
      exact Bank.add_feats_of_none hzone _
  · exact Bank.add_feats_of_none (featureZone_of_alone v halone) _
  · rw [hprev]
    exact Bank.add_feats_of_none (featureZone_of_apart v hapart) _

/-- What a sample inside the frame does to its place, its zone and its feature count. -/
theorem State.sample_counted {s t : State} {g : FrameInProgress} (hfip : s.st.fip = some g) (hinside : g.samples < g.geo.w * g.geo.h)
    {v : Nat} (ht : t.st = s.st.sample v) : (∃ h, t.st.fip = some h ∧ h.samples = g.samples + 1) ∧
    (isGreen g.geo.phase (g.samples / g.geo.w) (g.samples % g.geo.w) = true →
      ∀ z, s.st.active.zones[meterZone g.geo (g.samples / g.geo.w) (g.samples % g.geo.w)]? = some z →
        t.st.active.zones[meterZone g.geo (g.samples / g.geo.w) (g.samples % g.geo.w)]? = some
          { sum := z.sum + v, count := z.count + 1, min := min z.min v, max := max z.max v,
            high := z.high + if g.geo.clip ≤ v then 1 else 0 }) ∧
    (isGreen g.geo.phase (g.samples / g.geo.w) (g.samples % g.geo.w) = false →
      t.st.active = s.st.active ∧ ∀ h, t.st.fip = some h → h.prev = g.prev) ∧
    (isGreen g.geo.phase (g.samples / g.geo.w) (g.samples % g.geo.w) = true →
      (∀ h, t.st.fip = some h → h.prev = some (g.samples / g.geo.w, g.samples % g.geo.w, v)) ∧ g.featureCounted s t v) := by
  cases hgreen : isGreen g.geo.phase (g.samples / g.geo.w) (g.samples % g.geo.w) with
  | true =>
    rw [Statistics.sample_of_green hfip hinside v hgreen] at ht
    refine ⟨⟨_, congrArg Statistics.fip ht, rfl⟩, fun _ z hz => ?_, fun h => absurd h (by decide), fun _ => ⟨fun h hh => ?_, ?_⟩⟩
    · rw [congrArg Statistics.active ht, Bank.add_zones]
      simp [modifyAt, hz, Zone.add]
    · rw [congrArg Statistics.fip ht, Option.some.injEq] at hh
      rw [← hh]
    · exact FrameInProgress.featureCounted_of_add (congrArg Statistics.active ht)
  | false =>
    rw [Statistics.sample_of_other hfip hinside v hgreen] at ht
    refine ⟨⟨_, congrArg Statistics.fip ht, rfl⟩, fun h => absurd h (by decide), fun _ => ⟨by rw [ht], fun h hh => ?_⟩,
      fun h => absurd h (by decide)⟩
    rw [congrArg Statistics.fip ht, Option.some.injEq] at hh
    rw [← hh]

/-! ### The bytes of a capture (R144) -/

section
variable {s : State} {f : InputFrame} (hframe : s.fc.frame = some f) (v : Sample) (bytes : List Byte)
include hframe

theorem State.pixel_of_exposing (h : f.phase = .exposing) : s.pixel v bytes = s := by
  rw [State.pixel, hframe]
  exact if_neg (by simp [h])

variable (hphase : f.phase = .reading)
include hphase

theorem State.pixel_of_live (h : f.kind = .live) : s.pixel v bytes = { s with st := s.st.sample v.toNat } := by
  rw [State.pixel, hframe]
  dsimp only
  rw [if_pos hphase, h]

theorem State.pixel_of_capture (h : f.kind = .capture) :
    s.pixel v bytes = (bytes.foldl State.ingestByte { s with st := s.st.sample v.toNat }).storeSettle := by
  rw [State.pixel, hframe]
  dsimp only
  rw [if_pos hphase, h]

theorem State.pixel_st : (s.pixel v bytes).st = s.st.sample v.toNat := by
  cases h : f.kind with
  | live => rw [State.pixel_of_live hframe v bytes hphase h]
  | capture =>
    rw [State.pixel_of_capture hframe v bytes hphase h, (State.storeSettle_frame _).2.2.2.2.1,
      State.foldl_frame State.ingestByte State.st (fun s v => (s.ingestByte_frame v).2.2.2.2.1)]

end

theorem State.pixel_of_none {s : State} (h : s.fc.frame = none) (v : Sample) (bytes : List Byte) : s.pixel v bytes = s := by
  rw [State.pixel, h]

theorem State.ingestBytes_kept (bytes : List Byte) (s : State) :
    (bytes.foldl State.ingestByte s).store.dram = s.store.dram ∧ (bytes.foldl State.ingestByte s).links.txn = s.links.txn :=
  ⟨State.foldl_frame State.ingestByte (fun t => t.store.dram) (fun t v => (t.ingestByte_fields v).1) bytes s,
    State.foldl_frame State.ingestByte (fun t => t.links.txn) (fun t v => (t.ingestByte_fields v).2.2.2.2) bytes s⟩

theorem State.pixel_onlyChanged (s : State) (v : Sample) (bytes : List Byte) :
    onlyChanged [.statistics, .store, .events] s (s.pixel v bytes) := by
  have hkept : (s.pixel v bytes).store.dram = s.store.dram ∧ (s.pixel v bytes).links.txn = s.links.txn := by
    unfold State.pixel
    split
    · exact ⟨rfl, rfl⟩
    · split
      · dsimp only
        split
        · exact ⟨rfl, rfl⟩
        · obtain ⟨hdram, htxn⟩ := State.ingestBytes_kept bytes { s with st := s.st.sample v.toNat }
          simpa using ⟨hdram, htxn⟩
      · exact ⟨rfl, rfl⟩
  refine ⟨by simp, by simp, fun y hy => ?_⟩
  cases y <;> simp [Part.same, State.dramByte, hkept] at hy ⊢

section
variable {s : State} {i : Nat} {x : Slot} (hfilling : s.store.firstSlot .filling = some i) (hx : s.store.slots[i]? = some x) (v : Byte)
include hfilling hx

theorem State.ingestByte_accepted (hslot : x.bytes < slotSize) (hbuf : s.store.buf.length < 65536) :
    s.ingestByte v = s.withStore (fun b => { b with buf := b.buf ++ [(i * slotSize + x.bytes, v)] }.onSlot i (fun y =>
      { y with bytes := y.bytes + 1 })) := by
  rw [State.ingestByte, hfilling]
  dsimp only
  rw [Store.slotAt_of_getElem? hx, if_pos ⟨hslot, hbuf⟩]
  rfl

theorem State.ingestByte_dropped (h : slotSize ≤ x.bytes ∨ 65536 ≤ s.store.buf.length) :
    s.ingestByte v = if x.incomplete then s
      else (s.withStore (fun b => b.onSlot i (fun y => { y with incomplete := true }))).raise .framePartial := by
  have hlimit : ¬ (x.bytes < slotSize ∧ s.store.buf.length < bufferBytes) := by
    rw [bufferBytes]
    omega
  rw [State.ingestByte, hfilling]
  dsimp only
  rw [Store.slotAt_of_getElem? hx, if_neg hlimit]

end

/-- One byte of a capture: accepted with its place, or dropped at a limit (R144). -/
theorem State.pixel_ingested {s : State} {f : InputFrame} (hframe : s.fc.frame = some f) (hphase : f.phase = .reading)
    (hkind : f.kind = .capture) {i : Nat} {x : Slot} (hfilling : s.store.firstSlot .filling = some i)
    (hx : s.store.slots[i]? = some x) (v : Sample) (b : Byte) :
    (x.bytes < slotSize → s.store.buf.length < 65536 →
      (s.pixel v [b]).store.buf = s.store.buf ++ [(i * slotSize + x.bytes, b)] ∧
      ((s.pixel v [b]).store.slotAt i).bytes = x.bytes + 1 ∧ Part.events.same s (s.pixel v [b])) ∧
    (slotSize ≤ x.bytes ∨ 65536 ≤ s.store.buf.length →
      (s.pixel v [b]).store.buf = s.store.buf ∧ ((s.pixel v [b]).store.slotAt i).bytes = x.bytes ∧
      ((s.pixel v [b]).store.slotAt i).incomplete = true ∧ (x.incomplete = false → (s.pixel v [b]).occurred .framePartial)) := by
  obtain ⟨u, hu⟩ : ∃ u : State, u = { s with st := s.st.sample v.toNat } := ⟨_, rfl⟩
  have hpixel : s.pixel v [b] = (u.ingestByte b).storeSettle := by
    rw [State.pixel_of_capture hframe v [b] hphase hkind, hu]
    rfl
  have hstore : u.store = s.store := by rw [hu]
  have hlinks : u.links = s.links := by rw [hu]
  rw [← hstore] at hfilling hx
  rw [hpixel, ← hstore]
  refine ⟨fun hslot hbuf => ?_, fun hlimit => ?_⟩
  · rw [State.ingestByte_accepted hfilling hx b hslot hbuf]
    refine ⟨by simp [State.withStore, Store.onSlot], ?_, by simp [Part.same, State.withStore, hlinks]⟩
    rw [State.storeSettle_slotAt]
    exact congrArg Slot.bytes (Store.slotAt_onSlot (b := { u.store with buf := u.store.buf ++ [(i * slotSize + x.bytes, b)] }) hx _)
  · rw [State.ingestByte_dropped hfilling hx b hlimit]
    split_ifs with hincomplete
    · rw [State.storeSettle_slotAt, Store.slotAt_of_getElem? hx]
      exact ⟨by simp, rfl, hincomplete, fun h => absurd h (by simp [hincomplete])⟩
    · have hslot := Store.slotAt_onSlot hx (fun y => { y with incomplete := true })
      refine ⟨by simp [State.withStore, Store.onSlot], ?_, ?_, fun _ => ?_⟩
      · rw [State.storeSettle_slotAt]
        exact (congrArg Slot.bytes hslot).trans rfl
      · rw [State.storeSettle_slotAt]
        exact congrArg Slot.incomplete hslot
      · exact Invariant.holds.storeSettle (v := .occurred .framePartial) (State.raise_raised _ _).1

/-- Settles O35: by the phase and the kind of the frame on the input. -/
theorem pixelDataIsCountedInReadoutOnly : Obligations.PixelDataIsCountedInReadoutOnly := by
  refine fun s v bytes => ⟨fun hout => ?_, fun f hframe hphase => ?_⟩
  · have hnothing : s.begin.pixel v bytes = s.begin := by
      cases hframe : s.fc.frame with
      | none => exact State.pixel_of_none (s := s.begin) hframe v bytes
      | some f => exact State.pixel_of_exposing (s := s.begin) hframe v bytes (hout f hframe)
    exact ⟨s.begin, congrArg Host.Outcome.next hnothing, s.begin_onlyChanged, rfl⟩
  · refine ⟨s.begin.pixel v bytes, rfl, ?_⟩
    have hchanged := onlyChanged_of_begin (s.begin.pixel_onlyChanged v bytes)
    have hst := State.pixel_st (s := s.begin) hframe v bytes hphase
    have hlive (h : f.kind = .live) : (s.begin.pixel v bytes).store = s.store ∧ Part.events.same s (s.begin.pixel v bytes) := by
      rw [State.pixel_of_live (s := s.begin) hframe v bytes hphase h]
      exact ⟨rfl, rfl, rfl, rfl, rfl⟩
    have hcapture (h : f.kind = .capture) (i : Nat) (x : Slot) (b : Byte) (hi : s.store.firstSlot .filling = some i)
        (hx : s.store.slots[i]? = some x) (hb : bytes = [b]) := hb ▸ State.pixel_ingested (s := s.begin) hframe hphase h hi hx v b
    generalize s.begin.pixel v bytes = u at hchanged hst hlive hcapture
    have hkept : u.st.last = s.st.last ∧ u.st.completed = s.st.completed := by
      rw [hst]
      exact Statistics.sample_kept _ _
    exact ⟨hchanged, hkept.1, hkept.2, hlive, fun g hfip hinside => State.sample_counted (s := s) hfip hinside hst, hcapture⟩

end Sys2Proof.Machine
end

section
/-! The Exposure Planner's run (R43, R50 to R59) and the requests for the lock and the pattern tables (R39, R49). -/

namespace Sys2Proof.Machine

/-! ### The splits (R54 to R57) -/

theorem splitAt_p (i : PlanInputs) (p cap : Int) : (splitAt i p cap).p = p := by
  unfold splitAt
  dsimp only
  split_ifs <;> rfl

/-- A split at an aperture, whatever plan it goes into (R54, R56). -/
theorem splitAt_atAperture {i : PlanInputs} {p cap : Int} {x : Plan} (ht : x.t = (splitAt i p cap).t) (hg : x.g = (splitAt i p cap).g)
    (ha : x.a = i.amin + 8 * p) : x.atAperture i.qreq cap i.gmax := by
  unfold splitAt at ht hg
  unfold Plan.atAperture
  dsimp only at ht hg
  rw [ha, ht, hg]
  split_ifs <;> simp <;> omega

/-- A gain at a time (R55). -/
theorem gainFor_spec (i : PlanInputs) (t p : Int) : (t - (i.amin + 8 * p) < i.qreq →
    gainFor i t p = min i.gmax (i.qreq - (t - (i.amin + 8 * p)))) ∧ (i.qreq ≤ t - (i.amin + 8 * p) → gainFor i t p = 0) :=
  ⟨fun h => if_pos h, fun h => if_neg (not_lt.2 h)⟩

/-- An iris step that takes up a surplus (R54, R55). -/
theorem closesBy_of_ceil {x : Plan} {surplus pmax : Int} (h : x.p = if 0 < surplus then min pmax (ceilEighth surplus) else 0) :
    x.closesBy surplus pmax := by
  refine ⟨fun hnone => ?_, fun hsome n hlo hhi => ?_⟩
  · rw [h, if_neg (not_lt.2 hnone)]
  · rw [h, if_pos hsome, ceilEighth_spec surplus n hlo hhi]

/-! The capture and the live plan in each program. -/

section
variable {i : PlanInputs}

theorem captureSplit_auto (h : i.program = .auto) (cap : Int) : captureSplit i cap = autoCapture i cap := by rw [captureSplit, h]

theorem captureSplit_time (h : i.program = .timePriority) (cap : Int) : captureSplit i cap = timeCapture i cap := by
  rw [captureSplit, h]

theorem captureSplit_aperture (h : i.program = .aperturePriority) (cap : Int) :
    captureSplit i cap = splitAt i (min i.userIris i.pmax) cap := by rw [captureSplit, h]

theorem captureSplit_manual (h : i.program = .manual) (cap : Int) :
    captureSplit i cap = { t := i.userT, p := min i.userIris i.pmax, g := min i.userG i.gmax } := by rw [captureSplit, h]

/-- The live plan is made at the aperture it is given. -/
theorem liveSplit_p (i : PlanInputs) (p tlive : Int) : (liveSplit i p tlive).p = p := by
  unfold liveSplit
  split
  · exact splitAt_p i p tlive
  · exact splitAt_p i p tlive
  · rfl
  · rfl

theorem autoCapture_p (i : PlanInputs) (cap : Int) : (autoCapture i cap).p =
    if 0 < 80 - (i.qreq + i.amin) then min i.pmax (ceilEighth (80 - (i.qreq + i.amin))) else 0 := by
  unfold autoCapture
  split
  · rw [if_pos (by omega)]
  · rw [if_neg (by omega), splitAt_p]

/-- The capture plan's p does not pass pmax (R51, R54 to R57). -/
theorem captureSplit_p_le (hpmax : 0 ≤ i.pmax) (cap : Int) : (captureSplit i cap).p ≤ i.pmax := by
  cases h : i.program with
  | auto =>
    rw [captureSplit_auto h, autoCapture_p]
    split_ifs <;> omega
  | timePriority =>
    rw [captureSplit_time h, timeCapture]
    dsimp only
    split_ifs <;> omega
  | aperturePriority =>
    rw [captureSplit_aperture h, splitAt_p]
    omega
  | manual =>
    rw [captureSplit_manual h]
    dsimp only
    omega

end

/-! ### A run of the planner -/

theorem State.plannerRun_of_given {s : State} {amin tlimit : Int} (h : s.ep.given = some (amin, tlimit)) :
    s.plannerRun = (s.formPlans amin tlimit).requestIris := by
  rw [State.plannerRun, h]

/-- What every plan made holds (R57, R58). -/
theorem State.planHolds_planOf (s : State) (amin : Int) (x : Split) (tcap credit : Int) :
    s.planHolds (planOf (s.planInputs amin) x tcap credit) amin := by
  exact ⟨rfl, rfl, rfl, rfl, rfl, rfl, rfl, rfl, rfl⟩

section
variable (i : PlanInputs) (cap credit tlive : Int)

/-- The capture plan of a run. -/
def capturePlan : Plan := planOf i (captureSplit i cap) cap credit

/-- The live plan of a run, at the capture plan's aperture. -/
def livePlanAt : Plan := planOf i (liveSplit i (captureSplit i cap).p tlive) tlive 0

variable {i}

/-- Auto (R54). -/
theorem capturePlan_auto (h : i.program = .auto) :
    (capturePlan i cap credit).closesBy (80 - (i.qreq + i.amin)) i.pmax ∧ (livePlanAt i cap tlive).atAperture i.qreq tlive i.gmax ∧
    (80 ≤ i.qreq + i.amin → (capturePlan i cap credit).atAperture i.qreq cap i.gmax) ∧
    (i.qreq + i.amin < 80 → (capturePlan i cap credit).t = max 80 (i.qreq + (capturePlan i cap credit).a) ∧
      (capturePlan i cap credit).g = 0) := by
  have hlive (p : Int) : liveSplit i p tlive = splitAt i p tlive := by rw [liveSplit, h]
  unfold capturePlan livePlanAt
  rw [hlive, captureSplit_auto h]
  refine ⟨closesBy_of_ceil (autoCapture_p i cap), splitAt_atAperture rfl rfl (by rw [planOf, splitAt_p]), fun hopen => ?_, fun hclosed => ?_⟩
  · rw [autoCapture, if_neg (not_lt.2 hopen)]
    exact splitAt_atAperture rfl rfl (by rw [planOf, splitAt_p])
  · rw [autoCapture, if_pos hclosed]
    exact ⟨rfl, rfl⟩

/-- TimePriority (R55). -/
theorem capturePlan_time (h : i.program = .timePriority) :
    (capturePlan i cap credit).closesBy ((capturePlan i cap credit).t - i.amin - i.qreq) i.pmax ∧
    (capturePlan i cap credit).atTime i.qreq cap i.gmax i.userT ∧ (livePlanAt i cap tlive).atTime i.qreq tlive i.gmax i.userT := by
  have hlive (p : Int) : liveSplit i p tlive = { t := clamp 80 tlive i.userT, p := p, g := gainFor i (clamp 80 tlive i.userT) p } := by
    rw [liveSplit, h]
  unfold capturePlan livePlanAt
  rw [hlive, captureSplit_time h]
  exact ⟨closesBy_of_ceil rfl, ⟨rfl, gainFor_spec i _ _⟩, ⟨rfl, gainFor_spec i _ _⟩⟩

/-- AperturePriority (R56). -/
theorem capturePlan_aperture (h : i.program = .aperturePriority) : (capturePlan i cap credit).p = min i.userIris i.pmax ∧
    (capturePlan i cap credit).atAperture i.qreq cap i.gmax ∧ (livePlanAt i cap tlive).atAperture i.qreq tlive i.gmax := by
  have hlive (p : Int) : liveSplit i p tlive = splitAt i p tlive := by rw [liveSplit, h]
  unfold capturePlan livePlanAt
  rw [hlive, captureSplit_aperture h]
  exact ⟨splitAt_p i _ cap, splitAt_atAperture rfl rfl (by rw [planOf, splitAt_p]),
    splitAt_atAperture rfl rfl (by rw [planOf]; dsimp only; rw [splitAt_p, splitAt_p])⟩

/-- Manual (R57). -/
theorem capturePlan_manual (h : i.program = .manual) : (capturePlan i cap credit).p = min i.userIris i.pmax ∧
    (capturePlan i cap credit).t = i.userT ∧ (livePlanAt i cap tlive).t = min i.userT tlive ∧
    (capturePlan i cap credit).g = min i.userG i.gmax ∧ (livePlanAt i cap tlive).g = (capturePlan i cap credit).g := by
  have hlive (p : Int) : liveSplit i p tlive = { t := min i.userT tlive, p := p, g := min i.userG i.gmax } := by rw [liveSplit, h]
  unfold capturePlan livePlanAt
  rw [hlive, captureSplit_manual h]
  exact ⟨rfl, rfl, rfl, rfl, rfl⟩

end

/-- The two plans of a run, by the program in force (R50 to R58). -/
theorem State.formPlans_made (s : State) (amin tlimit : Int) : s.plansMade (s.formPlans amin tlimit) amin tlimit := by
  obtain ⟨hp0, hp6, hpnone, hpsome⟩ := pmaxOf_spec amin (s.setting ixAmax)
  have hq : (s.planInputs amin).qreq = max (80 - s.setting ixAmax) (min (320 + s.setting ixGmax - amin) s.ep.qraw) := rfl
  refine ⟨hq, ⟨hp0, hp6, hpnone, hpsome⟩, rfl, s.planHolds_planOf .., s.planHolds_planOf .., liveSplit_p .., rfl, rfl, ?_, ?_, ?_, ?_, ?_⟩
  · rintro hprogram c rfl
    have hcredit : s.planCredit = if s.settingOn ixSupportMode then 0 else s.credit :=
      if_congr (or_iff_right hprogram) rfl rfl
    have hcap : s.captureCap tlimit = if s.settingOn ixSupportMode then 320 else min 320 (tlimit + s.credit) :=
      if_congr (or_iff_right hprogram) rfl rfl
    exact ⟨hcredit, hcap⟩
  · exact fun hprogram => capturePlan_auto (i := s.planInputs amin) _ _ _ hprogram
  · exact fun hprogram => capturePlan_time (i := s.planInputs amin) _ _ _ hprogram
  · exact fun hprogram => capturePlan_aperture (i := s.planInputs amin) _ _ _ hprogram
  · intro hprogram
    obtain ⟨hp, ht, hlive, hg, hliveG⟩ := capturePlan_manual (i := s.planInputs amin) (s.captureCap tlimit) s.planCredit s.fc.tlive hprogram
    exact ⟨hp, ht, hlive, hg, hliveG, if_pos (.inl hprogram), if_pos (.inl hprogram)⟩

/-! ### The iris request (R59) -/

/-- The plans as formed. -/
theorem State.requestIris_of_quiet {s : State} (h : s.lens.state ≠ .ready ∨ s.lens.iris.target = some s.ep.capPlan.p) :
    s.requestIris = s := by
  refine if_neg ?_
  rintro ⟨hready, htarget⟩
  exact h.elim (fun h => h (of_decide_eq_true hready)) htarget

theorem State.requestIris_of_asked {s : State} (hready : s.lens.state = .ready) (h : s.lens.iris.target ≠ some s.ep.capPlan.p) :
    s.requestIris = s.giveIris s.ep.capPlan.p .planner := if_pos ⟨decide_eq_true hready, h⟩

@[simp] theorem State.drive_pmax (s : State) (which : Actuator) (x : Int) (o : Origin) (n : Nat) :
    (s.drive which x o n).1.lens.pmax = s.lens.pmax := by
  unfold State.drive
  dsimp only
  split_ifs <;> cases which <;> simp [State.setAct]

/-- An iris request leaves the plans and the iris's limit. -/
@[simp] theorem State.requestIris_kept (s : State) : s.requestIris.ep = s.ep ∧ s.requestIris.lens.pmax = s.lens.pmax := by
  unfold State.requestIris State.giveIris State.give
  dsimp only
  split_ifs
  · exact ⟨rfl, rfl⟩
  · simp
  · exact ⟨rfl, rfl⟩

/-- A run makes the plans and asks for the capture plan's p (R59, R74). -/
theorem State.plannerRun_made {s : State} {amin tlimit : Int} (h : s.ep.given = some (amin, tlimit)) :
    s.plansMade s.plannerRun amin tlimit ∧ s.irisAsked s.plannerRun := by
  have hrun := State.plannerRun_of_given h
  have hle : (s.formPlans amin tlimit).ep.capPlan.p ≤ (s.formPlans amin tlimit).lens.pmax :=
    captureSplit_p_le (pmaxOf_spec amin (s.setting ixAmax)).1 _
  obtain ⟨hep, hpmax⟩ := (s.formPlans amin tlimit).requestIris_kept
  rw [← hrun] at hep hpmax
  refine ⟨?_, fun hquiet => ?_, fun hready hasked hnonneg => ?_⟩
  · have hmade := s.formPlans_made amin tlimit
    unfold State.plansMade at hmade ⊢
    rwa [hep, hpmax]
  · rw [hep] at hquiet
    rw [hrun, State.requestIris_of_quiet (s := s.formPlans amin tlimit) hquiet]
    exact ⟨rfl, rfl⟩
  · rw [hep] at hasked hnonneg ⊢
    have hclamp : (s.formPlans amin tlimit).clampTarget .iris (s.formPlans amin tlimit).ep.capPlan.p =
        (s.formPlans amin tlimit).ep.capPlan.p := by
      rw [State.clampTarget, clamp]
      omega
    rw [hrun, State.requestIris_of_asked (s := s.formPlans amin tlimit) hready hasked, State.giveIris]
    refine ⟨fun hhold => ?_, fun hfree => ?_⟩
    · rw [State.give_of_hold (s := s.formPlans amin tlimit) hhold, hclamp]
      rfl
    · rw [State.give_of_free (s := s.formPlans amin tlimit) hfree, hclamp]
      obtain ⟨hpos, htarget, horigin, -, -, hflight, -⟩ :=
        (s.formPlans amin tlimit).drive_act .iris (s.formPlans amin tlimit).ep.capPlan.p .planner 0
      exact ⟨htarget, horigin, hpos, hflight⟩

/-! ### AE LOCK and AE UNLOCK (R49) -/

/-- A run leaves the lock, Qraw, the start value and the meter offset. -/
@[simp] theorem State.plannerRun_meter (s : State) : s.plannerRun.ep.lock = s.ep.lock ∧ s.plannerRun.ep.qraw = s.ep.qraw ∧
    s.plannerRun.ep.fastStart = s.ep.fastStart ∧ s.plannerRun.ep.offset = s.ep.offset := by
  unfold State.plannerRun
  split <;> simp [State.formPlans]

theorem State.setLock_onlyChanged (s : State) (v : LockSource) : onlyChanged [.statistics, .planner, .lens] s (s.setLock v) := by
  refine ⟨by simp, by simp, fun y hy => ?_⟩
  cases y <;> simp [Part.same, State.dramByte] at hy ⊢

/-- The lock takes a source; the plans are made where it begins or ends. -/
theorem State.setLock_spec (s : State) (v : LockSource) :
    ((s.setLock v).ep.lock = v ∧ (s.setLock v).ep.qraw = s.ep.qraw ∧ (s.setLock v).ep.fastStart = s.ep.fastStart ∧
      (s.setLock v).ep.offset = s.ep.offset) ∧
    ((s.ep.lock = .none ↔ v = .none) → (s.setLock v).ep = { s.ep with lock := v } ∧ onlyChanged [.planner] s (s.setLock v)) ∧
    ((s.ep.lock = .none ↔ v ≠ .none) → ∀ amin tlimit, s.ep.given = some (amin, tlimit) →
      s.plansMade (s.setLock v) amin tlimit ∧ s.irisAsked (s.setLock v)) := by
  by_cases hsame : s.ep.lock = .none ↔ v = .none
  · rw [show s.setLock v = { s with ep := { s.ep with lock := v } } from if_pos hsame]
    refine ⟨⟨rfl, rfl, rfl, rfl⟩, fun _ => ⟨rfl, ⟨rfl, rfl, fun y hy => ?_⟩⟩, fun hdiff => absurd (hsame.symm.trans hdiff) (by tauto)⟩
    cases y <;> simp [Part.same, State.dramByte] at hy ⊢
  · have hrun : s.setLock v = State.plannerRun { s with ep := { s.ep with lock := v } } := if_neg hsame
    rw [hrun]
    refine ⟨by simp, fun h => absurd h hsame, fun _ amin tlimit hgiven => ?_⟩
    exact State.plannerRun_made (s := { s with ep := { s.ep with lock := v } }) hgiven

theorem exec_aeLock (p : Port) (s : State) : exec (.aeLock p []) s = .next ((answer (s.begin.setLock .command) .ok).sendTo p) := by
  change execAeLock p [] s = _
  rw [execAeLock, show lengthIs 0 [] = true from rfl, State.request_ok]

theorem exec_aeUnlock (p : Port) (s : State) : exec (.aeUnlock p []) s = .next ((answer (s.begin.setLock .none) .ok).sendTo p) := by
  change execAeUnlock p [] s = _
  rw [execAeUnlock, show lengthIs 0 [] = true from rfl, State.request_ok]

/-! ### SET PATTERN (R39) -/

theorem exec_setPattern {w : List Byte} (hw : w.length = 35) (n : Byte) (p : Port) (s : State) : exec (.setPattern p (n :: w)) s =
    .next (Answer.sendTo (if 2 < n.toNat then answer s.begin .badArgument
      else answer (s.begin.setPattern n.toNat (w.map BitVec.toNat)) (if w.all (fun x => decide (x.toNat ≤ 15)) then .ok else .adjusted)) p) := by
  have hnumber : patternNumber (n :: w) = n.toNat := by simp [patternNumber, field, bigEndian]
  have hweights : patternWeights (n :: w) = w.map BitVec.toNat := rfl
  have hany : (w.map BitVec.toNat).any (fun x => decide (15 < x)) = !w.all (fun x => decide (x.toNat ≤ 15)) := by
    rw [List.not_all_eq_any_not, List.any_map]
    exact congrArg w.any (funext fun x => (decide_not (p := x.toNat ≤ 15)).symm ▸ decide_eq_decide.2 not_le.symm)
  change execSetPattern p (n :: w) s = _
  rw [execSetPattern, show lengthIs 36 (n :: w) = true by simp [lengthIs, hw], State.request_ok, hnumber, hweights, hany]
  cases w.all (fun x => decide (x.toNat ≤ 15)) <;> rfl

/-- Settles O49: the pattern request by its number; the lock by whether it begins or ends. -/
theorem patternsAndTheLockTakeTheirValues : Obligations.PatternsAndTheLockTakeTheirValues := by
  refine fun s p => ⟨fun n w hw => ⟨fun hbad => ?_, fun hgood => ?_⟩, fun x hx => ?_⟩
  · have hexec := exec_setPattern hw n p s
    rw [if_pos hbad] at hexec
    exact answers_refused hexec
  · have hexec := exec_setPattern hw n p s
    rw [if_neg (by omega)] at hexec
    have hchanged : onlyChanged [.statistics] s (s.begin.setPattern n.toNat (w.map BitVec.toNat)) := by
      refine ⟨rfl, rfl, fun y hy => ?_⟩
      cases y <;> simp [Part.same, State.dramByte, State.setPattern] at hy ⊢
    exact answers_of_sendTo (answer (s.begin.setPattern _ _) _) hexec rfl hchanged (by simp [State.setPattern, Function.comp_def])
  · have hspec := s.begin.setLock_spec x.2
    have hframe := onlyChanged_of_begin (s.begin.setLock_onlyChanged x.2)
    have hexec : exec x.1 s = .next ((answer (s.begin.setLock x.2) .ok).sendTo p) := by
      obtain rfl | rfl : x = (.aeLock p [], .command) ∨ x = (.aeUnlock p [], .none) := by simpa using hx
      · exact exec_aeLock p s
      · exact exec_aeUnlock p s
    generalize s.begin.setLock x.2 = u at hspec hframe hexec
    obtain ⟨⟨hlock, hqraw, hfast, hoffset⟩, hkept, hmade⟩ := hspec
    refine answers_of_sendTo (answer u .ok) hexec rfl hframe ⟨hlock, hqraw, hfast, hoffset, fun hsame => ?_, hmade⟩
    obtain ⟨hep, hchanged⟩ := hkept hsame
    exact ⟨hep, onlyChanged_trans (onlyChanged_of_begin hchanged) ((answer u .ok).sendTo_onlyChanged p)⟩

end Sys2Proof.Machine
end

section
/-! The zoom drives of homing and retract (R68, R71, R72). -/

namespace Sys2Proof.Machine

/-! ### A step of an actuator (R73) -/

/-- The state in which a step takes effect: the step is put out and the home sensor read (log 9). -/
def State.stepTaken (s : State) (which : Actuator) (level : HomeLevel) : State :=
  (s.put (.step which (s.stepUp which))).withLens (fun l => { l with sensor := level })

/-- A step that is due completes; besides the actuator step itself it can move the quiet timers. -/
theorem completes_actuatorStep {s : State} {which : Actuator} {level : HomeLevel} {d : Nat} {P : State → Prop}
    (hdue : (s.act which).stepAt = some d)
    (h : ∀ x y, P (((s.begin.reach d).actuatorStep which level).withFc (fun c => { c with quiet1 := x, quiet2 := y }))) :
    completes (exec (.actuatorStep which level) s) P := by
  obtain ⟨x, y, hquiet⟩ := ((s.begin.reach d).actuatorStep which level).quietSync_eq (s.begin.reach d).busy
  refine completes_timed hdue ?_
  rw [State.watchBusy, hquiet]
  exact h x y

section
variable {s : State} (level : HomeLevel)

theorem State.actuatorStep_homeOut {n : Nat} (h : s.lens.drive = .homeOut n) :
    s.actuatorStep .zoom level = (s.stepTaken .zoom level).homeOutStep level n := by
  simp [State.actuatorStep, State.stepTaken, State.withLens, State.put, h]

theorem State.actuatorStep_homeIn {n : Nat} (h : s.lens.drive = .homeIn n) :
    s.actuatorStep .zoom level = (s.stepTaken .zoom level).homeInStep level n := by
  simp [State.actuatorStep, State.stepTaken, State.withLens, State.put, h]

end

/-! ### Homing (R68) -/

theorem State.lensFault_spec (s : State) (cause : LensCause) : (s.lensFault cause).lens.state = .faulted ∧
    (s.lensFault cause).lens.cause = cause ∧ (s.lensFault cause).occurred .lensFault ∧ (s.lensFault cause).moving = false :=
  ⟨rfl, rfl, (State.raise_raised _ .lensFault).1, rfl⟩

theorem State.becomeStowed_spec (s : State) : s.becomeStowed.lens = { s.lens with state := .stowed, drive := .none } ∧
    s.becomeStowed.occurred .lensStowed ∧ ∀ p, s.becomeStowed.pends p .lensStowed :=
  ⟨rfl, State.raise_raised _ .lensStowed⟩

/-- An outward step of the zoom phase, by the sensor and the count. -/
theorem State.homeOutStep_spec (s : State) (level : HomeLevel) (n : Nat) :
    (level = .away → (s.homeOutStep level n).lens.drive = .homeIn 0 ∧ (s.homeOutStep level n).lens.state = s.lens.state) ∧
    (level = .home → 64 ≤ n + 1 → s.homeOutStep level n = s.lensFault .homeStuck) ∧
    (level = .home → n + 1 < 64 → (s.homeOutStep level n).lens.drive = .homeOut (n + 1) ∧
      (s.homeOutStep level n).lens.state = s.lens.state) := by
  refine ⟨?_, ?_, ?_⟩
  · rintro rfl
    exact ⟨rfl, rfl⟩
  · rintro rfl hmany
    exact (if_neg (by decide)).trans (if_pos hmany)
  · rintro rfl hfew
    rw [State.homeOutStep, if_neg (by decide), if_neg (by omega)]
    exact ⟨rfl, rfl⟩

/-- Position 0 found: focus goes to the park position, and the lens is Stowed where it is there. -/
theorem State.homeFound_spec (s : State) : s.homeFound.lens.zoom.pos = some 0 ∧ s.homeFound.lens.zoom.inFlight = false ∧
    s.homeFound.lens.focus.target = some s.loader.table.park ∧
    (s.lens.focus.pos = some s.loader.table.park → s.homeFound.lens.state = .stowed ∧ s.homeFound.occurred .lensStowed) ∧
    (s.lens.focus.pos ≠ some s.loader.table.park → s.homeFound.lens.state = s.lens.state ∧ s.homeFound.lens.drive = .homePark) := by
  obtain ⟨u, hu⟩ : ∃ u : State, u = (s.setAct .zoom (s.act .zoom).atZero).reinterpolate.setDrive .homePark := ⟨_, rfl⟩
  have hzoom : u.lens.zoom = s.lens.zoom.atZero := by
    rw [hu]
    exact (State.reinterpolate_spec _).2.2.2.1
  have hkept : u.lens.focus.pos = s.lens.focus.pos ∧ u.lens.state = s.lens.state ∧ u.lens.drive = .homePark := by
    rw [hu]
    simp [State.setDrive, State.withLens, State.setAct]
  have hfound : s.homeFound = if (u.driveLens .focus s.loader.table.park 0).lens.focus.inFlight
      then u.driveLens .focus s.loader.table.park 0 else (u.driveLens .focus s.loader.table.park 0).becomeStowed := by
    rw [hu]
    rfl
  obtain ⟨-, htarget, -, -, hflight⟩ := u.driveLens_act .focus s.loader.table.park 0
  have hzoomKept := u.driveLens_act_ne (which := .focus) (other := .zoom) (by decide) s.loader.table.park 0
  have hstate : (u.driveLens .focus s.loader.table.park 0).lens.state = u.lens.state ∧
      (u.driveLens .focus s.loader.table.park 0).lens.drive = u.lens.drive := by simp
  generalize u.driveLens .focus s.loader.table.park 0 = t at hfound htarget hflight hzoomKept hstate
  have hzero : t.lens.zoom = s.lens.zoom.atZero := hzoomKept.trans hzoom
  have hflight : t.lens.focus.inFlight = decide (s.lens.focus.pos ≠ some s.loader.table.park) := by
    rw [← hkept.1]
    exact hflight
  rw [hfound, hflight]
  by_cases hthere : s.lens.focus.pos = some s.loader.table.park
  · obtain ⟨hlens, hraised, -⟩ := t.becomeStowed_spec
    rw [if_neg (by simp [hthere]), hlens]
    exact ⟨congrArg ActRecord.pos hzero, congrArg ActRecord.inFlight hzero, htarget, fun _ => ⟨rfl, hraised⟩, fun h => absurd hthere h⟩
  · rw [if_pos (by simp [hthere])]
    exact ⟨congrArg ActRecord.pos hzero, congrArg ActRecord.inFlight hzero, htarget, fun h => absurd h hthere,
      fun _ => ⟨hstate.1.trans hkept.2.1, hstate.2.trans hkept.2.2⟩⟩

/-- An inward step of the zoom phase, by the sensor and the count. -/
theorem State.homeInStep_spec (s : State) (level : HomeLevel) (n : Nat) :
    (level = .home → s.homeInStep level n = s.homeFound) ∧
    (level = .away → 2300 ≤ n + 1 → s.homeInStep level n = s.lensFault .homeNotFound) ∧
    (level = .away → n + 1 < 2300 → (s.homeInStep level n).lens.drive = .homeIn (n + 1) ∧
      (s.homeInStep level n).lens.state = s.lens.state) := by
  refine ⟨?_, ?_, ?_⟩
  · rintro rfl
    rfl
  · rintro rfl hmany
    exact (if_neg (by decide)).trans (if_pos hmany)
  · rintro rfl hfew
    rw [State.homeInStep, if_neg (by decide), if_neg (by omega)]
    exact ⟨rfl, rfl⟩

/-! ### The retract (R70, R71) -/

section
variable {s : State} (h : s.lens.state ≠ .ready)
include h

theorem State.giveLimits_iris : s.giveLimits.lens.iris = s.lens.iris := by
  unfold State.giveLimits
  split
  · rfl
  · exact State.plannerRun_iris (s := { s with ep := { s.ep with given := some (s.lens.iv.amin, s.lens.iv.tlimit) } }) h

/-- Outside Ready the values at a new zoom position move no iris. -/
theorem State.reinterpolate_iris : s.reinterpolate.lens.iris = s.lens.iris := State.giveLimits_iris (by simpa using h)

end

/-- One step in or out in Retracting: the count, and nothing else of the lens. -/
theorem State.zoomBy_spec {s : State} (h : s.lens.state = .retracting) {z : Int} (hz : s.lens.zoom.pos = some z) (delta : Int) :
    (s.zoomBy delta).lens.zoom = { s.lens.zoom with pos := some (z + delta) } ∧ (s.zoomBy delta).lens.state = .retracting ∧
    (s.zoomBy delta).lens.focus = s.lens.focus ∧ (s.zoomBy delta).lens.iris = s.lens.iris ∧
    (s.zoomBy delta).lens.slip = s.lens.slip ∧ (s.zoomBy delta).lens.slips = s.lens.slips ∧
    (s.zoomBy delta).lens.drive = s.lens.drive := by
  obtain ⟨u, hu⟩ : ∃ u : State, u = s.setAct .zoom { s.lens.zoom with pos := s.lens.zoom.pos.map (· + delta) } := ⟨_, rfl⟩
  have hby : s.zoomBy delta = u.reinterpolate := by rw [hu]; rfl
  have hlens : u.lens = { s.lens with zoom := { s.lens.zoom with pos := some (z + delta) } } := by rw [hu, hz]; rfl
  obtain ⟨-, -, -, hzoom, hfocus⟩ := u.reinterpolate_spec
  have hiris : u.reinterpolate.lens.iris = u.lens.iris := State.reinterpolate_iris (by simp [hlens, h])
  rw [hby, hzoom, hfocus, hiris]
  simp [hlens, h]

/-- The retract's end is looked at with the count rebased. -/
theorem State.retractCheck_spec {s : State} (h : s.lens.drive = .retractHomed) :
    (s.lens.focus.inFlight = false ∧ s.lens.iris.inFlight = false → s.retractCheck = s.becomeStowed) ∧
    (s.lens.focus.inFlight = true ∨ s.lens.iris.inFlight = true → s.retractCheck = s) := by
  refine ⟨fun hdone => if_pos ⟨h, by simp [hdone], by simp [hdone]⟩, fun hmoving => if_neg ?_⟩
  rintro ⟨-, hfocus, hiris⟩
  exact hmoving.elim hfocus hiris

/-- The count rebased at the home edge: the slip, and Stowed where focus and iris are at rest (R71). -/
theorem State.rebase_spec {s : State} (h : s.lens.state = .retracting) {z : Int} (hz : s.lens.zoom.pos = some z) :
    s.rebase.lens.zoom.pos = some 0 ∧ s.rebase.lens.zoom.inFlight = false ∧
    s.rebase.lens.slip = (if z = 0 then s.lens.slip else some z) ∧
    s.rebase.lens.slips = (if z = 0 then s.lens.slips else min 255 (s.lens.slips + 1)) ∧
    (s.lens.focus.inFlight = false ∧ s.lens.iris.inFlight = false → s.rebase.lens.state = .stowed ∧ s.rebase.occurred .lensStowed) ∧
    (s.lens.focus.inFlight = true ∨ s.lens.iris.inFlight = true → s.rebase.lens.state = .retracting) := by
  obtain ⟨u, hu⟩ : ∃ u : State, u = (s.withLens (fun l => l.slipped z)).setAct .zoom s.lens.zoom.atZero := ⟨_, rfl⟩
  have hrebase : s.rebase = (u.reinterpolate.setDrive .retractHomed).retractCheck := by
    rw [hu, State.rebase, hz]
    rfl
  have hlens : u.lens.zoom = s.lens.zoom.atZero ∧ u.lens.state = .retracting ∧ u.lens.focus = s.lens.focus ∧ u.lens.iris = s.lens.iris ∧
      u.lens.slip = (if z = 0 then s.lens.slip else some z) ∧
      u.lens.slips = (if z = 0 then s.lens.slips else min 255 (s.lens.slips + 1)) := by
    rw [hu]
    by_cases hzero : z = 0 <;> simp [State.setAct, State.withLens, Lens.slipped, hzero, h, satAdd]
  obtain ⟨hzoom, hstate, hfocus, hiris, hslip, hslips⟩ := hlens
  obtain ⟨-, -, -, hzoomKept, hfocusKept⟩ := u.reinterpolate_spec
  have hirisKept : u.reinterpolate.lens.iris = u.lens.iris := State.reinterpolate_iris (by simp [hstate])
  have hkept : u.reinterpolate.lens.state = u.lens.state ∧ u.reinterpolate.lens.slip = u.lens.slip ∧
      u.reinterpolate.lens.slips = u.lens.slips := by simp
  generalize u.reinterpolate = w at hrebase hzoomKept hfocusKept hirisKept hkept
  obtain ⟨hstateKept, hslipKept, hslipsKept⟩ := hkept
  obtain ⟨hdone, hwaits⟩ := State.retractCheck_spec (s := w.setDrive .retractHomed) rfl
  rw [← hrebase] at hdone hwaits
  rw [← hfocus, ← hiris, ← hfocusKept, ← hirisKept]
  have hsame : s.rebase.lens.zoom = w.lens.zoom ∧ s.rebase.lens.slip = w.lens.slip ∧ s.rebase.lens.slips = w.lens.slips := by
    rw [hrebase]
    simp [State.setDrive, State.withLens]
  obtain ⟨hsameZoom, hsameSlip, hsameSlips⟩ := hsame
  rw [hsameZoom, hsameSlip, hsameSlips, hzoomKept, hslipKept, hslipsKept, hzoom]
  refine ⟨rfl, rfl, hslip, hslips, fun hrest => ?_, fun hmoving => ?_⟩
  · obtain ⟨hstowed, hraised, -⟩ := (w.setDrive .retractHomed).becomeStowed_spec
    rw [hdone hrest, hstowed]
    exact ⟨rfl, hraised⟩
  · rw [hwaits hmoving]
    exact hstateKept.trans hstate

section
variable {s : State} (h : s.lens.state = .retracting) {z : Int} (hz : s.lens.zoom.pos = some z) (level : HomeLevel)
include h hz

/-- A step of the retract far from the home edge. -/
theorem State.retractFar_spec (hdrive : s.lens.drive = .retractFar) :
    (s.retractZoomStep level).lens.zoom.pos = some (z - 1) ∧ (s.retractZoomStep level).lens.state = .retracting ∧
    (s.retractZoomStep level).lens.drive = if 8 < z - 1 then .retractFar else if level = .home then .retractOut 0 else .retractWatch := by
  obtain ⟨hzoom, hstate, -, -, -, -, hkept⟩ := State.zoomBy_spec h hz (-1)
  have hstep : s.retractZoomStep level = if ((s.zoomBy (-1)).nextStep .zoom).lens.zoom.pos.getD 0 ≤ 8
      then ((s.zoomBy (-1)).nextStep .zoom).watchBegin level else (s.zoomBy (-1)).nextStep .zoom := by
    rw [State.retractZoomStep, hdrive]
  have hpos : ((s.zoomBy (-1)).nextStep .zoom).lens.zoom.pos = some (z - 1) := congrArg ActRecord.pos hzoom
  rw [hstep, hpos, Option.getD_some]
  by_cases hnear : z - 1 ≤ 8
  · rw [if_pos hnear, if_neg (not_lt.2 hnear)]
    exact ⟨hpos, hstate, rfl⟩
  · rw [if_neg hnear, if_pos (not_le.1 hnear)]
    exact ⟨hpos, hstate, hkept.trans hdrive⟩

/-- An outward step of the retract, by the sensor and the count. -/
theorem State.retractOut_spec {n : Nat} (hdrive : s.lens.drive = .retractOut n) :
    (s.retractZoomStep level).lens.zoom.pos = some (z + 1) ∧
    (level = .away → (s.retractZoomStep level).lens.drive = .retractWatch ∧ (s.retractZoomStep level).lens.state = .retracting) ∧
    (level = .home → 64 ≤ n + 1 → s.retractZoomStep level = (s.zoomBy 1).lensFault .homeStuck) ∧
    (level = .home → n + 1 < 64 → (s.retractZoomStep level).lens.drive = .retractOut (n + 1) ∧
      (s.retractZoomStep level).lens.state = .retracting) := by
  obtain ⟨hzoom, hstate, -⟩ := State.zoomBy_spec h hz 1
  have hpos : (s.zoomBy 1).lens.zoom.pos = some (z + 1) := congrArg ActRecord.pos hzoom
  have hstep : s.retractZoomStep level = if level = .away then ((s.zoomBy 1).nextStep .zoom).setDrive .retractWatch
      else if 64 ≤ n + 1 then (s.zoomBy 1).lensFault .homeStuck
      else ((s.zoomBy 1).nextStep .zoom).setDrive (.retractOut (n + 1)) := by
    rw [State.retractZoomStep, hdrive]
  rw [hstep]
  cases level with
  | away => exact ⟨hpos, fun _ => ⟨rfl, hstate⟩, fun hl => absurd hl (by decide), fun hl => absurd hl (by decide)⟩
  | home =>
    rw [if_neg (by decide)]
    refine ⟨?_, fun hl => absurd hl (by decide), fun _ hmany => if_pos hmany, fun _ hfew => ?_⟩
    · split_ifs <;> exact hpos
    · rw [if_neg (by omega)]
      exact ⟨rfl, hstate⟩

/-- An inward step of the retract that watches for the edge. -/
theorem State.retractWatch_spec (hdrive : s.lens.drive = .retractWatch) :
    (level = .home → s.retractZoomStep level = (s.zoomBy (-1)).rebase) ∧
    (level = .away → z - 1 ≤ -72 → s.retractZoomStep level = (s.zoomBy (-1)).lensFault .edgeMissing) ∧
    (level = .away → -72 < z - 1 → (s.retractZoomStep level).lens.zoom.pos = some (z - 1) ∧
      (s.retractZoomStep level).lens.state = .retracting) := by
  obtain ⟨hzoom, hstate, -⟩ := State.zoomBy_spec h hz (-1)
  have hpos : (s.zoomBy (-1)).lens.zoom.pos = some (z - 1) := congrArg ActRecord.pos hzoom
  have hstep : s.retractZoomStep level = if level = .home then (s.zoomBy (-1)).rebase
      else if (s.zoomBy (-1)).lens.zoom.pos.getD 0 ≤ -72 then (s.zoomBy (-1)).lensFault .edgeMissing
      else (s.zoomBy (-1)).nextStep .zoom := by
    rw [State.retractZoomStep, hdrive]
  rw [hstep, hpos, Option.getD_some]
  refine ⟨fun hl => if_pos hl, ?_, ?_⟩
  · rintro rfl hfar
    exact (if_neg (by decide)).trans (if_pos hfar)
  · rintro rfl hnear
    rw [if_neg (by decide), if_neg (not_le.2 hnear)]
    exact ⟨hpos, hstate⟩

end

theorem State.actuatorStep_retract {s : State} (level : HomeLevel)
    (h : s.lens.drive = .retractFar ∨ s.lens.drive = .retractWatch ∨ ∃ n, s.lens.drive = .retractOut n) :
    s.actuatorStep .zoom level = (s.stepTaken .zoom level).retractZoomStep level := by
  rcases h with h | h | ⟨n, h⟩ <;> simp [State.actuatorStep, State.stepTaken, State.withLens, State.put, h]

/-- Settles O42: by the drive in which the zoom's step is due. -/
theorem homeSensorEndsTheZoomDrives : Obligations.HomeSensorEndsTheZoomDrives := by
  intro s level d hdue
  obtain ⟨u, hu⟩ : ∃ u : State, u = (s.begin.reach d).stepTaken .zoom level := ⟨_, rfl⟩
  have hlens : u.lens = { s.lens with sensor := level } := by rw [hu]; rfl
  have hloader : u.loader = s.loader := by rw [hu]; rfl
  refine ⟨fun n hdrive => ?homeOut, fun n hdrive hstate => ?homeIn, fun n z hdrive hz hstate => ?retractOut,
    fun z hdrive hz hstate => ?retractFar, fun z hdrive hz hstate => ?retractWatch⟩
  all_goals refine completes_actuatorStep hdue fun x y => ?_
  case homeOut =>
    obtain ⟨haway, hstuck, hgo⟩ := u.homeOutStep_spec level n
    rw [State.actuatorStep_homeOut (s := s.begin.reach d) level hdrive, ← hu]
    rw [hlens] at haway hgo
    refine ⟨haway, fun hl hmany => ?_, hgo⟩
    obtain ⟨hfaulted, hcause, hraised, -⟩ := u.lensFault_spec .homeStuck
    rw [hstuck hl hmany]
    exact ⟨hfaulted, hcause, hraised⟩
  case homeIn =>
    obtain ⟨hhome, hmissed, hgo⟩ := u.homeInStep_spec level n
    have hhoming : u.lens.state = .homing := by rw [hlens]; exact hstate
    rw [State.actuatorStep_homeIn (s := s.begin.reach d) level hdrive, ← hu]
    rw [hhoming] at hgo
    refine ⟨fun hl => ?_, fun hl hmany => ?_, hgo⟩
    · obtain ⟨hpos, hrest, htarget, hthere, haway⟩ := u.homeFound_spec
      rw [hhoming, hlens, hloader] at haway
      rw [hlens, hloader] at hthere
      rw [hloader] at htarget
      rw [hhome hl]
      exact ⟨hpos, hrest, htarget, hthere, haway⟩
    · rw [hmissed hl hmany]
      exact u.lensFault_spec .homeNotFound
  all_goals
    have hretracting : u.lens.state = .retracting := by rw [hlens]; exact hstate
    have hpos : u.lens.zoom.pos = some z := by rw [hlens]; exact hz
  case retractOut =>
    obtain ⟨hout, haway, hstuck, hgo⟩ := State.retractOut_spec hretracting hpos level (by rw [hlens]; exact hdrive)
    rw [State.actuatorStep_retract (s := s.begin.reach d) level (.inr (.inr ⟨n, hdrive⟩)), ← hu]
    refine ⟨hout, haway, fun hl hmany => ?_, hgo⟩
    obtain ⟨hfaulted, hcause, hraised, -⟩ := (u.zoomBy 1).lensFault_spec .homeStuck
    rw [hstuck hl hmany]
    exact ⟨hfaulted, hcause, hraised⟩
  case retractFar =>
    rw [State.actuatorStep_retract (s := s.begin.reach d) level (.inl hdrive), ← hu]
    exact State.retractFar_spec hretracting hpos level (by rw [hlens]; exact hdrive)
  case retractWatch =>
    obtain ⟨hhome, hmissed, hgo⟩ := State.retractWatch_spec hretracting hpos level (by rw [hlens]; exact hdrive)
    obtain ⟨hzoom, hretracting', hfocus, hiris, hslip, hslips, -⟩ := State.zoomBy_spec hretracting hpos (-1)
    have hcount : (u.zoomBy (-1)).lens.zoom.pos = some (z - 1) := congrArg ActRecord.pos hzoom
    rw [State.actuatorStep_retract (s := s.begin.reach d) level (.inr (.inl hdrive)), ← hu]
    refine ⟨fun hl => ?_, fun hl hfar => ?_, hgo⟩
    · have hrebased := State.rebase_spec hretracting' hcount
      rw [hslip, hslips, hfocus, hiris, hlens] at hrebased
      rw [hhome hl]
      exact hrebased
    · obtain ⟨hfaulted, hcause, hraised, hstill⟩ := (u.zoomBy (-1)).lensFault_spec .edgeMissing
      rw [hmissed hl hfar]
      exact ⟨hfaulted, hcause, hraised, hstill, hcount⟩

end Sys2Proof.Machine
end

section
/-! The moves that Focus Search makes of its own: what a move asked for leaves, and what follows where one completes (R73, R74, R93, R97
to R99, R105). -/

namespace Sys2Proof.Machine

/-! ### A move asked for (R74, R93) -/

/-- Focus Search asks for a move and waits for it; a move that completes at once goes on, in a chain bounded by `n`. -/
def State.movesOn (n : Nat) (s : State) (w : AfWait) (x : Int) : State :=
  if ((s.withAf (fun a => { a with wait := w })).giveFocus x .search).2
    then State.afAdvance n ((s.withAf (fun a => { a with wait := w })).giveFocus x .search).1
    else ((s.withAf (fun a => { a with wait := w })).giveFocus x .search).1

theorem State.afMove_eq (s : State) (w : AfWait) (x : Int) : s.afMove w x = s.movesOn 4 w x := rfl

/-- Focus Search waits in `v` as it did in `s`, for w; the lens stands as it did, the focus's target apart. -/
def State.waitsIn (s v : State) (w : AfWait) : Prop :=
  v.af = { s.af with wait := w } ∧ v.fc = s.fc ∧ v.settings = s.settings ∧ v.links = s.links ∧ v.lens.iv = s.lens.iv ∧
    v.lens.d = s.lens.d ∧ v.lens.focus.pos = s.lens.focus.pos

theorem State.giveFocus_waitsIn (s : State) (w : AfWait) (x : Int) :
    s.waitsIn ((s.withAf (fun a => { a with wait := w })).giveFocus x .search).1 w := by
  refine ⟨by simp, by simp, by simp, by simp, ?_, ?_, ?_⟩ <;> simp

/-- A move asked for is under way or pending, or completes at once and goes on. -/
theorem State.movesOn_cases (n : Nat) (s : State) (w : AfWait) (x : Int) : ∃ v, s.waitsIn v w ∧
    ((¬ s.focusThere x ∧ s.movesOn n w x = v ∧ v.focusAsked x w) ∨ (s.focusThere x ∧ s.movesOn n w x = State.afAdvance n v)) := by
  obtain ⟨u, hu⟩ : ∃ u : State, u = s.withAf (fun a => { a with wait := w }) := ⟨_, rfl⟩
  have hhold : u.hold = s.hold := by rw [hu]; rfl
  have hpos : u.lens.focus.pos = s.lens.focus.pos := by rw [hu]; rfl
  have hwaits := s.giveFocus_waitsIn w x
  have hmoves : s.movesOn n w x = if (u.giveFocus x .search).2 then State.afAdvance n (u.giveFocus x .search).1
      else (u.giveFocus x .search).1 := by rw [hu]; rfl
  rw [← hu] at hwaits
  refine ⟨(u.giveFocus x .search).1, hwaits, ?_⟩
  obtain ⟨hlens, hdone⟩ := u.giveFocus_lens x .search
  obtain ⟨haf, hfc, -⟩ := hwaits
  have hsame : (u.giveFocus x .search).1.hold = s.hold := by rw [State.hold, hfc]; rfl
  cases hfree : s.hold with
  | true =>
    have hdone' := congrArg Prod.snd (State.give_of_hold (hhold.trans hfree) .focus x .search 0)
    refine .inl ⟨fun hthere => absurd hthere.1 (by simp [hfree]), hmoves.trans (if_neg ?_), fun hnot => ?_⟩
    · rw [hdone, hdone']
      simp
    · exact absurd (hsame.symm.trans hnot) (by simp [hfree])
  | false =>
    obtain ⟨hkept, htarget, horigin, -, -, hflight, hthere⟩ := u.drive_act .focus (u.clampTarget .focus x) .search 0
    rw [State.give_of_free (hhold.trans hfree)] at hdone hlens
    rw [hthere] at hdone
    by_cases hat : s.lens.focus.pos = some (max 0 (min 1023 x))
    · refine .inr ⟨⟨hfree, hat⟩, hmoves.trans (if_pos ?_)⟩
      rw [hdone]
      exact decide_eq_true (hpos.trans hat)
    · refine .inl ⟨fun h => hat h.2, hmoves.trans (if_neg ?_), fun _ _ => ⟨by rw [haf], ?_, ?_, ?_⟩⟩
      · rw [hdone]
        exact fun h => hat (hpos.symm.trans (of_decide_eq_true h))
      · rw [hlens]
        exact htarget
      · rw [hlens]
        exact horigin
      · rw [hlens]
        exact hflight.trans (decide_eq_true fun h => hat (hpos.symm.trans h))

/-- Whether a move completes at once is the same before it is asked for and after. -/
theorem State.focusThere_congr {s t : State} (hfc : t.fc = s.fc) (hpos : t.lens.focus.pos = s.lens.focus.pos) (x : Int) :
    t.focusThere x ↔ s.focusThere x := by
  rw [State.focusThere, State.focusThere, hpos, State.hold, State.hold, hfc]

@[simp] theorem State.movesOn_frame (n : Nat) (s : State) (w : AfWait) (x : Int) : (s.movesOn n w x).fc = s.fc ∧
    (s.movesOn n w x).lens.focus.pos = s.lens.focus.pos ∧ (s.movesOn n w x).settings = s.settings := by
  unfold State.movesOn
  split <;> simp

/-- A move that has not completed at once is as asked. -/
theorem State.movesOn_focusAsked (n : Nat) (s : State) (w : AfWait) (x : Int) : (s.movesOn n w x).focusAsked x w := by
  obtain ⟨v, -, ⟨-, hv, hasked⟩ | ⟨hthere, -⟩⟩ := State.movesOn_cases n s w x
  · rw [hv]
    exact hasked
  · intro _ hnot
    exact absurd hthere.2 (by simpa using hnot)

/-! ### What follows where a move has completed -/

section
variable {s : State} (n : Nat)

theorem State.afAdvance_of_settleBelow (h : s.af.wait = .settleBelow) :
    State.afAdvance (n + 1) s = s.movesOn n .settleBest s.af.bestPos := by
  rw [State.afAdvance, h]
  rfl

theorem State.afAdvance_of_settleBest (h : s.af.wait = .settleBest) :
    State.afAdvance (n + 1) s = s.afDecide.1.movesOn n s.afDecide.2 s.afDecide.1.curve := by
  rw [State.afAdvance, h]
  rfl

theorem State.afAdvance_of_snap (h : s.af.wait = .snap) : State.afAdvance (n + 1) s = s.afLock := by rw [State.afAdvance, h]

theorem State.afAdvance_of_failMove (h : s.af.wait = .failMove) : State.afAdvance (n + 1) s = s.afFail := by rw [State.afAdvance, h]

theorem State.afAdvance_of_probeFinal (h : s.af.wait = .probeFinal) : State.afAdvance (n + 1) s = s.probeEnd := by
  rw [State.afAdvance, h]

theorem State.afAdvance_of_sampleMove (h : s.af.wait = .sampleMove) :
    State.afAdvance (n + 1) s = s.withAf (fun a => { a with wait := .sample }) := by rw [State.afAdvance, h]

end

/-- The fine best record stays through whatever follows. -/
@[simp] theorem State.afAdvance_best (n : Nat) (s : State) : (State.afAdvance n s).af.best = s.af.best := by
  have hdecide (u : State) : u.afDecide.1.af = u.af := by
    unfold State.afDecide
    split <;> rfl
  induction n generalizing s with
  | zero => rfl
  | succ n ih =>
    unfold State.afAdvance
    dsimp only
    split
    · rfl
    · split <;> simp [ih]
    · split <;> simp [ih, hdecide]
    · rfl
    · rfl
    · rfl
    · rfl
    · rfl

@[simp] theorem State.movesOn_best (n : Nat) (s : State) (w : AfWait) (x : Int) : (s.movesOn n w x).af.best = s.af.best := by
  unfold State.movesOn
  split <;> simp

/-- The lock of a search that waits as one of `s` did (R98). -/
theorem State.afLock_searchLocked {s v : State} (hwatching : v.watching = s.watching) {b : Peak} (hbest : v.af.best = some b) :
    s.searchLocked v.afLock b.f := by
  refine ⟨?_, rfl, ?_, rfl, (State.raise_raised _ .afLocked).1⟩
  · rw [State.afterLock, ← hwatching]
    rfl
  · change (v.af.best.map Peak.f).getD 0 = b.f
    rw [hbest]
    rfl

theorem State.afFail_searchFailed (v : State) : v.afFail.searchFailed := ⟨rfl, rfl, rfl, (State.raise_raised _ .afFailed).1⟩

/-- The watch on a lock looks at the settings and at Frame Control (R103). -/
theorem State.watching_congr {s t : State} (hfc : t.fc = s.fc) (hsettings : t.settings = s.settings) : t.watching = s.watching := by
  unfold State.watching State.afContinuous State.prepareHeld State.burstRunning
  rw [State.setting, State.setting, hfc, hsettings]

/-- The end of a probe that waits as one of `s` did (R105). -/
theorem State.probeEnd_probeEnded {s v : State} (hwatching : v.watching = s.watching) (hresult : v.af.result = s.af.result) {p : Probe}
    (hprobe : v.af.probe = some p) : s.probeEnded v.probeEnd p.best.f := by
  refine ⟨?_, ?_, rfl, rfl, hresult, rfl⟩
  · rw [State.afterLock, ← hwatching]
    rfl
  · change (v.af.probe.map (fun p => p.best.f)).getD 0 = p.best.f
    rw [hprobe]
    rfl

/-- The move to the fine best has completed: the lock's snap or the failure's move is asked for (R97 to R99). -/
theorem State.afAdvance_searchDecided {s u : State} (hwatching : u.watching = s.watching) (hfmin : u.af.fmin = s.af.fmin) {b : Peak}
    (hwait : u.af.wait = .settleBest) (hbest : u.af.best = some b) (n : Nat) :
    s.searchDecided (State.afAdvance (n + 2) u) b.pos b.f := by
  have hpos : u.af.bestPos = b.pos := by simp [FocusSearch.bestPos, hbest]
  have hf : u.af.bestF = b.f := by simp [FocusSearch.bestF, hbest]
  rw [State.afAdvance_of_settleBest (n + 1) hwait]
  by_cases hlocks : s.af.fmin ≤ b.f
  · have hdecide : u.afDecide = (u.setDistance b.pos, .snap) := by rw [State.afDecide, hfmin, hf, hpos, if_pos hlocks]
    refine ⟨fun _ => ?_, fun hnot => absurd hlocks (not_le.2 hnot)⟩
    rw [hdecide]
    have hasked := State.movesOn_focusAsked (n + 1) (u.setDistance b.pos) .snap (u.setDistance b.pos).curve
    obtain ⟨v, ⟨haf, hfc, hsettings, -, hiv, hd, hat⟩, ⟨hnot, hv, -⟩ | ⟨-, hv⟩⟩ :=
      State.movesOn_cases (n + 1) (u.setDistance b.pos) .snap (u.setDistance b.pos).curve
    · rw [hv] at hasked ⊢
      have hthere := State.focusThere_congr hfc hat (u.setDistance b.pos).curve
      rw [hiv]
      exact ⟨hd, hasked, fun h => absurd (hthere.1 h) hnot⟩
    · rw [hv, State.afAdvance_of_snap n (by rw [haf])] at hasked ⊢
      have hiv : v.afLock.lens.iv = u.lens.iv := hiv
      rw [hiv]
      exact ⟨hd, hasked, fun _ => State.afLock_searchLocked ((State.watching_congr hfc hsettings).trans hwatching)
        (by rw [haf]; exact hbest)⟩
  · have hdecide : u.afDecide = (u.setDistance32, .failMove) := by rw [State.afDecide, hfmin, hf, if_neg hlocks]
    refine ⟨fun h => absurd h hlocks, fun _ => ?_⟩
    rw [hdecide]
    have hasked := State.movesOn_focusAsked (n + 1) u.setDistance32 .failMove u.setDistance32.curve
    obtain ⟨v, ⟨haf, hfc, -, -, hiv, hd, hat⟩, ⟨hnot, hv, -⟩ | ⟨-, hv⟩⟩ :=
      State.movesOn_cases (n + 1) u.setDistance32 .failMove u.setDistance32.curve
    · rw [hv] at hasked ⊢
      have hthere := State.focusThere_congr hfc hat u.setDistance32.curve
      rw [hiv]
      exact ⟨hd, hasked, fun h => absurd (hthere.1 h) hnot⟩
    · rw [hv, State.afAdvance_of_failMove n (by rw [haf])] at hasked ⊢
      have hiv : v.afFail.lens.iv = u.lens.iv := hiv
      rw [hiv]
      exact ⟨hd, hasked, fun _ => v.afFail_searchFailed⟩

/-- A move of Focus Search's own has completed (R93). -/
theorem State.afAdvance_ownMoveDone {s u : State} (hwatching : u.watching = s.watching) (haf : u.af = s.af) :
    s.ownMoveDone (State.afAdvance 4 u) := by
  refine ⟨fun hwait => ?_, fun b hbest => ⟨fun hwait => ?_, fun hwait => ?_, fun hwait => ?_⟩, fun hwait => ?_, fun p hprobe hwait => ?_⟩
  all_goals rw [← haf] at hwait
  · rw [State.afAdvance_of_sampleMove 3 hwait, ← haf]
    rfl
  · have hpos : u.af.bestPos = b.pos := by simp [FocusSearch.bestPos, haf, hbest]
    rw [State.afAdvance_of_settleBelow 3 hwait, hpos]
    exact State.movesOn_focusAsked 3 u .settleBest b.pos
  · exact State.afAdvance_searchDecided hwatching (by rw [haf]) hwait (by rw [haf, hbest]) 2
  · rw [State.afAdvance_of_snap 3 hwait]
    exact State.afLock_searchLocked hwatching (by rw [haf, hbest])
  · rw [State.afAdvance_of_failMove 3 hwait]
    exact u.afFail_searchFailed
  · rw [State.afAdvance_of_probeFinal 3 hwait]
    exact State.probeEnd_probeEnded hwatching (by rw [haf]) (by rw [haf, hprobe])

end Sys2Proof.Machine
end

section
/-! The steps of the actuators (R73, R77, R81, R83, R85) and the drives that they end (R68, R69, R71). -/

namespace Sys2Proof.Machine

/-! ### One step of an actuator's record (R73) -/

/-- Where a step from p toward q leads. -/
def stepFrom (p q : Int) : Int := if p < q then p + 1 else p - 1

theorem stepFrom_of_near {p q : Int} (h : |q - p| = 1) : stepFrom p q = q := by
  unfold stepFrom
  split_ifs with hlt
  · rw [abs_of_pos (by omega)] at h
    omega
  · rw [abs_of_nonpos (by omega)] at h
    omega

section
variable {s : State} {which : Actuator} {p q : Int} {d : Nat} (h : s.stepDue which p q d)
include h

theorem State.stepped_of_due : (s.act which).stepped = { s.act which with pos := some (stepFrom p q) } := by
  obtain ⟨hpos, htarget, -, -, hne⟩ := h
  have hstep : (if p < q then p + 1 else if q < p then p - 1 else p) = stepFrom p q := by
    unfold stepFrom
    split_ifs <;> omega
  rw [ActRecord.stepped, hpos, htarget]
  simp only [hstep, htarget]

/-- The step that reaches the target completes the move. -/
theorem State.plainStep_there (hthere : stepFrom p q = q) :
    s.plainStep which = s.setAct which { s.act which with pos := some q, inFlight := false, stepAt := none } := by
  rw [State.plainStep, State.stepped_of_due h, hthere]
  exact if_pos h.2.1.symm

/-- Any other step leaves the move in flight, the next step one interval away. -/
theorem State.plainStep_away (haway : stepFrom p q ≠ q) :
    s.plainStep which = s.setAct which { s.act which with
      pos := some (stepFrom p q), stepAt := some (s.clock + stepInterval which (s.act which).speed) } := by
  have hne : ({ s.act which with pos := some (stepFrom p q) } : ActRecord).pos ≠ ({ s.act which with pos := some (stepFrom p q) } : ActRecord).target := by
    simpa [h.2.1] using haway
  rw [State.plainStep, State.stepped_of_due h, if_neg hne]
  cases which <;> rfl

theorem State.plainStep_pos : ((s.plainStep which).act which).pos = some (stepFrom p q) := by
  by_cases hthere : stepFrom p q = q
  · rw [State.plainStep_there h hthere, State.act_setAct, hthere]
  · rw [State.plainStep_away h hthere, State.act_setAct]

theorem State.plainStep_inFlight : ((s.plainStep which).act which).inFlight = decide (stepFrom p q ≠ q) := by
  by_cases hthere : stepFrom p q = q
  · rw [State.plainStep_there h hthere, State.act_setAct]
    simp [hthere]
  · rw [State.plainStep_away h hthere, State.act_setAct]
    simpa [hthere] using h.2.2.2.1

theorem State.stepUp_of_due (hdrive : s.lens.drive = .none ∨ which ≠ .zoom) : s.stepUp which = decide (p < q) := by
  obtain ⟨hpos, htarget, -⟩ := h
  have hup : s.stepUp which = (s.act which).up := by
    cases which with
    | zoom => simp [State.stepUp, hdrive.resolve_right (by simp)]
    | focus => rfl
    | iris => rfl
  rw [hup, ActRecord.up, hpos, htarget]

end

@[simp] theorem State.plainStep_sensor (s : State) (which : Actuator) : (s.plainStep which).lens.sensor = s.lens.sensor := by
  unfold State.plainStep State.nextStep
  dsimp only
  split_ifs <;> cases which <;> rfl

theorem State.plainStep_act_ne (s : State) {which other : Actuator} (h : other ≠ which) : (s.plainStep which).act other = s.act other := by
  unfold State.plainStep State.nextStep
  dsimp only
  split_ifs <;> simp [State.act_setAct_ne _ _ h]

/-! ### What a request and its completion leave of the lens -/

@[simp] theorem State.give_sensor (s : State) (which : Actuator) (x : Int) (o : Origin) (n : Nat) :
    (s.give which x o n).1.lens.sensor = s.lens.sensor ∧ (s.give which x o n).1.lens.pmax = s.lens.pmax := by
  unfold State.give
  dsimp only
  split
  · cases which <;> exact ⟨rfl, rfl⟩
  · simp

@[simp] theorem State.afDecide_sensor (s : State) : s.afDecide.1.lens.iv = s.lens.iv ∧ s.afDecide.1.lens.sensor = s.lens.sensor ∧
    s.afDecide.1.lens.pmax = s.lens.pmax := by
  unfold State.afDecide
  split <;> exact ⟨rfl, rfl, rfl⟩

@[simp] theorem State.afAdvance_sensor (n : Nat) (s : State) : (State.afAdvance n s).lens.iv = s.lens.iv ∧
    (State.afAdvance n s).lens.sensor = s.lens.sensor ∧ (State.afAdvance n s).lens.pmax = s.lens.pmax := by
  induction n generalizing s with
  | zero => exact ⟨rfl, rfl, rfl⟩
  | succ n ih =>
    unfold State.afAdvance
    dsimp only
    split
    · exact ⟨rfl, rfl, rfl⟩
    · split <;> simp [ih]
    · split <;> simp [ih]
    · exact ⟨rfl, rfl, rfl⟩
    · exact ⟨rfl, rfl, rfl⟩
    · exact ⟨rfl, rfl, rfl⟩
    · exact ⟨rfl, rfl, rfl⟩
    · exact ⟨rfl, rfl, rfl⟩

@[simp] theorem State.afAbort_sensor (s : State) : s.afAbort.lens.iv = s.lens.iv ∧ s.afAbort.lens.sensor = s.lens.sensor ∧
    s.afAbort.lens.pmax = s.lens.pmax := by
  unfold State.afAbort
  dsimp only
  split_ifs <;> simp

@[simp] theorem State.afFocusDone_sensor (s : State) (o : Origin) : (s.afFocusDone o).lens.iv = s.lens.iv ∧
    (s.afFocusDone o).lens.sensor = s.lens.sensor ∧ (s.afFocusDone o).lens.pmax = s.lens.pmax := by
  unfold State.afFocusDone
  split_ifs <;> simp

@[simp] theorem State.trackingPoint_sensor (s : State) : s.trackingPoint.lens.iv = s.lens.iv ∧
    s.trackingPoint.lens.sensor = s.lens.sensor ∧ s.trackingPoint.lens.pmax = s.lens.pmax := by
  unfold State.trackingPoint State.trackIris State.trackFocus State.requestFocus State.giveIris
  dsimp only
  split_ifs <;> simp

@[simp] theorem State.zoomDone_sensor (s : State) (o : Origin) : (s.zoomDone o).lens.iv = s.lens.iv ∧
    (s.zoomDone o).lens.sensor = s.lens.sensor ∧ (s.zoomDone o).lens.pmax = s.lens.pmax := by
  unfold State.zoomDone
  split_ifs <;> simp

@[simp] theorem State.reinterpolate_sensor (s : State) : s.reinterpolate.lens.sensor = s.lens.sensor := by simp [State.reinterpolate]

@[simp] theorem State.extendFocus_sensor (s : State) : s.extendFocus.lens.sensor = s.lens.sensor := by
  unfold State.extendFocus
  dsimp only
  split_ifs <;> simp [State.setDrive, State.withLens, State.setDistance32]

@[simp] theorem State.extendCheck_sensor (s : State) : s.extendCheck.lens.sensor = s.lens.sensor := by
  unfold State.extendCheck
  split_ifs <;> simp

@[simp] theorem State.retractCheck_sensor (s : State) : s.retractCheck.lens.sensor = s.lens.sensor := by
  unfold State.retractCheck
  split_ifs <;> rfl

@[simp] theorem State.focusDriven_sensor (s : State) : s.focusDriven.lens.sensor = s.lens.sensor := by
  unfold State.focusDriven
  split
  · rfl
  · simp
  · simp
  · rfl

/-! ### What every step leaves -/

/-- The outputs put out so far and the number of slots stay. -/
def State.stepKeeps (s t : State) : Prop := t.store.slots.length = s.store.slots.length ∧ s.outs <+: t.outs

theorem State.stepKeeps.of_same {s t u : State} (h : s.stepKeeps t) (hstore : u.store = t.store) (houts : u.outs = t.outs) :
    s.stepKeeps u := by
  rw [State.stepKeeps, hstore, houts]
  exact h

/-- A gate pass before the Stabilizer derives its state: the numbers, the slot, the open record, the transfer, ARMING (R20, R21). -/
def State.gateArmed (s : State) : State :=
  let slot := (s.store.firstSlot .free).getD 0
  let t := (s.countCapture.slotFill slot).recordOpen slot (s.countCapture.slotFill slot).burstMode
  (t.beginTransfer t.newCapture.transfer.values).withFc (fun x => { x with state := .arming, cap := some t.newCapture, next := .none })

theorem State.gatePass_eq (s : State) : s.gatePass = s.gateArmed.derive := rfl

/-- The Stabilizer's state derived may send a shift message (R117). -/
theorem State.derive_outs (s : State) : s.outs <+: s.derive.outs := by
  unfold State.derive State.stabSet State.creditWatch
  dsimp only
  split_ifs
  · exact List.prefix_rfl
  · exact List.prefix_rfl
  all_goals simp [State.shiftMessage, State.put]

/-- A gate pass fills a slot and puts out the capture's settings. -/
theorem State.gatePass_kept (s : State) : s.gatePass.store.slots.length = s.store.slots.length ∧ s.outs <+: s.gatePass.outs := by
  have hslots : s.gateArmed.store.slots.length = s.store.slots.length := List.length_modify ..
  have houts : s.outs <+: s.gateArmed.outs := ⟨_, rfl⟩
  rw [State.gatePass_eq]
  exact ⟨by simpa using hslots, houts.trans (State.derive_outs _)⟩

theorem State.enterLive_kept (s : State) : s.outs <+: s.enterLive.outs := ⟨_, rfl⟩

theorem State.stepKeeps.leaveIdle {s t : State} (h : s.stepKeeps t) : s.stepKeeps t.leaveIdle := by
  unfold State.leaveIdle
  split_ifs
  · exact ⟨t.gatePass_kept.1.trans h.1, h.2.trans t.gatePass_kept.2⟩
  · refine ⟨by simpa using h.1, h.2.trans (State.enterLive_kept _)⟩
  · exact h

theorem State.stepKeeps.becomeReady {s t : State} (h : s.stepKeeps t) : s.stepKeeps t.becomeReady := by
  have hraised := h.of_same (u := (t.withLens (fun l => { l with state := .ready, drive := .none })).raise .lensReady) rfl rfl
  have hderived : s.stepKeeps ((t.withLens (fun l => { l with state := .ready, drive := .none })).raise .lensReady).derive :=
    ⟨by simpa using hraised.1, hraised.2.trans (State.derive_outs _)⟩
  exact (hderived.of_same (by simp) (by simp)).leaveIdle

theorem State.stepKeeps.extendFocus {s t : State} (h : s.stepKeeps t) : s.stepKeeps t.extendFocus := by
  have hdriven := h.of_same (u := (t.setDistance32.setDrive .extendFocus).driveLens .focus (t.setDistance32.setDrive .extendFocus).curve 0)
    (by simp) (by simp)
  unfold State.extendFocus
  dsimp only
  split_ifs
  · exact hdriven
  · exact hdriven.becomeReady

theorem State.stepKeeps.extendCheck {s t : State} (h : s.stepKeeps t) : s.stepKeeps t.extendCheck := by
  unfold State.extendCheck
  split_ifs
  · exact h
  · exact h.extendFocus

theorem State.stepKeeps.retractCheck {s t : State} (h : s.stepKeeps t) : s.stepKeeps t.retractCheck := h.of_same (by simp) (by simp)

theorem State.stepKeeps.zoomStep {s t : State} (h : s.stepKeeps t) : s.stepKeeps t.zoomStep := by
  have hplain : s.stepKeeps (t.plainStep .zoom).reinterpolate := h.of_same (by simp) (by simp)
  unfold State.zoomStep
  dsimp only
  split_ifs
  · exact hplain.extendCheck
  · exact hplain.of_same (by simp) (by simp)
  · exact hplain.of_same (by simp) (by simp)
  · exact hplain

theorem State.stepKeeps.focusDriven {s t : State} (h : s.stepKeeps t) : s.stepKeeps t.focusDriven := by
  unfold State.focusDriven
  split
  · exact h.of_same (by simp) (by simp)
  · exact h.becomeReady
  · exact h.retractCheck
  · exact h

theorem State.stepKeeps.focusStep {s t : State} (h : s.stepKeeps t) : s.stepKeeps t.focusStep := by
  have hplain : s.stepKeeps (t.plainStep .focus) := h.of_same (by simp) (by simp)
  unfold State.focusStep
  dsimp only
  split_ifs
  · exact hplain
  · exact hplain.of_same (by simp) (by simp)
  · exact (hplain.of_same (u := (t.plainStep .focus).statFocusDone) rfl rfl).focusDriven

theorem State.stepKeeps.irisStep {s t : State} (h : s.stepKeeps t) : s.stepKeeps t.irisStep := by
  have hplain : s.stepKeeps (t.plainStep .iris) := h.of_same (by simp) (by simp)
  unfold State.irisStep
  dsimp only
  split_ifs
  · exact hplain
  · split
    · exact hplain.extendCheck
    · exact hplain.retractCheck
    · exact hplain

/-- What follows an actuator's step moves no actuator and reads no sensor. -/
theorem State.zoomStep_pos (s : State) : s.zoomStep.lens.zoom.pos = (s.plainStep .zoom).lens.zoom.pos ∧
    s.zoomStep.lens.sensor = s.lens.sensor := by
  unfold State.zoomStep
  dsimp only
  split_ifs <;> simp

theorem State.focusStep_pos (s : State) : s.focusStep.lens.focus.pos = (s.plainStep .focus).lens.focus.pos ∧
    s.focusStep.lens.sensor = s.lens.sensor := by
  unfold State.focusStep
  dsimp only
  split_ifs <;> simp

theorem State.irisStep_pos (s : State) : s.irisStep.lens.iris.pos = (s.plainStep .iris).lens.iris.pos ∧
    s.irisStep.lens.sensor = s.lens.sensor := by
  unfold State.irisStep
  dsimp only
  split_ifs
  · simp
  · split <;> simp

/-! ### The ordinary steps -/

/-- A step outside the drives that follow the home sensor or the stop. -/
def State.ordinaryStep (s : State) : Actuator → State
  | .zoom => s.zoomStep
  | .focus => s.focusStep
  | .iris => s.irisStep

theorem State.actuatorStep_of_zoom {s : State} (level : HomeLevel) (h : s.lens.drive = .none ∨ s.lens.drive = .extendMoves) :
    s.actuatorStep .zoom level = (s.stepTaken .zoom level).ordinaryStep .zoom := by
  rcases h with h | h <;> simp [State.actuatorStep, State.stepTaken, State.withLens, State.put, h, State.ordinaryStep]

theorem State.actuatorStep_of_ordinary {s : State} {which : Actuator} (level : HomeLevel)
    (h : s.lens.drive = .none ∨ which ≠ .zoom ∧ ∀ f i, s.lens.drive ≠ .homeStop f i) :
    s.actuatorStep which level = (s.stepTaken which level).ordinaryStep which := by
  have hnot (hne : which ≠ .zoom) (f i : Nat) : s.lens.drive ≠ .homeStop f i := h.elim (fun h => by simp [h]) (fun h => h.2 f i)
  cases which with
  | zoom => exact State.actuatorStep_of_zoom level (h.imp_right fun h => absurd rfl h.1)
  | focus =>
    cases hdrive : s.lens.drive with
    | homeStop f i => exact absurd hdrive (hnot (by decide) f i)
    | _ => simp [State.actuatorStep, State.stepTaken, State.withLens, State.put, hdrive, State.ordinaryStep]
  | iris =>
    cases hdrive : s.lens.drive with
    | homeStop f i => exact absurd hdrive (hnot (by decide) f i)
    | _ => simp [State.actuatorStep, State.stepTaken, State.withLens, State.put, hdrive, State.ordinaryStep]

/-- An ordinary step in every lens state: its actuator's position, the sensor, the outputs and the slots. -/
theorem State.ordinaryStep_kept (s : State) (which : Actuator) : s.stepKeeps (s.ordinaryStep which) ∧
    ((s.ordinaryStep which).act which).pos = ((s.plainStep which).act which).pos ∧
    (s.ordinaryStep which).lens.sensor = s.lens.sensor := by
  have hself : s.stepKeeps s := ⟨rfl, List.prefix_rfl⟩
  cases which with
  | zoom => exact ⟨hself.zoomStep, s.zoomStep_pos⟩
  | focus => exact ⟨hself.focusStep, s.focusStep_pos⟩
  | iris => exact ⟨hself.irisStep, s.irisStep_pos⟩

/-- A step that leaves the move in flight changes its actuator's record alone of that actuator. -/
theorem State.ordinaryStep_away {s : State} {which : Actuator} (h : ((s.plainStep which).act which).inFlight = true) :
    (s.ordinaryStep which).act which = (s.plainStep which).act which := by
  cases which with
  | zoom =>
    have hzoom : (s.plainStep .zoom).reinterpolate.lens.zoom = (s.plainStep .zoom).lens.zoom := (State.reinterpolate_spec _).2.2.2.1
    have hflight : (s.plainStep .zoom).reinterpolate.lens.zoom.inFlight = true := by rw [hzoom]; exact h
    change s.zoomStep.lens.zoom = _
    unfold State.zoomStep
    dsimp only
    rw [hflight, if_neg (by decide)]
    split_ifs
    · rw [State.trackingPoint_zoom, hzoom]
      rfl
    · rw [hzoom]
      rfl
  | focus => exact congrArg (State.act · .focus) (show s.focusStep = s.plainStep .focus from if_pos h)
  | iris => exact congrArg (State.act · .iris) (show s.irisStep = s.plainStep .iris from if_pos h)

/-- A zoom move that completes in Ready. -/
theorem State.zoomStep_there {s : State} {p q : Int} {d : Nat} (hdue : s.stepDue .zoom p q d) (hthere : stepFrom p q = q)
    (hready : s.lens.state = .ready) : s.zoomStep = (s.plainStep .zoom).reinterpolate.zoomDone s.lens.zoom.origin := by
  have hzoom : (s.plainStep .zoom).reinterpolate.lens.zoom = { s.lens.zoom with pos := some q, inFlight := false, stepAt := none } := by
    rw [(State.reinterpolate_spec _).2.2.2.1, State.plainStep_there hdue hthere]
    rfl
  have hstate : (s.plainStep .zoom).reinterpolate.lens.state = .ready := by simpa using hready
  unfold State.zoomStep
  dsimp only
  rw [hstate, hzoom]
  rfl

/-- A focus move that completes in Ready. -/
theorem State.focusStep_there {s : State} {p q : Int} {d : Nat} (hdue : s.stepDue .focus p q d) (hthere : stepFrom p q = q)
    (hready : s.lens.state = .ready) : s.focusStep = (s.plainStep .focus).statFocusDone.afFocusDone s.lens.focus.origin := by
  have hfocus : (s.plainStep .focus).lens.focus = { s.lens.focus with pos := some q, inFlight := false, stepAt := none } := by
    rw [State.plainStep_there hdue hthere]
    rfl
  have hstate : (s.plainStep .focus).lensReady = true := decide_eq_true (by simpa using hready)
  unfold State.focusStep
  dsimp only
  rw [hstate, hfocus]
  rfl

/-- A focus move that completes outside Ready. -/
theorem State.focusStep_driven {s : State} {p q : Int} {d : Nat} (hdue : s.stepDue .focus p q d) (hthere : stepFrom p q = q)
    (hstate : s.lens.state ≠ .ready) : s.focusStep = (s.plainStep .focus).statFocusDone.focusDriven := by
  have hfocus : (s.plainStep .focus).lens.focus = { s.lens.focus with pos := some q, inFlight := false, stepAt := none } := by
    rw [State.plainStep_there hdue hthere]
    rfl
  have hstate : (s.plainStep .focus).lensReady = false := decide_eq_false (by simpa using hstate)
  unfold State.focusStep
  dsimp only
  rw [hstate, hfocus]
  rfl

/-- An iris move that completes outside the drives. -/
theorem State.irisStep_of_none {s : State} (h : s.lens.drive = .none) : s.irisStep = s.plainStep .iris := by
  have hdrive : (s.plainStep .iris).lens.drive = .none := by simpa using h
  unfold State.irisStep
  dsimp only
  rw [hdrive]
  exact ite_self _

/-! ### The stamp of a focus move's completion (R37, R77) -/

/-- A focus move has completed at this moment. -/
def State.stamped (s : State) : Prop := s.st.focusStamp = some s.timeBase

namespace State.stamped

variable {s : State}

theorem of_same {t : State} (h : s.stamped) (hstamp : t.st.focusStamp = s.st.focusStamp) (hclock : t.clock = s.clock) : t.stamped := by
  rw [State.stamped, State.timeBase, hstamp, hclock]
  exact h

theorem drive (h : s.stamped) (which : Actuator) (x : Int) (o : Origin) (n : Nat) : (s.drive which x o n).1.stamped := by
  refine h.of_same ?_ (by simp)
  unfold State.drive
  dsimp only
  split_ifs <;> cases which <;> rfl

theorem giveFocus (h : s.stamped) (x : Int) (o : Origin) : (s.giveFocus x o).1.stamped := by
  have hgive : (s.give .focus x o 0).1.stamped := by
    unfold State.give
    dsimp only
    split_ifs
    · exact h.of_same rfl rfl
    · exact h.drive ..
  unfold State.giveFocus
  dsimp only
  split
  · exact rfl
  · exact hgive

theorem afAdvance (n : Nat) : ∀ {s : State}, s.stamped → (State.afAdvance n s).stamped := by
  induction n with
  | zero => exact fun h => h
  | succ n ih =>
    intro s h
    have hnext {t : State} (w : AfWait) (x : Int) (ht : t.stamped) :
        State.stamped (if ((t.withAf (fun a => { a with wait := w })).giveFocus x .search).2 then
          State.afAdvance n ((t.withAf (fun a => { a with wait := w })).giveFocus x .search).1
          else ((t.withAf (fun a => { a with wait := w })).giveFocus x .search).1) := by
      have hgive := State.stamped.giveFocus (s := t.withAf (fun a => { a with wait := w })) ht x .search
      split
      · exact ih hgive
      · exact hgive
    have hdecide : s.afDecide.1.stamped := by
      unfold State.afDecide
      split <;> exact h
    unfold State.afAdvance
    dsimp only
    split
    · exact h
    · exact hnext _ _ h
    · exact hnext _ _ hdecide
    all_goals exact h

theorem afFocusDone (h : s.stamped) (o : Origin) : (s.afFocusDone o).stamped := by
  unfold State.afFocusDone State.afAbort
  dsimp only
  split_ifs
  · exact afAdvance 4 h
  · exact State.stamped.giveFocus (s := s.withAf FocusSearch.giveUp) h ..
  all_goals exact h

end State.stamped

/-! ### Tracking points (R85) -/

/-- A tracking point with no search and no hold: focus to the curve, the iris within its limit. -/
theorem State.trackingPoint_spec {s : State} {x : Int} (hready : s.lens.state = .ready) (hhold : s.hold = false)
    (hsearching : s.af.state.searching = false) (hd : s.lens.d = some x) : s.trackingPoint.lens.d = some x ∧
    (s.lens.focus.target = some (trackAt s.lens.iv x) → s.trackingPoint.lens.focus = s.lens.focus) ∧
    (s.lens.focus.target ≠ some (trackAt s.lens.iv x) →
      s.trackingPoint.lens.focus.target = some (max 0 (min 1023 (trackAt s.lens.iv x))) ∧
      s.trackingPoint.lens.focus.origin = .tracking) ∧
    (0 ≤ s.lens.pmax → s.trackingPoint.lens.iris.target.getD 0 ≤ s.lens.pmax) := by
  have hcurve : s.curve = trackAt s.lens.iv x := by rw [State.curve, hd]; rfl
  have hpoint : s.trackingPoint = s.trackFocus.trackIris := if_pos ⟨decide_eq_true hready, by simp [hd]⟩
  have hkept : s.trackFocus.hold = false ∧ s.trackFocus.lens.pmax = s.lens.pmax ∧ s.trackFocus.lens.d = some x ∧
      (s.lens.focus.target = some (trackAt s.lens.iv x) → s.trackFocus.lens.focus = s.lens.focus) ∧
      (s.lens.focus.target ≠ some (trackAt s.lens.iv x) →
        s.trackFocus.lens.focus.target = some (max 0 (min 1023 (trackAt s.lens.iv x))) ∧
        s.trackFocus.lens.focus.origin = .tracking) := by
    by_cases hon : s.lens.focus.target = some (trackAt s.lens.iv x)
    · have hstay : s.trackFocus = s := if_pos (by rw [hcurve, hon])
      rw [hstay]
      exact ⟨hhold, rfl, hd, fun _ => rfl, fun h => absurd hon h⟩
    · have hgo : s.trackFocus = s.requestFocus (trackAt s.lens.iv x) .tracking := by
        rw [← hcurve]
        exact if_neg (by rwa [hcurve])
      have hlens := State.requestFocus_lens (s := s) (x := trackAt s.lens.iv x) (o := .tracking) (by decide)
        (fun h => absurd hsearching (by simpa using h))
      obtain ⟨-, htarget, horigin, -⟩ := s.drive_act .focus (clamp 0 1023 (trackAt s.lens.iv x)) .tracking 0
      have hfc : s.trackFocus.fc = s.fc := by simp
      have hpmax : s.trackFocus.lens.pmax = s.lens.pmax ∧ s.trackFocus.lens.d = s.lens.d := by
        rw [hgo, hlens]
        simp
      refine ⟨by rw [State.hold, hfc]; exact hhold, hpmax.1, hpmax.2.trans hd, fun h => absurd h hon, fun _ => ?_⟩
      rw [hgo, hlens, State.give_of_free hhold]
      exact ⟨htarget, horigin⟩
  obtain ⟨hfree, hpmax, hdKept, hstays, hgoes⟩ := hkept
  rw [hpoint]
  have hmotors := s.trackFocus.trackIris_motors.2.1
  have hdIris : s.trackFocus.trackIris.lens.d = s.trackFocus.lens.d := by
    unfold State.trackIris State.giveIris
    split <;> simp
  rw [hmotors]
  refine ⟨hdIris.trans hdKept, hstays, hgoes, fun hnonneg => ?_⟩
  unfold State.trackIris
  split
  · obtain ⟨-, htarget, -⟩ := s.trackFocus.drive_act .iris (clamp 0 s.trackFocus.lens.pmax s.trackFocus.lens.pmax) .lens 0
    rw [State.giveIris, State.give_of_free hfree]
    have htarget : (s.trackFocus.drive .iris (s.trackFocus.clampTarget .iris s.trackFocus.lens.pmax) .lens 0).1.lens.iris.target =
        some (clamp 0 s.trackFocus.lens.pmax s.trackFocus.lens.pmax) := htarget
    rw [htarget, hpmax]
    simp only [clamp, Option.getD_some]
    omega
  · rw [hpmax] at *
    omega

end Sys2Proof.Machine
end

section
/-! What the last step of a drive brings (R68, R69, R71, R73), and the step obligation. -/

namespace Sys2Proof.Machine

/-! ### The stop phase of homing (R68, log 41) -/

/-- A step of the stop phase, by the steps left. -/
theorem State.homeStopStep_spec (s : State) {which : Actuator} (h : which ≠ .zoom) (focusLeft irisLeft : Nat) {f i left : Nat}
    (hf : f = if which = .focus then focusLeft - 1 else focusLeft) (hi : i = if which = .iris then irisLeft - 1 else irisLeft)
    (hleft : left = if which = .focus then f else i) :
    (s.homeStopStep which focusLeft irisLeft).clock = s.clock ∧ (s.homeStopStep which focusLeft irisLeft).lens.state = s.lens.state ∧
    (s.homeStopStep which focusLeft irisLeft).lens.sensor = s.lens.sensor ∧
    (f ≠ 0 ∨ i ≠ 0 → (s.homeStopStep which focusLeft irisLeft).lens.drive = .homeStop f i ∧
      (s.homeStopStep which focusLeft irisLeft).lens.zoom = s.lens.zoom) ∧
    (f = 0 → i = 0 → (s.homeStopStep which focusLeft irisLeft).lens.drive = (if s.lens.sensor = .home then .homeOut 0 else .homeIn 0) ∧
      (s.homeStopStep which focusLeft irisLeft).lens.zoom.inFlight = true ∧
      (s.homeStopStep which focusLeft irisLeft).lens.zoom.stepAt = some (s.clock + us 2000)) ∧
    (left = 0 → (s.homeStopStep which focusLeft irisLeft).act which = (s.act which).atZero) ∧
    (left ≠ 0 → (s.homeStopStep which focusLeft irisLeft).act which =
      { s.act which with stepAt := some (s.clock + stepInterval which (s.act which).speed) }) := by
  obtain ⟨w, hw⟩ : ∃ w : State, w = if left = 0 then s.setAct which (s.act which).atZero else s.nextStep which := ⟨_, rfl⟩
  obtain ⟨v, hv⟩ : ∃ v : State, v = (if left = 0 ∧ which = .focus then w.statFocusDone else w).setDrive (.homeStop f i) := ⟨_, rfl⟩
  have hstep : s.homeStopStep which focusLeft irisLeft = if f = 0 ∧ i = 0 then v.homeZoom else v := by
    rw [hv, hw, hleft, hf, hi]
    rfl
  have hkept : v.clock = s.clock ∧ v.lens.state = s.lens.state ∧ v.lens.sensor = s.lens.sensor ∧ v.lens.drive = .homeStop f i ∧
      v.lens.zoom = s.lens.zoom ∧ (left = 0 → v.act which = (s.act which).atZero) ∧
      (left ≠ 0 → v.act which = { s.act which with stepAt := some (s.clock + stepInterval which (s.act which).speed) }) := by
    rw [hv, hw]
    by_cases hzero : left = 0
    · simp only [hzero, true_and, ne_eq, not_true_eq_false, if_true, false_imp_iff, and_true]
      split_ifs <;> cases which <;> simp_all [State.setDrive, State.withLens, State.setAct, State.act]
    · simp only [hzero, false_and, if_false]
      cases which <;> simp_all [State.setDrive, State.withLens, State.setAct, State.act, State.nextStep]
  obtain ⟨hclock, hstate, hsensor, hdrive, hzoom, hzero, hmore⟩ := hkept
  rw [hstep]
  by_cases hend : f = 0 ∧ i = 0
  · rw [if_pos hend, ← hclock, ← hsensor]
    have hact : v.homeZoom.act which = v.act which := by
      cases which with
      | zoom => exact absurd rfl h
      | focus => rfl
      | iris => rfl
    rw [hact]
    rw [← hclock] at hmore
    exact ⟨rfl, hstate, rfl, fun hnot => absurd hend (by tauto), fun _ _ => ⟨rfl, rfl, rfl⟩, hzero, hmore⟩
  · rw [if_neg hend]
    exact ⟨hclock, hstate, hsensor, fun _ => ⟨hdrive, hzoom⟩, fun hf0 hi0 => absurd ⟨hf0, hi0⟩ hend, hzero, hmore⟩

theorem State.actuatorStep_of_homeStop {s : State} {which : Actuator} (level : HomeLevel) (hne : which ≠ .zoom) {f i : Nat}
    (h : s.lens.drive = .homeStop f i) : s.actuatorStep which level = (s.stepTaken which level).homeStopStep which f i := by
  cases which with
  | zoom => exact absurd rfl hne
  | focus => simp [State.actuatorStep, State.stepTaken, State.withLens, State.put, h]
  | iris => simp [State.actuatorStep, State.stepTaken, State.withLens, State.put, h]

/-! ### The extend's moves (R69) -/

@[simp] theorem State.stabSet_iv (s : State) (x : StabState) : (s.stabSet x).lens.iv = s.lens.iv := by
  unfold State.stabSet State.creditWatch
  dsimp only
  split_ifs
  · rfl
  all_goals simp

@[simp] theorem State.derive_iv (s : State) : s.derive.lens.iv = s.lens.iv := by
  unfold State.derive
  split <;> simp

@[simp] theorem State.leaveIdle_iv (s : State) : s.leaveIdle.lens.iv = s.lens.iv := by
  unfold State.leaveIdle
  split_ifs
  · rw [State.gatePass_eq, State.derive_iv]
    rfl
  · rfl
  · rfl

@[simp] theorem State.becomeReady_iv (s : State) : s.becomeReady.lens.iv = s.lens.iv := by
  simp [State.becomeReady]

/-- The extend's focus move, while it is under way. -/
theorem State.extendFocus_of_moving {s : State} (h : s.lens.focus.pos ≠ some (trackAt s.lens.iv 32)) :
    s.extendFocus.lens.drive = .extendFocus ∧ s.extendFocus.lens.focus.inFlight = true ∧ s.extendFocus.lens.zoom = s.lens.zoom ∧
    s.extendFocus.lens.iris = s.lens.iris := by
  obtain ⟨u, hu⟩ : ∃ u : State, u = s.setDistance32.setDrive .extendFocus := ⟨_, rfl⟩
  have hcurve : u.curve = trackAt s.lens.iv 32 := by rw [hu]; rfl
  have hlens : u.lens.drive = .extendFocus ∧ u.lens.focus = s.lens.focus ∧ u.lens.zoom = s.lens.zoom ∧ u.lens.iris = s.lens.iris := by
    rw [hu]
    exact ⟨rfl, rfl, rfl, rfl⟩
  obtain ⟨hdrive, hfocus, hzoom, hiris⟩ := hlens
  obtain ⟨-, -, -, -, hflight⟩ := u.driveLens_act .focus u.curve 0
  have hmoves : (u.driveLens .focus u.curve 0).lens.focus.inFlight = true := by
    refine hflight.trans (decide_eq_true ?_)
    rw [hcurve]
    exact fun hthere => h ((congrArg ActRecord.pos hfocus).symm.trans hthere)
  have hextend : s.extendFocus = u.driveLens .focus u.curve 0 := by
    rw [hu] at hmoves ⊢
    exact if_pos hmoves
  rw [hextend]
  exact ⟨by simpa using hdrive, hmoves, (u.driveLens_act_ne (which := .focus) (other := .zoom) (by decide) u.curve 0).trans hzoom,
    (u.driveLens_act_ne (which := .focus) (other := .iris) (by decide) u.curve 0).trans hiris⟩

@[simp] theorem State.extendFocus_iv (s : State) : s.extendFocus.lens.iv = s.lens.iv := by
  unfold State.extendFocus
  dsimp only
  split_ifs <;> simp [State.setDrive, State.withLens, State.setDistance32]

/-- A zoom or iris move of the extend complete: what the extend does next. -/
theorem State.extendCheck_spec {s : State} {one other : Actuator} (hpair : (one = .zoom ∧ other = .iris) ∨ (one = .iris ∧ other = .zoom))
    (hstate : s.lens.state = .extending) (hdone : (s.act one).inFlight = false) :
    (s.extendCheck.lens.state = .extending → (s.extendCheck.act one).inFlight = false) ∧
    ((s.act other).inFlight = true → s.extendCheck = s) ∧
    ((s.act other).inFlight = false → s.extendCheck.lens.d = some 32 ∧
      s.extendCheck.lens.focus.target = some (trackAt s.extendCheck.lens.iv 32) ∧
      (s.lens.focus.pos ≠ some (trackAt s.extendCheck.lens.iv 32) →
        s.extendCheck.lens.state = .extending ∧ s.extendCheck.lens.drive = .extendFocus ∧ s.extendCheck.lens.focus.inFlight = true) ∧
      (s.lens.focus.pos = some (trackAt s.extendCheck.lens.iv 32) →
        s.extendCheck.lens.state = .ready ∧ s.extendCheck.occurred .lensReady)) := by
  have hmoving : (s.lens.zoom.inFlight = true ∨ s.lens.iris.inFlight = true) ↔ (s.act other).inFlight = true := by
    rcases hpair with ⟨rfl, rfl⟩ | ⟨rfl, rfl⟩ <;> simp_all [State.act]
  cases hother : (s.act other).inFlight with
  | true =>
    have hstay : s.extendCheck = s := if_pos (hmoving.2 hother)
    rw [hstay]
    exact ⟨fun _ => hdone, fun _ => rfl, fun h => absurd h (by decide)⟩
  | false =>
    have hgo : s.extendCheck = s.extendFocus := if_neg fun h => absurd (hmoving.1 h) (by simp [hother])
    obtain ⟨hd, htarget, hstays, hready⟩ := s.extendFocus_spec
    rw [hgo, s.extendFocus_iv]
    refine ⟨fun hext => ?_, fun h => absurd h (by decide), fun _ => ⟨hd, htarget, fun hnot => ?_, hready⟩⟩
    · have hnot : s.lens.focus.pos ≠ some (trackAt s.lens.iv 32) := fun h => by simp [(hready h).1] at hext
      obtain ⟨-, -, hzoom, hiris⟩ := State.extendFocus_of_moving hnot
      rw [← hdone]
      rcases hpair with ⟨rfl, -⟩ | ⟨rfl, -⟩
      · exact congrArg ActRecord.inFlight hzoom
      · exact congrArg ActRecord.inFlight hiris
    · obtain ⟨hdrive, hflight, -⟩ := State.extendFocus_of_moving hnot
      exact ⟨(hstays hnot).trans hstate, hdrive, hflight⟩

/-- The lens becomes Ready: the timers, and the live loop from IDLE (R5, R8, R67, R69). -/
theorem State.becomeReady_loop (s : State) : s.becomeReady.fc.started = true ∧ s.becomeReady.lens.drive = .none ∧
    (∀ p, s.becomeReady.pends p .lensReady) ∧
    (s.fc.state = .idle → s.fc.cadence ≠ .still → s.becomeReady.fc.state = .live ∨ s.becomeReady.fc.state = .arming) := by
  obtain ⟨u, hu⟩ : ∃ u : State, u = ((s.withLens (fun l => { l with state := .ready, drive := .none })).raise .lensReady).derive.plannerRun :=
    ⟨_, rfl⟩
  have hready : s.becomeReady = u.startTimers.leaveIdle := by rw [hu]; rfl
  have hu : u.fc = s.fc ∧ u.lens.state = .ready ∧ u.lens.drive = .none := by
    rw [hu]
    simp [State.withLens]
  have hstarted : u.startTimers.fc.started = true := by
    unfold State.startTimers
    dsimp only
    split_ifs with hstarted
    · exact hstarted
    · rfl
    · simp [State.withFc]
  refine ⟨?_, ?_, fun p => ?_, fun hidle hcadence => ?_⟩
  · rw [hready]
    simpa using hstarted
  · rw [hready]
    simp [hu]
  · have hraised := ((s.withLens (fun l => { l with state := .ready, drive := .none })).raise_raised .lensReady).2 p
    exact Invariant.holds.leaveIdle (v := .pends p .lensReady) (Invariant.holds.startTimers (v := .pends p .lensReady)
      (Invariant.holds.plannerRun (v := .pends p .lensReady) (Invariant.holds.derive (v := .pends p .lensReady) hraised)))
  · have hidle : u.startTimers.fc.state = .idle ∧ u.startTimers.loopRuns = true := by
      refine ⟨by simp [hu, hidle], ?_⟩
      simp [State.loopRuns, State.lensReady, hu, hcadence]
    rw [hready, State.leaveIdle, if_pos hidle]
    split_ifs
    · right
      rw [State.gatePass_eq]
      simp [State.gateArmed, State.withFc]
    · exact .inl rfl

/-! ### Ordinary steps, as the link sees them -/

/-- What the step taken leaves, for the facts about its effect. -/
theorem State.stepTaken_kept (s : State) (which : Actuator) (level : HomeLevel) (d : Nat) :
    ((s.begin.reach d).stepTaken which level).lens = { s.lens with sensor := level } ∧
    ((s.begin.reach d).stepTaken which level).clock = max s.clock d ∧
    ((s.begin.reach d).stepTaken which level).outs = [.step which (s.stepUp which)] := ⟨rfl, rfl, rfl⟩

section
variable {s : State} {which : Actuator} {level : HomeLevel} {p q : Int} {d : Nat}

/-- An ordinary step of any actuator (R73). -/
theorem State.ordinaryStep_spec (hdue : s.stepDue which p q d) (hdrive : s.lens.drive = .none ∨ which ≠ .zoom) {t : State}
    (ht : t = ((s.begin.reach d).stepTaken which level).ordinaryStep which) :
    (t.act which).pos = some (stepFrom p q) ∧ t.lens.sensor = level ∧ t.outs.head? = some (.step which (decide (p < q))) ∧
    t.store.slots.length = s.store.slots.length ∧
    (stepFrom p q ≠ q → (t.act which).target = some q ∧ (t.act which).inFlight = (s.act which).inFlight ∧
      (t.act which).stepAt = some (max s.clock d + stepInterval which (s.act which).speed)) := by
  obtain ⟨u, hu⟩ : ∃ u : State, u = (s.begin.reach d).stepTaken which level := ⟨_, rfl⟩
  obtain ⟨-, hclock, houts⟩ := s.stepTaken_kept which level d
  have hact : u.act which = s.act which := by rw [hu]; cases which <;> rfl
  have hstore : u.store = s.store := by rw [hu]; rfl
  have hsensor : u.lens.sensor = level := by rw [hu]; rfl
  have hdueU : u.stepDue which p q d := by rw [State.stepDue, hact]; exact hdue
  rw [← hu] at ht hclock houts
  obtain ⟨⟨hslots, hprefix⟩, hpos, hsensorKept⟩ := u.ordinaryStep_kept which
  rw [← ht] at hslots hprefix hpos hsensorKept
  refine ⟨hpos.trans (State.plainStep_pos hdueU), hsensorKept.trans hsensor, ?_, hslots.trans (by rw [hstore]), fun haway => ?_⟩
  · obtain ⟨rest, hrest⟩ := hprefix
    rw [← hrest, houts, State.stepUp_of_due hdue hdrive]
    rfl
  · have hrecord := State.ordinaryStep_away (s := u) (which := which) (by rw [State.plainStep_inFlight hdueU]; exact decide_eq_true haway)
    rw [ht, hrecord, State.plainStep_away hdueU haway, State.act_setAct, hact, hclock]
    exact ⟨hdue.2.1, rfl, rfl⟩

/-- The step that completes a move in Ready (R73, R77, R81). -/
theorem State.ordinaryStep_there (hdue : s.stepDue which p q d) (hdrive : s.lens.drive = .none) (hready : s.lens.state = .ready)
    (hthere : stepFrom p q = q) {t : State} (ht : t = ((s.begin.reach d).stepTaken which level).ordinaryStep which) :
    (which ≠ .focus → (t.act which).inFlight = false ∧ (t.act which).stepAt = none) ∧
    (which = .focus → t.st.focusStamp = some t.timeBase) ∧
    (which = .zoom → (s.act which).origin = .link → t.occurred .zoomReached) := by
  obtain ⟨u, hu⟩ : ∃ u : State, u = (s.begin.reach d).stepTaken which level := ⟨_, rfl⟩
  have hact : u.act which = s.act which := by rw [hu]; cases which <;> rfl
  have hlens : u.lens.state = .ready ∧ u.lens.drive = .none := by rw [hu]; exact ⟨hready, hdrive⟩
  have hdueU : u.stepDue which p q d := by rw [State.stepDue, hact]; exact hdue
  rw [← hu] at ht
  cases which with
  | zoom =>
    have hstep : t = (u.plainStep .zoom).reinterpolate.zoomDone u.lens.zoom.origin := ht.trans (State.zoomStep_there hdueU hthere hlens.1)
    have hzoom : t.lens.zoom = { u.lens.zoom with pos := some q, inFlight := false, stepAt := none } := by
      rw [hstep, State.zoomDone_zoom, (State.reinterpolate_spec _).2.2.2.1, State.plainStep_there hdueU hthere]
      rfl
    refine ⟨fun _ => ⟨congrArg ActRecord.inFlight hzoom, congrArg ActRecord.stepAt hzoom⟩, fun h => absurd h (by decide), fun _ hlink => ?_⟩
    have horigin : u.lens.zoom.origin = .link := (congrArg ActRecord.origin hact).trans hlink
    rw [hstep, horigin]
    rw [State.zoomDone_of_link]
    exact Invariant.holds.trackingPoint (v := .occurred .zoomReached) (State.raise_raised _ .zoomReached).1
  | focus =>
    have hstep : t = (u.plainStep .focus).statFocusDone.afFocusDone u.lens.focus.origin :=
      ht.trans (State.focusStep_there hdueU hthere hlens.1)
    have hstamped : State.stamped t := by
      rw [hstep]
      exact State.stamped.afFocusDone (s := (u.plainStep .focus).statFocusDone) rfl _
    exact ⟨fun h => absurd rfl h, fun _ => hstamped, fun h => absurd h (by decide)⟩
  | iris =>
    have hstep : t = u.plainStep .iris := ht.trans (State.irisStep_of_none hlens.2)
    rw [hstep, State.plainStep_there hdueU hthere, State.act_setAct]
    exact ⟨fun _ => ⟨rfl, rfl⟩, fun h => absurd h (by decide), fun h => absurd h (by decide)⟩

end

/-- A zoom step in Ready: the values at the new position, then a tracking point where one is. -/
theorem State.zoomStep_cases {s : State} {p q : Int} {d : Nat} (hdue : s.stepDue .zoom p q d) (hready : s.lens.state = .ready) :
    (stepFrom p q ≠ q → stepFrom p q % 16 ≠ 0 → s.zoomStep = (s.plainStep .zoom).reinterpolate) ∧
    (stepFrom p q = q ∨ stepFrom p q % 16 = 0 → ∃ v : State, v.lens = (s.plainStep .zoom).reinterpolate.lens ∧ v.fc = s.fc ∧
      v.af = s.af ∧ s.zoomStep = v.trackingPoint) := by
  obtain ⟨w, hw⟩ : ∃ w : State, w = (s.plainStep .zoom).reinterpolate := ⟨_, rfl⟩
  have hzoom : w.lens.zoom = (s.plainStep .zoom).lens.zoom := by rw [hw]; exact (State.reinterpolate_spec _).2.2.2.1
  have hflight : w.lens.zoom.inFlight = decide (stepFrom p q ≠ q) := by rw [hzoom]; exact State.plainStep_inFlight hdue
  have hpos : w.lens.zoom.pos = some (stepFrom p q) := by rw [hzoom]; exact State.plainStep_pos hdue
  have hkept : w.fc = s.fc ∧ w.af = s.af := by simp [hw]
  have haway (hne : stepFrom p q ≠ q) : s.zoomStep = if stepFrom p q % 16 = 0 then w.trackingPoint else w := by
    unfold State.zoomStep
    dsimp only
    rw [← hw, hflight, hpos, decide_eq_true hne]
    rfl
  rw [← hw]
  refine ⟨fun hne hodd => (haway hne).trans (if_neg hodd), fun hpoint => ?_⟩
  by_cases hthere : stepFrom p q = q
  · refine ⟨if s.lens.zoom.origin = .link then w.raise .zoomReached else w, ?_, ?_, ?_, ?_⟩
    · split <;> rfl
    · split <;> exact hkept.1
    · split <;> exact hkept.2
    · rw [State.zoomStep_there hdue hthere hready, ← hw]
      rfl
  · exact ⟨w, rfl, hkept.1, hkept.2, (haway hthere).trans (if_pos (hpoint.resolve_left hthere))⟩

/-- A zoom step in Ready with no search and no hold (R83, R85). -/
theorem State.zoomStep_tracks {s : State} {p q x : Int} {d : Nat} (hdue : s.stepDue .zoom p q d) (hready : s.lens.state = .ready)
    (hhold : s.hold = false) (hsearching : s.af.state.searching = false) (hd : s.lens.d = some x) :
    s.zoomStep.lens.d = some x ∧ s.zoomStep.lens.iv = valuesAt s.loader.table (some (stepFrom p q)) ∧
    (stepFrom p q ≠ q → stepFrom p q % 16 ≠ 0 → s.zoomStep.lens.focus = s.lens.focus) ∧
    (stepFrom p q = q ∨ stepFrom p q % 16 = 0 →
      (s.lens.focus.target = some (trackAt s.zoomStep.lens.iv x) → s.zoomStep.lens.focus = s.lens.focus) ∧
      (s.lens.focus.target ≠ some (trackAt s.zoomStep.lens.iv x) →
        s.zoomStep.lens.focus.target = some (max 0 (min 1023 (trackAt s.zoomStep.lens.iv x))) ∧
        s.zoomStep.lens.focus.origin = .tracking) ∧
      (0 ≤ s.zoomStep.lens.pmax → s.zoomStep.lens.iris.target.getD 0 ≤ s.zoomStep.lens.pmax)) := by
  obtain ⟨w, hw⟩ : ∃ w : State, w = (s.plainStep .zoom).reinterpolate := ⟨_, rfl⟩
  obtain ⟨hiv, -, -, -, hfocus⟩ := (s.plainStep .zoom).reinterpolate_spec
  obtain ⟨hplain, hpoint⟩ := State.zoomStep_cases hdue hready
  rw [← hw] at hiv hfocus hplain hpoint
  have hkept : w.lens.state = .ready ∧ w.lens.d = some x ∧ (s.plainStep .zoom).loader = s.loader := by simp [hw, hready, hd]
  obtain ⟨hstate, hdW, hloader⟩ := hkept
  have hfocusW : w.lens.focus = s.lens.focus := hfocus.trans (s.plainStep_act_ne (which := .zoom) (other := .focus) (by decide))
  have hivW : w.lens.iv = valuesAt s.loader.table (some (stepFrom p q)) := by
    rw [hiv, show (s.plainStep .zoom).lens.zoom.pos = _ from State.plainStep_pos hdue, hloader]
  by_cases hat : stepFrom p q = q ∨ stepFrom p q % 16 = 0
  · obtain ⟨v, hlens, hfc, haf, hv⟩ := hpoint hat
    have hholdV : v.hold = false := by rw [State.hold, hfc]; exact hhold
    obtain ⟨hdT, hstays, hgoes, hiris⟩ := State.trackingPoint_spec (s := v) (x := x) (by rw [hlens]; exact hstate) hholdV
      (by rw [haf]; exact hsearching) (by rw [hlens]; exact hdW)
    obtain ⟨hivT, -, hpmaxT⟩ := v.trackingPoint_sensor
    rw [hv, hivT, hpmaxT, hlens, hivW]
    rw [hlens, hfocusW, hivW] at hstays hgoes
    rw [hlens] at hiris
    exact ⟨hdT, rfl, fun hne hodd => absurd hat (by tauto), fun _ => ⟨hstays, hgoes, hiris⟩⟩
  · have hne : stepFrom p q ≠ q ∧ stepFrom p q % 16 ≠ 0 := by tauto
    rw [hplain hne.1 hne.2]
    exact ⟨hdW, hivW, fun _ _ => hfocusW, fun h => absurd h hat⟩

/-! ### The last step of a drive -/

section
variable {s : State} {p q : Int} {d : Nat} (hnear : stepFrom p q = q)
include hnear

/-- A zoom or iris step that ends its part of the extend (R69). -/
theorem State.ordinaryStep_extends {one other : Actuator} (hpair : (one = .zoom ∧ other = .iris) ∨ (one = .iris ∧ other = .zoom))
    (hdue : s.stepDue one p q d) (hdrive : s.lens.drive = .extendMoves) (hstate : s.lens.state = .extending) :
    ∃ v : State, s.ordinaryStep one = v.extendCheck ∧ v.lens.state = .extending ∧ v.lens.drive = .extendMoves ∧ v.lens.d = s.lens.d ∧
      v.lens.focus = s.lens.focus ∧ (v.act one).inFlight = false ∧ v.act other = s.act other := by
  have hrest : ((s.plainStep one).act one).inFlight = false := by
    rw [State.plainStep_inFlight hdue]
    exact decide_eq_false (not_not.2 hnear)
  have hfocus : (s.plainStep one).lens.focus = s.lens.focus :=
    s.plainStep_act_ne (other := .focus) (by rcases hpair with ⟨rfl, -⟩ | ⟨rfl, -⟩ <;> decide)
  have hkept : (s.plainStep one).lens.state = .extending ∧ (s.plainStep one).lens.drive = .extendMoves ∧
      (s.plainStep one).lens.d = s.lens.d := by simp [hstate, hdrive]
  obtain ⟨hstateP, hdriveP, hdP⟩ := hkept
  rcases hpair with ⟨rfl, rfl⟩ | ⟨rfl, rfl⟩
  · obtain ⟨w, hw⟩ : ∃ w : State, w = (s.plainStep .zoom).reinterpolate := ⟨_, rfl⟩
    obtain ⟨-, -, -, hzoom, hfocusW⟩ := (s.plainStep .zoom).reinterpolate_spec
    have hiris : (s.plainStep .zoom).reinterpolate.lens.iris = (s.plainStep .zoom).lens.iris := State.reinterpolate_iris (by simp [hstate])
    have hkept : (s.plainStep .zoom).reinterpolate.lens.state = .extending ∧ (s.plainStep .zoom).reinterpolate.lens.drive = .extendMoves ∧
      (s.plainStep .zoom).reinterpolate.lens.d = s.lens.d := by simp [hstate, hdrive]
    rw [← hw] at hzoom hfocusW hiris hkept
    obtain ⟨hstateW, hdriveW, hdW⟩ := hkept
    have hrestW : w.lens.zoom.inFlight = false := by rw [hzoom]; exact hrest
    refine ⟨w, ?_, hstateW, hdriveW, hdW, hfocusW.trans hfocus, hrestW,
      hiris.trans (s.plainStep_act_ne (which := .zoom) (other := .iris) (by decide))⟩
    change s.zoomStep = _
    unfold State.zoomStep
    dsimp only
    rw [← hw, hrestW, hstateW]
    rfl
  · refine ⟨s.plainStep .iris, ?_, hstateP, hdriveP, hdP, hfocus, hrest, s.plainStep_act_ne (by decide)⟩
    have hrest : (s.plainStep .iris).lens.iris.inFlight = false := hrest
    change s.irisStep = _
    unfold State.irisStep
    dsimp only
    rw [hrest, hdriveP]
    rfl

/-- A focus or iris step that ends its part of the retract (R71). -/
theorem State.ordinaryStep_retracts {one other : Actuator} (hpair : (one = .focus ∧ other = .iris) ∨ (one = .iris ∧ other = .focus))
    (hdue : s.stepDue one p q d) (hdrive : s.lens.drive = .retractHomed) (hstate : s.lens.state = .retracting) :
    ∃ v : State, s.ordinaryStep one = v.retractCheck ∧ v.lens.state = .retracting ∧ v.lens.drive = .retractHomed ∧
      (v.act one).inFlight = false ∧ v.act other = s.act other := by
  have hrest : ((s.plainStep one).act one).inFlight = false := by
    rw [State.plainStep_inFlight hdue]
    exact decide_eq_false (not_not.2 hnear)
  have hkept : (s.plainStep one).lens.state = .retracting ∧ (s.plainStep one).lens.drive = .retractHomed := by simp [hstate, hdrive]
  rcases hpair with ⟨rfl, rfl⟩ | ⟨rfl, rfl⟩
  · refine ⟨(s.plainStep .focus).statFocusDone, ?_, hkept.1, hkept.2, hrest,
      s.plainStep_act_ne (which := .focus) (other := .iris) (by decide)⟩
    have hdriven : (s.plainStep .focus).statFocusDone.focusDriven = (s.plainStep .focus).statFocusDone.retractCheck := by
      rw [State.focusDriven, show (s.plainStep .focus).statFocusDone.lens.drive = _ from hkept.2]
    exact (State.focusStep_driven hdue hnear (by simp [hstate])).trans hdriven
  · refine ⟨s.plainStep .iris, ?_, hkept.1, hkept.2, hrest, s.plainStep_act_ne (by decide)⟩
    have hrest : (s.plainStep .iris).lens.iris.inFlight = false := hrest
    change s.irisStep = _
    unfold State.irisStep
    dsimp only
    rw [hrest, hkept.2]
    rfl

end

theorem State.retractCheck_act (s : State) (which : Actuator) : s.retractCheck.act which = s.act which := by
  unfold State.retractCheck
  split <;> cases which <;> rfl

/-- A focus move of a search, complete in Ready: its own goes on, another's gives the search up (R93, R100). -/
theorem State.afFocusDone_spec {s u : State} (haf : u.af = s.af) (hfc : u.fc = s.fc) (hsettings : u.settings = s.settings)
    (hsearching : s.af.state.searching = true) (hwait : s.af.wait.isMove = true) (o : Origin) :
    (o = .search → s.ownMoveDone (u.afFocusDone o)) ∧
    (o ≠ .search → (u.afFocusDone o).af.state = .idle ∧ (u.afFocusDone o).af.result = .aborted ∧ (u.afFocusDone o).lens.d = u.lens.d) := by
  have hdone : u.afFocusDone o = if o = .search then State.afAdvance 4 u else u.afAbort := if_pos (by rw [haf]; exact ⟨hsearching, hwait⟩)
  rw [hdone]
  refine ⟨fun hown => ?_, fun hother => ?_⟩
  · rw [if_pos hown]
    exact State.afAdvance_ownMoveDone (State.watching_congr hfc hsettings) haf
  · rw [if_neg hother, State.afAbort_af (by rw [haf]; exact hsearching)]
    exact ⟨rfl, rfl, by simp⟩

@[simp] theorem State.stepTaken_act (s : State) (which other : Actuator) (level : HomeLevel) (d : Nat) :
    ((s.begin.reach d).stepTaken which level).act other = s.act other := by cases other <;> rfl

theorem State.stepTaken_due {s : State} {which : Actuator} {p q : Int} {d : Nat} (h : s.stepDue which p q d) (level : HomeLevel) :
    ((s.begin.reach d).stepTaken which level).stepDue which p q d := by
  rw [State.stepDue, State.stepTaken_act]
  exact h

/-- Settles O41: the ordinary step by whether the target is reached; the stop phase by the steps left; the last step of a drive by the
drive. -/
theorem stepMovesOneTowardTheTarget : Obligations.StepMovesOneTowardTheTarget := by
  refine ⟨fun s which level p q d hdue hordinary => ?ordinary,
    fun s level p q x z d hdue hdrive hready hhold hsearching hd hz => ?tracking,
    fun s level d f i hdrive x hx hdue => ?stop,
    fun s level p q d hone => ⟨fun x hx hdue hdrive hstate => ?extending, fun hdue hdrive hstate => ?extended,
      fun hdue hdrive hstate => ?parked, fun x hx hdue hdrive hstate => ?retracts,
      fun hdue hdrive hready hsearching hwait => ?searches⟩⟩
  case ordinary =>
    refine completes_actuatorStep hdue.2.2.1 fun x y => ?_
    obtain ⟨t, ht⟩ : ∃ t : State, t = ((s.begin.reach d).stepTaken which level).ordinaryStep which := ⟨_, rfl⟩
    obtain ⟨hpos, hsensor, houts, hslots, haway⟩ := State.ordinaryStep_spec hdue (hordinary.imp_right And.left) ht
    have hthere := fun hnone hready heq => State.ordinaryStep_there hdue hnone hready heq ht
    have hstep : (s.begin.reach d).actuatorStep which level = t := by rw [ht]; exact State.actuatorStep_of_ordinary level hordinary
    have hkept : t.clock = max s.clock d ∧ t.settings = s.settings ∧ t.store.dram = s.store.dram ∧ t.epoch = s.epoch ∧
        t.rq.queue = s.rq.queue := by
      rw [← hstep]
      simp [State.reach]
    obtain ⟨hclock, hsettings, hdram, hepoch, hqueue⟩ := hkept
    have hbyte (a : Nat) : t.dramByte a = s.dramByte a := by simp only [State.dramByte, hdram, hepoch]
    rw [hstep]
    refine ⟨hclock, hpos, hsensor, houts, fun _ hne => ?_, hthere, hsettings, hbyte, hqueue, hslots⟩
    obtain ⟨htarget, hflight, hstepAt⟩ := haway hne
    exact ⟨htarget, hflight, hstepAt.trans (by rw [← hclock]; rfl)⟩
  case tracking =>
    refine completes_actuatorStep hdue.2.2.1 fun v y => ?_
    rw [State.actuatorStep_of_zoom (s := s.begin.reach d) level (.inl hdrive), hz]
    exact State.zoomStep_tracks (s := (s.begin.reach d).stepTaken .zoom level) hdue hready hhold hsearching hd
  case stop =>
    refine completes_actuatorStep hdue fun _ _ => ?_
    have hx : x.1 ≠ .zoom ∧ x.2.1 = (if x.1 = .focus then f - 1 else f) ∧ x.2.2.1 = (if x.1 = .iris then i - 1 else i) ∧
        x.2.2.2 = if x.1 = .focus then x.2.1 else x.2.2.1 := by
      obtain rfl | rfl : x = (.focus, f - 1, i, f - 1) ∨ x = (.iris, f, i - 1, i - 1) := by simpa using hx
      · simp
      · simp
    obtain ⟨hne, hf, hi, hleft⟩ := hx
    rw [State.actuatorStep_of_homeStop (s := s.begin.reach d) level hne hdrive]
    obtain ⟨hclock, hstate, hsensor, hgo, hend, hzero, hmore⟩ :=
      ((s.begin.reach d).stepTaken x.1 level).homeStopStep_spec hne f i hf hi hleft
    rw [State.stepTaken_act, ← hclock] at hmore
    rw [← hclock] at hend
    refine ⟨hclock, hstate, hsensor, hgo, hend, fun h => ?_, hmore⟩
    have hrecord : ((((s.begin.reach d).stepTaken x.1 level).homeStopStep x.1 f i).act x.1) = _ := hzero h
    exact ⟨congrArg ActRecord.pos hrecord, congrArg ActRecord.target hrecord, congrArg ActRecord.inFlight hrecord,
      congrArg ActRecord.stepAt hrecord⟩
  all_goals have hnear := stepFrom_of_near hone
  case extending =>
    have hpair : (x.1 = .zoom ∧ x.2 = .iris) ∨ (x.1 = .iris ∧ x.2 = .zoom) := by
      obtain rfl | rfl : x = (.zoom, .iris) ∨ x = (.iris, .zoom) := by simpa using hx
      · exact .inl ⟨rfl, rfl⟩
      · exact .inr ⟨rfl, rfl⟩
    have hstep : (s.begin.reach d).actuatorStep x.1 level = ((s.begin.reach d).stepTaken x.1 level).ordinaryStep x.1 := by
      rcases hpair with ⟨h, -⟩ | ⟨h, -⟩
      · rw [h]
        exact State.actuatorStep_of_zoom level (.inr hdrive)
      · exact State.actuatorStep_of_ordinary level (.inr ⟨by simp [h], fun _ _ => by simp [State.reach, hdrive]⟩)
    refine completes_actuatorStep hdue.2.2.1 fun _ _ => ?_
    have hpos := (((s.begin.reach d).stepTaken x.1 level).ordinaryStep_kept x.1).2.1.trans (State.plainStep_pos (State.stepTaken_due hdue level))
    obtain ⟨v, hv, hstateV, hdriveV, hdV, hfocusV, hrest, hother⟩ :=
      State.ordinaryStep_extends hnear hpair (State.stepTaken_due hdue level) hdrive hstate
    obtain ⟨hdone, hwaits, hgoes⟩ := State.extendCheck_spec hpair hstateV hrest
    rw [State.stepTaken_act] at hother
    rw [hv, hnear] at hpos
    rw [hother] at hwaits hgoes
    rw [hstep, hv]
    rw [hfocusV] at hgoes
    refine ⟨hpos, hdone, fun h => ?_, hgoes⟩
    rw [hwaits h]
    exact ⟨hstateV, hdriveV, hdV, hfocusV⟩
  case retracts =>
    have hpair : (x.1 = .focus ∧ x.2 = .iris) ∨ (x.1 = .iris ∧ x.2 = .focus) := by
      obtain rfl | rfl : x = (.focus, .iris) ∨ x = (.iris, .focus) := by simpa using hx
      · exact .inl ⟨rfl, rfl⟩
      · exact .inr ⟨rfl, rfl⟩
    have hne : x.1 ≠ .zoom := by rcases hpair with ⟨h, -⟩ | ⟨h, -⟩ <;> simp [h]
    have hstep : (s.begin.reach d).actuatorStep x.1 level = ((s.begin.reach d).stepTaken x.1 level).ordinaryStep x.1 :=
      State.actuatorStep_of_ordinary level (.inr ⟨hne, fun _ _ => by simp [State.reach, hdrive]⟩)
    refine completes_actuatorStep hdue.2.2.1 fun _ _ => ?_
    have hpos := (((s.begin.reach d).stepTaken x.1 level).ordinaryStep_kept x.1).2.1.trans (State.plainStep_pos (State.stepTaken_due hdue level))
    obtain ⟨v, hv, hstateV, hdriveV, hrest, hother⟩ :=
      State.ordinaryStep_retracts hnear hpair (State.stepTaken_due hdue level) hdrive hstate
    obtain ⟨hdone, hwaits⟩ := State.retractCheck_spec hdriveV
    rw [State.stepTaken_act] at hother
    have hmoves : (v.lens.focus.inFlight = true ∨ v.lens.iris.inFlight = true) ↔ (s.act x.2).inFlight = true := by
      rw [← hother]
      rcases hpair with ⟨h1, h2⟩ | ⟨h1, h2⟩ <;> rw [h1, State.act] at hrest <;> simp [h2, hrest, State.act]
    have hall (h : (s.act x.2).inFlight = false) : v.lens.focus.inFlight = false ∧ v.lens.iris.inFlight = false := by
      rw [← hother] at h
      rcases hpair with ⟨h1, h2⟩ | ⟨h1, h2⟩
      · rw [h1] at hrest
        rw [h2] at h
        exact ⟨hrest, h⟩
      · rw [h1] at hrest
        rw [h2] at h
        exact ⟨h, hrest⟩
    rw [hv, hnear] at hpos
    rw [hstep, hv]
    refine ⟨hpos, (congrArg ActRecord.inFlight (v.retractCheck_act x.1)).trans hrest, fun h => ?_, fun h => ?_⟩
    · rw [hwaits (hmoves.2 h)]
      exact ⟨hstateV, hdriveV⟩
    · obtain ⟨hstowed, hraised, -⟩ := v.becomeStowed_spec
      rw [hdone (hall h)]
      exact ⟨congrArg Lens.state hstowed, hraised⟩
  all_goals
    have hstep : (s.begin.reach d).actuatorStep .focus level = ((s.begin.reach d).stepTaken .focus level).focusStep :=
      State.actuatorStep_of_ordinary level (.inr ⟨by decide, fun _ _ => by simp [State.reach, hdrive]⟩)
    refine completes_actuatorStep hdue.2.2.1 fun _ _ => ?_
  all_goals
    obtain ⟨u, hu⟩ : ∃ u : State, u = (s.begin.reach d).stepTaken .focus level := ⟨_, rfl⟩
    have hdueU : u.stepDue .focus p q d := by rw [hu]; exact State.stepTaken_due hdue level
    have hkept : u.lens.drive = s.lens.drive ∧ u.lens.state = s.lens.state ∧ u.fc = s.fc ∧ u.af = s.af ∧ u.settings = s.settings ∧
        u.lens.focus = s.lens.focus ∧ u.lens.d = s.lens.d := by
      rw [hu]
      exact ⟨rfl, rfl, rfl, rfl, rfl, rfl, rfl⟩
    obtain ⟨hdriveU, hstateU, hfcU, hafU, hsettingsU, hfocusU, hdU⟩ := hkept
    have hplain : (u.plainStep .focus).statFocusDone.lens.focus.inFlight = false :=
      (State.plainStep_inFlight hdueU).trans (decide_eq_false (not_not.2 hnear))
    have hv : (u.plainStep .focus).statFocusDone.lens.drive = s.lens.drive ∧ (u.plainStep .focus).statFocusDone.fc = s.fc ∧
        (u.plainStep .focus).statFocusDone.af = s.af ∧ (u.plainStep .focus).statFocusDone.settings = s.settings ∧
        (u.plainStep .focus).statFocusDone.lens.d = s.lens.d := by simp [hdriveU, hfcU, hafU, hsettingsU, hdU]
    have hthere := State.focusStep_there hdueU hnear
    have hdriven := State.focusStep_driven hdueU hnear
    have hpos := (u.ordinaryStep_kept .focus).2.1.trans (State.plainStep_pos hdueU)
    rw [hfocusU, hstateU] at hthere
    rw [hstateU] at hdriven
    rw [State.ordinaryStep] at hpos
    rw [hstep, ← hu]
    generalize (u.plainStep .focus).statFocusDone = v at hplain hv hthere hdriven
    obtain ⟨hdriveV, hfcV, hafV, hsettingsV, hdV⟩ := hv
  case extended =>
    obtain ⟨hstarted, hdriveR, hpends, hloop⟩ := v.becomeReady_loop
    obtain ⟨hready, -, hraised⟩ := v.becomeReady_spec
    have hbecomes : u.focusStep = v.becomeReady := by rw [hdriven (by simp [hstate]), State.focusDriven, hdriveV, hdrive]
    rw [hfcV] at hloop
    rw [hbecomes]
    exact ⟨hready, hdriveR, hraised, hpends, hstarted, (congrArg ActRecord.inFlight v.becomeReady_motors.2.1).trans hplain, hloop⟩
  case parked =>
    obtain ⟨hstowed, hraised, hpends⟩ := v.becomeStowed_spec
    have hbecomes : u.focusStep = v.becomeStowed := by rw [hdriven (by simp [hstate]), State.focusDriven, hdriveV, hdrive]
    rw [hbecomes]
    exact ⟨congrArg Lens.state hstowed, congrArg Lens.drive hstowed, hraised, hpends⟩
  case searches =>
    have hdone := hthere hready
    obtain ⟨hown, hother⟩ := State.afFocusDone_spec hafV hfcV hsettingsV hsearching hwait s.lens.focus.origin
    rw [← hdone] at hown hother
    rw [hdV] at hother
    exact ⟨hpos.trans (by rw [hnear]), hown, hother⟩

end Sys2Proof.Machine
end

section
/-! The samples of Focus Search (R93 to R97, R103 to R106). -/

namespace Sys2Proof.Machine

/-! ### The record of a sample -/

theorem better_eq_bestAfter (old : Option Peak) (v : Nat) (pos : Int) : Peak.better old { f := v, pos := pos } = bestAfter old v pos := by
  cases old <;> rfl

/-- A log entry: the oldest makes room where the log is full (R106). -/
theorem FocusSearch.logEntry_eq (a : FocusSearch) (e : SweepEntry) : ∃ b, a.logEntry e =
    { a with log := (if a.log.length < 64 then a.log else a.log.drop 1) ++ [e], wrapped := b } ∧ (64 ≤ a.log.length → b = true) := by
  unfold FocusSearch.logEntry
  split_ifs with hroom
  · exact ⟨a.wrapped, rfl, fun h => absurd hroom (by omega)⟩
  · exact ⟨true, rfl, fun _ => rfl⟩

/-- A move to a sample's position changes the wait alone of Focus Search. -/
theorem State.afMove_sample_af (s : State) (x : Int) : ∃ w, (s.afMove .sampleMove x).af = { s.af with wait := w } :=
  (s.afMove_sampleMove x).2.elim (fun h => ⟨_, h⟩) (fun h => ⟨_, h⟩)

theorem State.afMove_focusAsked (s : State) (w : AfWait) (x : Int) : (s.afMove w x).focusAsked x w := State.movesOn_focusAsked 4 s w x

/-! ### The coarse pass (R94 to R96) -/

/-- Focus Search with a coarse sample counted. -/
def FocusSearch.coarseCounted (a : FocusSearch) (v : Nat) (pos : Int) : FocusSearch :=
  { a with
    count := a.count + 1, peak := some (bestAfter a.peak v pos), lastPos := pos,
    f0 := if a.count = 0 then v else a.f0, f1 := if a.count = 1 then v else a.f1 }

/-- Focus Search with the coarse direction reversed. -/
def FocusSearch.coarseReversed (a : FocusSearch) : FocusSearch := { a with reversed := true, low := 0, near := !a.near }

theorem State.coarseSample_eq (s : State) (v : Nat) (pos : Int) : s.coarseSample v pos =
    if (s.af.coarseCounted v pos).reverses v then
      if (s.af.coarseCounted v pos).coarseReversed.startAtEnd then State.coarseEnd { s with af := s.af.coarseCounted v pos }
      else State.afMove { s with af := (s.af.coarseCounted v pos).coarseReversed } .sampleMove
        ((s.af.coarseCounted v pos).coarseReversed.coarseTarget s.af.start)
    else
      if 2 ≤ (s.af.coarseCounted v pos).lowAfter v || (s.af.coarseCounted v pos).atEnd pos || decide (s.af.budget ≤ s.af.count + 1)
      then State.coarseEnd { s with af := { s.af.coarseCounted v pos with low := (s.af.coarseCounted v pos).lowAfter v } }
      else State.afMove { s with af := { s.af.coarseCounted v pos with low := (s.af.coarseCounted v pos).lowAfter v } } .sampleMove
        ((s.af.coarseCounted v pos).coarseTarget pos) := by
  unfold State.coarseSample FocusSearch.coarseCounted
  rw [better_eq_bestAfter]
  rfl

/-- The coarse pass has ended: what it leaves, and the fine pass begun. -/
theorem State.coarseEnd_spec (s : State) {p : Peak} (hpeak : s.af.peak = some p) : s.fineBegun s.coarseEnd p.pos ∧
    s.coarseEnd.af.log = s.af.log ∧ s.coarseEnd.af.wrapped = s.af.wrapped ∧ s.coarseEnd.af.count = s.af.count ∧
    s.coarseEnd.af.peak = s.af.peak ∧ s.coarseEnd.af.reversed = s.af.reversed ∧ s.coarseEnd.af.near = s.af.near ∧
    s.coarseEnd.af.low = s.af.low := by
  have hpos : (s.af.peak.map Peak.pos).getD 0 = p.pos := by rw [hpeak]; rfl
  unfold State.coarseEnd
  dsimp only
  rw [hpos]
  obtain ⟨w, hw⟩ := State.afMove_sample_af (s.withAf (fun a => { a with
    state := .fine, fineFrom := max s.af.lo (p.pos - s.af.coarse), fineTo := min a.hi (p.pos + a.coarse),
    fineTotal := min (2 * a.coarse.toNat / a.fine.toNat + 1) 33, fineIx := 0, best := none })) (max s.af.lo (p.pos - s.af.coarse))
  refine ⟨⟨?_, ?_, ?_, ?_, ?_, ?_, State.afMove_focusAsked _ _ _⟩, ?_, ?_, ?_, ?_, ?_, ?_, ?_⟩ <;> rw [hw] <;> rfl

/-- A coarse sample reverses the pass where it is the third and both after the start fell (R95). -/
theorem FocusSearch.reverses_iff (a : FocusSearch) (v : Nat) (pos : Int) : (a.coarseCounted v pos).reverses v = true ↔
    a.count = 2 ∧ a.reversed = false ∧ a.f1 < a.f0 ∧ v < a.f1 := by
  by_cases hcount : a.count = 2
  · simp [FocusSearch.reverses, FocusSearch.coarseCounted, hcount, and_assoc]
  · simp [FocusSearch.reverses, FocusSearch.coarseCounted, hcount]

/-- A coarse sample counted and tested. -/
theorem State.coarseSample_spec {s : State} (hstate : s.af.state = .coarse) (v : Nat) (pos : Int) :
    (s.coarseSample v pos).af.log = s.af.log ∧ (s.coarseSample v pos).af.wrapped = s.af.wrapped ∧
    (s.coarseSample v pos).af.count = s.af.count + 1 ∧ (s.coarseSample v pos).af.peak = some (bestAfter s.af.peak v pos) ∧
    s.coarseSampled (s.coarseSample v pos) v pos := by
  have hend : ((s.af.coarseCounted v pos).atEnd pos = true) ↔
      (s.af.lo = s.af.hi ∨ if s.af.near then pos = s.af.hi else pos = s.af.lo) := by
    cases hnear : s.af.near <;> simp [FocusSearch.atEnd, FocusSearch.coarseCounted, hnear]
  have hlow : (s.af.coarseCounted v pos).lowAfter v = if 8 * v < 7 * (bestAfter s.af.peak v pos).f then s.af.low + 1 else 0 := rfl
  rw [State.coarseSample_eq]
  by_cases hfalls : (s.af.coarseCounted v pos).reverses v = true
  · rw [if_pos hfalls]
    rw [FocusSearch.reverses_iff] at hfalls
    have hstart : (s.af.coarseCounted v pos).coarseReversed.startAtEnd = true ↔ s.af.start = if s.af.near then s.af.lo else s.af.hi := by
      cases hnear : s.af.near <;> simp [FocusSearch.startAtEnd, FocusSearch.coarseCounted, FocusSearch.coarseReversed, hnear]
    by_cases hat : (s.af.coarseCounted v pos).coarseReversed.startAtEnd = true
    · rw [if_pos hat]
      obtain ⟨hfine, hlog, hwrapped, hcount, hpeak, -⟩ :=
        State.coarseEnd_spec { s with af := s.af.coarseCounted v pos } (p := bestAfter s.af.peak v pos) rfl
      refine ⟨hlog, hwrapped, hcount, hpeak, fun _ x hx => ⟨fun _ => hfine, fun hne => absurd ((hstart.1 hat).trans hx.symm) hne⟩,
        fun hnot => absurd hfalls hnot⟩
    · rw [if_neg hat]
      obtain ⟨w, hw⟩ := State.afMove_sample_af { s with af := (s.af.coarseCounted v pos).coarseReversed }
        ((s.af.coarseCounted v pos).coarseReversed.coarseTarget s.af.start)
      have hasked := State.afMove_focusAsked { s with af := (s.af.coarseCounted v pos).coarseReversed } .sampleMove
        ((s.af.coarseCounted v pos).coarseReversed.coarseTarget s.af.start)
      have htarget : (s.af.coarseCounted v pos).coarseReversed.coarseTarget s.af.start =
          max s.af.lo (min s.af.hi (if s.af.near then s.af.start - s.af.coarse else s.af.start + s.af.coarse)) := by
        cases hnear : s.af.near <;>
          simp [FocusSearch.coarseTarget, FocusSearch.coarseReversed, FocusSearch.coarseCounted, clamp, hnear]
      generalize State.afMove { s with af := (s.af.coarseCounted v pos).coarseReversed } .sampleMove
        ((s.af.coarseCounted v pos).coarseReversed.coarseTarget s.af.start) = t at hw hasked
      rw [htarget] at hasked
      rw [State.coarseSampled, State.coarseMoved, hw]
      refine ⟨rfl, rfl, rfl, rfl, fun _ x hx => ⟨fun heq => absurd (hstart.2 (heq.trans hx)) hat, fun _ => ⟨rfl, rfl, rfl, hstate, hasked⟩⟩,
        fun hnot => absurd hfalls hnot⟩
  · rw [if_neg hfalls]
    rw [FocusSearch.reverses_iff] at hfalls
    obtain ⟨a, ha⟩ : ∃ a : FocusSearch, a = { s.af.coarseCounted v pos with low := (s.af.coarseCounted v pos).lowAfter v } := ⟨_, rfl⟩
    have hstop : (2 ≤ (s.af.coarseCounted v pos).lowAfter v || (s.af.coarseCounted v pos).atEnd pos ||
        decide (s.af.budget ≤ s.af.count + 1)) = true ↔ 2 ≤ (if 8 * v < 7 * (bestAfter s.af.peak v pos).f then s.af.low + 1 else 0) ∨
        (s.af.lo = s.af.hi ∨ if s.af.near then pos = s.af.hi else pos = s.af.lo) ∨ s.af.budget ≤ s.af.count + 1 := by
      rw [Bool.or_eq_true, Bool.or_eq_true, hend, decide_eq_true_iff, decide_eq_true_iff, hlow, or_assoc]
    by_cases hstops : (2 ≤ (s.af.coarseCounted v pos).lowAfter v || (s.af.coarseCounted v pos).atEnd pos ||
        decide (s.af.budget ≤ s.af.count + 1)) = true
    · rw [if_pos hstops, ← ha]
      obtain ⟨hfine, hlog, hwrapped, hcount, hpeak, hreversed, hnear, hlowEnd⟩ :=
        State.coarseEnd_spec { s with af := a } (p := bestAfter s.af.peak v pos) (by rw [ha]; rfl)
      rw [ha] at hlog hwrapped hcount hpeak hreversed hnear hlowEnd
      refine ⟨by rw [ha]; exact hlog, by rw [ha]; exact hwrapped, by rw [ha]; exact hcount, by rw [ha]; exact hpeak,
        fun h => absurd h hfalls, fun _ => ⟨by rw [ha]; exact hreversed, by rw [ha]; exact hnear, by rw [ha]; exact hlowEnd,
          fun _ => ?_, fun h2 hnot hbudget => ?_⟩⟩
      · rw [ha] at hfine ⊢
        exact hfine
      · rcases hstop.1 hstops with h | h | h
        · exact absurd h2 (not_lt.2 h)
        · exact absurd h hnot
        · exact absurd hbudget (not_lt.2 h)
    · rw [if_neg hstops, ← ha]
      rw [hstop] at hstops
      obtain ⟨w, hw⟩ := State.afMove_sample_af { s with af := a } ((s.af.coarseCounted v pos).coarseTarget pos)
      have hasked := State.afMove_focusAsked { s with af := a } .sampleMove ((s.af.coarseCounted v pos).coarseTarget pos)
      have htarget : (s.af.coarseCounted v pos).coarseTarget pos =
          max s.af.lo (min s.af.hi (if s.af.near then pos + s.af.coarse else pos - s.af.coarse)) := rfl
      generalize State.afMove { s with af := a } .sampleMove ((s.af.coarseCounted v pos).coarseTarget pos) = t at hw hasked
      rw [htarget] at hasked
      rw [State.coarseSampled, State.coarseMoved, hw, ha]
      refine ⟨rfl, rfl, rfl, rfl, fun h => absurd h hfalls, fun _ => ⟨rfl, rfl, rfl, fun h => absurd (by tauto) hstops, fun _ _ _ =>
        ⟨fun h0 => if_pos h0, fun h1 => ⟨if_neg (by omega), if_pos h1⟩, by rw [hw, ha]; exact hstate, hasked⟩⟩⟩

/-! ### The fine pass (R96, R97) -/

/-- Focus Search with a fine sample counted. -/
def FocusSearch.fineCounted (a : FocusSearch) (v : Nat) (pos : Int) : FocusSearch :=
  { a with best := some (bestAfter a.best v pos), lastPos := pos }

theorem State.fineSample_eq (s : State) (v : Nat) (pos : Int) : s.fineSample v pos =
    if s.af.fineTotal ≤ s.af.fineIx + 1 ∨ s.af.fineTarget s.af.fineIx = s.af.fineTo
    then State.settle { s with af := s.af.fineCounted v pos }
    else State.afMove { s with af := { s.af.fineCounted v pos with fineIx := s.af.fineIx + 1 } } .sampleMove
      (s.af.fineTarget (s.af.fineIx + 1)) := by
  rw [FocusSearch.fineCounted, ← better_eq_bestAfter]
  rfl

/-- What a move of Focus Search's own leaves of its log and its result. -/
@[simp] theorem State.afAdvance_log (n : Nat) (s : State) : (State.afAdvance n s).af.log = s.af.log ∧
    (State.afAdvance n s).af.wrapped = s.af.wrapped := by
  have hdecide (u : State) : u.afDecide.1.af = u.af := by
    unfold State.afDecide
    split <;> rfl
  induction n generalizing s with
  | zero => exact ⟨rfl, rfl⟩
  | succ n ih =>
    unfold State.afAdvance
    dsimp only
    split
    · exact ⟨rfl, rfl⟩
    · split <;> simp [ih]
    · split <;> simp [ih, hdecide]
    all_goals exact ⟨rfl, rfl⟩

@[simp] theorem State.movesOn_log (n : Nat) (s : State) (w : AfWait) (x : Int) : (s.movesOn n w x).af.log = s.af.log ∧
    (s.movesOn n w x).af.wrapped = s.af.wrapped := by
  unfold State.movesOn
  split <;> simp

@[simp] theorem State.afMove_log (s : State) (w : AfWait) (x : Int) : (s.afMove w x).af.log = s.af.log := (State.movesOn_log 4 s w x).1

/-- The approach to the best position (R97): from below where the last sample lies above it, else at once. -/
theorem State.settle_spec {s u : State} (hwatching : u.watching = s.watching) (hfmin : u.af.fmin = s.af.fmin) {b : Peak}
    (hbest : u.af.best = some b) : u.settle.af.best = some b ∧ u.settle.af.log = u.af.log ∧
    (b.pos < u.af.lastPos → u.settle.focusAsked (b.pos - 2 * u.af.fine) .settleBelow ∧
      (u.settle.hold = false → u.settle.lens.focus.pos ≠ some (max 0 (min 1023 (b.pos - 2 * u.af.fine))) →
        u.settle.af.state = .settle)) ∧
    (u.af.lastPos ≤ b.pos → u.settle.focusAsked b.pos .settleBest ∧ (u.settle.focusThere b.pos → s.searchDecided u.settle b.pos b.f)) := by
  obtain ⟨w, hw⟩ : ∃ w : State, w = u.withAf (fun a => { a with state := .settle }) := ⟨_, rfl⟩
  have haf : w.af = { u.af with state := .settle } := by rw [hw]; rfl
  have hpos : w.af.bestPos = b.pos := by simp [FocusSearch.bestPos, haf, hbest]
  have hsettle : u.settle = if w.af.bestPos < w.af.lastPos then w.movesOn 4 .settleBelow (w.af.bestPos - 2 * w.af.fine)
      else w.movesOn 4 .settleBest w.af.bestPos := by rw [hw]; rfl
  have hwatchingW : w.watching = s.watching := by rw [hw]; exact hwatching
  rw [hpos, show w.af.lastPos = u.af.lastPos by rw [haf], show w.af.fine = u.af.fine by rw [haf]] at hsettle
  by_cases hbelow : b.pos < u.af.lastPos
  · rw [hsettle, if_pos hbelow]
    refine ⟨by simp [haf, hbest], by simp [haf], fun _ => ⟨State.movesOn_focusAsked _ _ _ _, fun hfree hnot => ?_⟩, fun h => absurd hbelow (not_lt.2 h)⟩
    obtain ⟨v, ⟨hafV, -⟩, ⟨-, hv, -⟩ | ⟨hthere, -⟩⟩ := State.movesOn_cases 4 w .settleBelow (b.pos - 2 * u.af.fine)
    · rw [hv, hafV, haf]
    · exact absurd hthere.2 (by simpa using hnot)
  · rw [hsettle, if_neg hbelow]
    refine ⟨by simp [haf, hbest], by simp [haf], fun h => absurd h hbelow, fun _ => ⟨State.movesOn_focusAsked _ _ _ _, fun hthere => ?_⟩⟩
    obtain ⟨v, ⟨hafV, hfc, hsettings, -⟩, ⟨hnot, -⟩ | ⟨-, hv⟩⟩ := State.movesOn_cases 4 w .settleBest b.pos
    · exact absurd ((State.focusThere_congr (by simp) (by simp) b.pos).1 hthere) hnot
    · rw [hv]
      exact State.afAdvance_searchDecided ((State.watching_congr hfc hsettings).trans hwatchingW) (by rw [hafV, haf]; exact hfmin)
        (by rw [hafV]) (by rw [hafV, haf]; exact hbest) 2

/-- A fine sample counted, and what follows it. -/
theorem State.fineSample_spec {s u : State} (hwatching : u.watching = s.watching) (hstate : u.af.state = .fine) {l : List SweepEntry} {y : Bool}
    (haf : u.af = { s.af with log := l, wrapped := y }) (v : Nat) (pos : Int) :
    (u.fineSample v pos).af.log = u.af.log ∧ s.fineSampled (u.fineSample v pos) v pos := by
  have hstop : u.af.fineTotal ≤ u.af.fineIx + 1 ∨ u.af.fineTarget u.af.fineIx = u.af.fineTo ↔
      s.af.fineTotal ≤ s.af.fineIx + 1 ∨ min s.af.fineTo (s.af.fineFrom + s.af.fine * s.af.fineIx) = s.af.fineTo := by rw [haf]; rfl
  rw [State.fineSample_eq]
  by_cases hstops : u.af.fineTotal ≤ u.af.fineIx + 1 ∨ u.af.fineTarget u.af.fineIx = u.af.fineTo
  · rw [if_pos hstops]
    obtain ⟨hbest, hlog, hbelow, hat⟩ := State.settle_spec (s := s) (u := { u with af := u.af.fineCounted v pos }) hwatching
      (by rw [haf]; rfl) (b := bestAfter u.af.best v pos) rfl
    refine ⟨hlog, ?_⟩
    rintro b rfl
    rw [haf] at hbest hbelow hat ⊢
    refine ⟨hbest, fun hmore hnot => ?_, fun _ => ⟨hbelow, hat⟩⟩
    rcases hstop.1 hstops with h | h
    · exact absurd hmore (not_lt.2 h)
    · exact absurd h hnot
  · rw [if_neg hstops]
    rw [hstop] at hstops
    obtain ⟨w, hw⟩ := State.afMove_sample_af { u with af := { u.af.fineCounted v pos with fineIx := u.af.fineIx + 1 } }
      (u.af.fineTarget (u.af.fineIx + 1))
    have hasked := State.afMove_focusAsked { u with af := { u.af.fineCounted v pos with fineIx := u.af.fineIx + 1 } } .sampleMove
      (u.af.fineTarget (u.af.fineIx + 1))
    generalize State.afMove { u with af := { u.af.fineCounted v pos with fineIx := u.af.fineIx + 1 } } .sampleMove
      (u.af.fineTarget (u.af.fineIx + 1)) = t at hw hasked
    refine ⟨by rw [hw]; rfl, ?_⟩
    rintro b rfl
    have hstate : s.af.state = .fine := by rw [haf] at hstate; exact hstate
    rw [haf] at hasked hw
    rw [hw]
    exact ⟨rfl, fun _ _ => ⟨hstate, rfl, hasked⟩, fun h => absurd h hstops⟩

/-! ### The walk of a probe (R104, R105) -/

/-- A probe with a sample counted. -/
def Probe.counted (p : Probe) (v : Nat) (pos : Int) : Probe := { p with moves := p.moves + 1, best := bestAfter (some p.best) v pos }

theorem State.probeSample_eq {s : State} {p : Probe} (h : s.af.probe = some p) (v : Nat) (pos : Int) : s.probeSample v pos =
    ((p.counted v pos).next v pos).elim
      (State.afMove { s with af := { s.af with probe := some { p.counted v pos with prevF := v }, lastPos := pos } } .probeFinal
        (p.counted v pos).best.pos)
      (fun x => State.afMove { s with af := { s.af with
        probe := some { p.counted v pos with prevF := v, leg := x.1 }, lastPos := pos } } .sampleMove x.2) := by
  unfold State.probeSample Probe.counted
  rw [h]
  dsimp only
  rw [better_eq_bestAfter]
  split <;> next hnext => rw [hnext]; rfl

/-- A walk that goes on: the leg and the move to the next sample. -/
theorem State.probeSample_of_next {s : State} {p : Probe} (h : s.af.probe = some p) {v : Nat} {pos x : Int} {leg : ProbeLeg}
    (hnext : (p.counted v pos).next v pos = some (leg, x)) : ∃ w, (s.probeSample v pos).af = { s.af with
      probe := some { p.counted v pos with prevF := v, leg := leg }, lastPos := pos, wait := w } ∧
    (s.probeSample v pos).focusAsked x .sampleMove := by
  rw [State.probeSample_eq h, hnext]
  obtain ⟨w, hw⟩ := State.afMove_sample_af { s with af := { s.af with
    probe := some { p.counted v pos with prevF := v, leg := leg }, lastPos := pos } } x
  exact ⟨w, hw, State.afMove_focusAsked _ _ _⟩

/-- A walk that stops: the move to the best position, which ends the probe. -/
theorem State.probeSample_of_stop {s u : State} (hwatching : u.watching = s.watching) (hresult : u.af.result = s.af.result) {p : Probe}
    (h : u.af.probe = some p) {v : Nat} {pos : Int} (hnext : (p.counted v pos).next v pos = none) :
    (u.probeSample v pos).af.log = u.af.log ∧ (u.probeSample v pos).focusAsked (bestAfter (some p.best) v pos).pos .probeFinal ∧
    ((u.probeSample v pos).focusThere (bestAfter (some p.best) v pos).pos →
      s.probeEnded (u.probeSample v pos) (bestAfter (some p.best) v pos).f) := by
  obtain ⟨w, hw⟩ : ∃ w : State, w = { u with af := { u.af with probe := some { p.counted v pos with prevF := v }, lastPos := pos } } := ⟨_, rfl⟩
  have hsample : u.probeSample v pos = w.movesOn 4 .probeFinal (bestAfter (some p.best) v pos).pos := by
    rw [State.probeSample_eq h, hnext, hw]
    rfl
  rw [hsample]
  refine ⟨by simp [hw], State.movesOn_focusAsked _ _ _ _, fun hthere => ?_⟩
  obtain ⟨y, ⟨haf, hfc, hsettings, -⟩, ⟨hnot, -⟩ | ⟨-, hy⟩⟩ := State.movesOn_cases 4 w .probeFinal (bestAfter (some p.best) v pos).pos
  · exact absurd ((State.focusThere_congr (by simp) (by simp) _).1 hthere) hnot
  · rw [hy, State.afAdvance_of_probeFinal 3 (by rw [haf])]
    have hwatchingY : y.watching = s.watching := (State.watching_congr hfc hsettings).trans (by rw [hw]; exact hwatching)
    exact State.probeEnd_probeEnded (p := { p.counted v pos with prevF := v }) hwatchingY (by rw [haf, hw]; exact hresult)
      (by rw [haf, hw])

/-- A probe sample counted, and what follows it. -/
theorem State.probeSample_spec {s u : State} (hwatching : u.watching = s.watching) (hstate : s.af.state = .probe) {l : List SweepEntry} {y : Bool}
    (haf : u.af = { s.af with log := l, wrapped := y }) {p : Probe} (hprobe : s.af.probe = some p) (v : Nat) (pos : Int) :
    (u.probeSample v pos).af.log = u.af.log ∧ s.probeSampled (u.probeSample v pos) p v pos := by
  have hprobeU : u.af.probe = some p := by rw [haf]; exact hprobe
  have hgoes {leg : ProbeLeg} {x : Int} (hnext : (p.counted v pos).next v pos = some (leg, x)) :
      (u.probeSample v pos).af.log = u.af.log ∧ (u.probeSample v pos).af.probe = some { p.counted v pos with prevF := v, leg := leg } ∧
      (u.probeSample v pos).af.state = .probe ∧ (u.probeSample v pos).focusAsked x .sampleMove := by
    obtain ⟨w, hw, hasked⟩ := State.probeSample_of_next hprobeU hnext
    rw [hw]
    exact ⟨rfl, rfl, by rw [haf]; exact hstate, hasked⟩
  have hstops := State.probeSample_of_stop hwatching (by rw [haf]) hprobeU (v := v) (pos := pos)
  cases hleg : p.leg with
  | first =>
    have hnext : (p.counted v pos).next v pos = if p.fref < v then some (.toNear, pos + p.step) else some (.reversed, p.p0 - p.step) := by
      rw [Probe.next, Probe.counted, hleg]
    by_cases hmore : p.fref < v
    · obtain ⟨hlog, hgoes⟩ := hgoes (hnext.trans (if_pos hmore))
      refine ⟨hlog, ?_⟩
      rintro b rfl
      exact ⟨fun _ _ => hgoes, fun _ hnot => absurd hmore (not_lt.2 hnot), fun h => absurd h (by simp [hleg]), fun h => by simp [hleg] at h⟩
    · obtain ⟨hlog, hgoes⟩ := hgoes (hnext.trans (if_neg hmore))
      refine ⟨hlog, ?_⟩
      rintro b rfl
      exact ⟨fun _ h => absurd h hmore, fun _ _ => hgoes, fun h => absurd h (by simp [hleg]), fun h => by simp [hleg] at h⟩
  | toNear =>
    have hnext : (p.counted v pos).next v pos = if v < p.prevF ∨ 8 ≤ p.moves + 1 then none else some (.toNear, pos + p.step) := by
      rw [Probe.next, Probe.counted, hleg]
    by_cases hstop : v < p.prevF ∨ 8 ≤ p.moves + 1
    · obtain ⟨hlog, hasked, hthere⟩ := hstops (hnext.trans (if_pos hstop))
      refine ⟨hlog, ?_⟩
      rintro b rfl
      exact ⟨fun h => absurd h (by simp [hleg]), fun h => absurd h (by simp [hleg]), fun _ h1 h2 => absurd hstop (by omega),
        fun _ => ⟨hasked, hthere⟩⟩
    · obtain ⟨hlog, hprobeT, hgoes⟩ := hgoes (hnext.trans (if_neg hstop))
      refine ⟨hlog, ?_⟩
      rintro b rfl
      refine ⟨fun h => absurd h (by simp [hleg]), fun h => absurd h (by simp [hleg]), fun _ _ _ => ⟨?_, hgoes⟩, fun h => ?_⟩
      · rw [hprobeT, ← hleg]
        rfl
      · exact absurd (h.resolve_left (by simp [hleg])).2 hstop
  | reversed =>
    have hnext : (p.counted v pos).next v pos = none := by rw [Probe.next, Probe.counted, hleg]
    obtain ⟨hlog, hasked, hthere⟩ := hstops hnext
    refine ⟨hlog, ?_⟩
    rintro b rfl
    exact ⟨fun h => absurd h (by simp [hleg]), fun h => absurd h (by simp [hleg]), fun h => absurd h (by simp [hleg]),
      fun _ => ⟨hasked, hthere⟩⟩

/-! ### Tracking (R103, R104) -/

theorem State.probeMove_of_other {s : State} (h : s.af.state ≠ .probe) : s.probeMove = s := by
  unfold State.probeMove
  split
  · rfl
  · exact if_neg (fun hprobe => h hprobe.1)

/-- A record compared in Tracking, and the first move of a probe that it starts. -/
theorem State.afCompare_spec {s u : State} (hstate : s.af.state = .tracking) (haf : u.af = s.af) (hsettings : u.settings = s.settings)
    (r : StatRecord) : s.trackCompared (u.afCompare r).probeMove (selectF r.bank.feats s.af.zone) u.focusPos := by
  obtain ⟨v, hv⟩ : ∃ v, v = selectF r.bank.feats s.af.zone := ⟨_, rfl⟩
  have hzone : selectF r.bank.feats u.zoneInUse = v := by
    rw [hv, State.zoneInUse, haf, if_neg (by simp [hstate])]
  have hcompare : u.afCompare r = if 4 * v < 3 * s.af.flock then
      if 2 ≤ s.af.low + 1 then (u.withAf (fun a => { a with low := a.low + 1 })).probeStart v else u.withAf (fun a => { a with low := a.low + 1 })
      else u.withAf (fun a => { a with low := 0 }) := by
    unfold State.afCompare
    rw [hzone, ← haf]
    rfl
  have hfine : u.setting ixFineStep = s.setting ixFineStep := by rw [State.setting, hsettings]; rfl
  rw [← hv, hcompare]
  refine ⟨fun hstrong => ?_, fun hweak hfirst => ?_, fun hweak hsecond => ?_⟩
  · rw [if_neg (not_lt.2 hstrong), State.probeMove_of_other (by simp [State.withAf, haf, hstate])]
    simp [State.withAf, haf]
  · rw [if_pos hweak, if_neg (by omega), State.probeMove_of_other (by simp [State.withAf, haf, hstate])]
    simp [State.withAf, haf, hfirst]
  · rw [if_pos hweak, if_pos (by omega)]
    obtain ⟨w, hw⟩ : ∃ w : State, w = (u.withAf (fun a => { a with low := a.low + 1 })).probeStart v := ⟨_, rfl⟩
    have hafW : w.af.state = .probe ∧ w.af.wait = .nothing ∧ w.af.log = s.af.log ∧ w.af.probe = some
        { p0 := u.focusPos, fref := v, best := { f := v, pos := u.focusPos }, step := s.setting ixFineStep, prevF := v, moves := 0,
          leg := .first } := by
      rw [hw, ← hfine, ← haf]
      exact ⟨rfl, rfl, rfl, rfl⟩
    obtain ⟨hstateW, hwaitW, hlogW, hprobeW⟩ := hafW
    have hmove : w.probeMove = w.afMove .sampleMove (u.focusPos + s.setting ixFineStep) := by
      rw [State.probeMove, hprobeW]
      exact if_pos ⟨hstateW, hwaitW⟩
    obtain ⟨x, hx⟩ := State.afMove_sample_af w (u.focusPos + s.setting ixFineStep)
    rw [← hw, hmove]
    refine ⟨?_, ?_, ?_, State.afMove_focusAsked _ _ _⟩ <;> rw [hx]
    · exact hstateW
    · exact hlogW
    · exact hprobeW

end Sys2Proof.Machine
end

section
/-! A live frame's readout-end record on its way to the Exposure Planner and Focus Search (R43 to R50, R93 to R105), whichever of the
two, the record or the live-frame boundary, comes first (log 3). -/

namespace Sys2Proof.Machine

/-! ### What Focus Search asks for, seen after the boundary -/

/-- Focus Search, the focus and what a search reads of the lens stand as they did; a hold that was asserted still is. -/
def State.sameSearch (s t : State) : Prop :=
  t.af = s.af ∧ t.lens.focus = s.lens.focus ∧ t.lens.iv = s.lens.iv ∧ t.lens.d = s.lens.d ∧ t.links = s.links ∧
    (t.hold = false → s.hold = false)

namespace State.sameSearch

variable {s t u : State}

theorem refl (s : State) : s.sameSearch s := ⟨rfl, rfl, rfl, rfl, rfl, id⟩

theorem focusAsked (h : t.sameSearch u) {x : Int} {w : AfWait} (hx : t.focusAsked x w) : u.focusAsked x w := by
  obtain ⟨haf, hfocus, -, -, -, hhold⟩ := h
  intro hfree hnot
  rw [hfocus] at hnot ⊢
  rw [haf]
  exact hx (hhold hfree) hnot

theorem focusThere (h : t.sameSearch u) {x : Int} (hx : u.focusThere x) : t.focusThere x := by
  obtain ⟨-, hfocus, -, -, -, hhold⟩ := h
  exact ⟨hhold hx.1, hfocus ▸ hx.2⟩

theorem searchDecided (h : t.sameSearch u) {b : Int} {f : Nat} (hx : s.searchDecided t b f) : s.searchDecided u b f := by
  have hasked {x : Int} {w : AfWait} := h.focusAsked (x := x) (w := w)
  have hthere {x : Int} := h.focusThere (x := x)
  obtain ⟨haf, -, hiv, hd, hlinks, -⟩ := h
  obtain ⟨hlocks, hfails⟩ := hx
  refine ⟨fun hf => ?_, fun hf => ?_⟩
  · obtain ⟨hdT, ha, hl⟩ := hlocks hf
    rw [hd, hiv]
    refine ⟨hdT, hasked ha, fun hat => ?_⟩
    have hlocked := hl (hthere hat)
    rwa [State.searchLocked, State.occurred, haf, hlinks]
  · obtain ⟨hdT, ha, hl⟩ := hfails hf
    rw [hd]
    rw [hiv]
    refine ⟨hdT, hasked ha, fun hat => ?_⟩
    have hfailed := hl (hthere hat)
    rwa [State.searchFailed, State.occurred, haf, hlinks]

theorem fineBegun (h : t.sameSearch u) {p : Int} (hx : s.fineBegun t p) : s.fineBegun u p := by
  obtain ⟨hstate, hfrom, hto, htotal, hix, hbest, hasked⟩ := hx
  rw [State.fineBegun, h.1]
  exact ⟨hstate, hfrom, hto, htotal, hix, hbest, h.focusAsked hasked⟩

theorem coarseMoved (h : t.sameSearch u) {x : Int} (hx : s.coarseMoved t x) : s.coarseMoved u x :=
  ⟨h.1 ▸ hx.1, h.focusAsked hx.2⟩

theorem coarseSampled (h : t.sameSearch u) {v : Nat} {pos : Int} (hx : s.coarseSampled t v pos) : s.coarseSampled u v pos := by
  obtain ⟨hfalls, hgoes⟩ := hx
  rw [State.coarseSampled, h.1]
  refine ⟨fun hf x hxEq => ?_, fun hf => ?_⟩
  · obtain ⟨hend, hback⟩ := hfalls hf x hxEq
    refine ⟨fun he => h.fineBegun (hend he), fun hne => ?_⟩
    obtain ⟨hreversed, hlow, hnear, hmoved⟩ := hback hne
    exact ⟨hreversed, hlow, hnear, h.coarseMoved hmoved⟩
  · obtain ⟨hreversed, hnear, hlow, hends, hmoves⟩ := hgoes hf
    refine ⟨hreversed, hnear, hlow, fun he => h.fineBegun (hends he), fun h2 hat hbudget => ?_⟩
    obtain ⟨h0, h1, hmoved⟩ := hmoves h2 hat hbudget
    exact ⟨h0, h1, h.coarseMoved hmoved⟩

theorem fineSampled (h : t.sameSearch u) {v : Nat} {pos : Int} (hx : s.fineSampled t v pos) : s.fineSampled u v pos := by
  intro b hb
  obtain ⟨hbest, hgoes, hends⟩ := hx b hb
  rw [h.1]
  refine ⟨hbest, fun h1 h2 => ?_, fun he => ⟨fun hbelow => ?_, fun hat => ?_⟩⟩
  · obtain ⟨hstate, hix, hasked⟩ := hgoes h1 h2
    exact ⟨hstate, hix, h.focusAsked hasked⟩
  · obtain ⟨hasked, hstate⟩ := (hends he).1 hbelow
    refine ⟨h.focusAsked hasked, fun hfree hnot => hstate (h.2.2.2.2.2 hfree) ?_⟩
    rwa [← h.2.1]
  · obtain ⟨hasked, hdecided⟩ := (hends he).2 hat
    exact ⟨h.focusAsked hasked, fun hthere => h.searchDecided (hdecided (h.focusThere hthere))⟩

theorem probeSampled (h : t.sameSearch u) {p : Probe} {v : Nat} {pos : Int} (hx : s.probeSampled t p v pos) : s.probeSampled u p v pos := by
  intro b hb
  obtain ⟨hfirst, hturn, hnear, hstop⟩ := hx b hb
  rw [h.1]
  refine ⟨fun h1 h2 => ?_, fun h1 h2 => ?_, fun h1 h2 h3 => ?_, fun hs => ?_⟩
  · obtain ⟨hprobe, hstate, hasked⟩ := hfirst h1 h2
    exact ⟨hprobe, hstate, h.focusAsked hasked⟩
  · obtain ⟨hprobe, hstate, hasked⟩ := hturn h1 h2
    exact ⟨hprobe, hstate, h.focusAsked hasked⟩
  · obtain ⟨hprobe, hstate, hasked⟩ := hnear h1 h2 h3
    exact ⟨hprobe, hstate, h.focusAsked hasked⟩
  · obtain ⟨hasked, hended⟩ := hstop hs
    refine ⟨h.focusAsked hasked, fun hthere => ?_⟩
    have hprobe := hended (h.focusThere hthere)
    obtain ⟨haf, hfocus, hiv, hd, -⟩ := h
    rwa [State.probeEnded, haf, hfocus, hiv, hd]

theorem trackCompared (h : t.sameSearch u) {v : Nat} {pos : Int} (hx : s.trackCompared t v pos) : s.trackCompared u v pos := by
  obtain ⟨hstrong, hweak, hstart⟩ := hx
  rw [State.trackCompared, h.1]
  refine ⟨hstrong, hweak, fun h1 h2 => ?_⟩
  obtain ⟨hstate, hlog, hprobe, hasked⟩ := hstart h1 h2
  exact ⟨hstate, hlog, hprobe, h.focusAsked hasked⟩

end State.sameSearch

/-! ### The record handed to Focus Search -/

/-- What Focus Search makes of a record, by its state (R93 to R97, R103 to R105). -/
def State.recordTaken (s t : State) (r : StatRecord) : Prop :=
  (r.afEligible = false → t.af.log = s.af.log) ∧
  (r.afEligible = true → ∀ v pos, v = selectF r.bank.feats s.af.zone → pos = s.lens.focus.pos.getD 0 →
    (s.af.state = .coarse → s.af.wait = .sample → s.logged t v pos r.seq .coarse ∧ (64 ≤ s.af.log.length → t.af.wrapped = true) ∧
      t.af.count = s.af.count + 1 ∧ t.af.peak = some (bestAfter s.af.peak v pos) ∧ s.coarseSampled t v pos) ∧
    (s.af.state = .fine → s.af.wait = .sample → s.logged t v pos r.seq .fine ∧ s.fineSampled t v pos) ∧
    (∀ p, s.af.state = .probe → s.af.wait = .sample → s.af.probe = some p →
      s.logged t v pos r.seq .probe ∧ s.probeSampled t p v pos) ∧
    (s.af.state = .tracking → s.trackCompared t v pos))

theorem State.sameSearch.recordTaken {s t u : State} (h : t.sameSearch u) {r : StatRecord} (hx : s.recordTaken t r) :
    s.recordTaken u r := by
  obtain ⟨hignored, htaken⟩ := hx
  have hlogged {v : Nat} {pos : Int} {seq : Word32} {phase : SweepPhase} (hl : s.logged t v pos seq phase) : s.logged u v pos seq phase := by
    rwa [State.logged, h.1]
  refine ⟨fun he => h.1 ▸ hignored he, fun he v pos hv hpos => ?_⟩
  obtain ⟨hcoarse, hfine, hprobe, htracking⟩ := htaken he v pos hv hpos
  refine ⟨fun hs hw => ?_, fun hs hw => ?_, fun p hs hw hp => ?_, fun hs => h.trackCompared (htracking hs)⟩
  · obtain ⟨hlog, hwrapped, hcount, hpeak, hsampled⟩ := hcoarse hs hw
    exact ⟨hlogged hlog, h.1 ▸ hwrapped, h.1 ▸ hcount, h.1 ▸ hpeak, h.coarseSampled hsampled⟩
  · obtain ⟨hlog, hsampled⟩ := hfine hs hw
    exact ⟨hlogged hlog, h.fineSampled hsampled⟩
  · obtain ⟨hlog, hsampled⟩ := hprobe p hs hw hp
    exact ⟨hlogged hlog, h.probeSampled hsampled⟩

/-- The log is no part of what a coarse sample reads. -/
theorem State.coarseSampled_of_logged {s u t : State} {l : List SweepEntry} {y : Bool} (haf : u.af = { s.af with log := l, wrapped := y })
    {v : Nat} {pos : Int} (h : u.coarseSampled t v pos) : s.coarseSampled t v pos := by
  unfold State.coarseSampled State.fineBegun State.coarseMoved at h ⊢
  rw [haf] at h
  exact h

/-- A sample taken: the log entry first, then the pass or the walk it belongs to. -/
theorem State.afSample_taken {s w : State} (haf : w.af = s.af) (hwatching : w.watching = s.watching) (r : StatRecord) {v : Nat} {pos : Int}
    (hv : v = selectF r.bank.feats s.af.zone) (hpos : w.focusPos = pos) :
    (s.af.state = .coarse → s.logged (w.afSample r) v pos r.seq .coarse ∧ (64 ≤ s.af.log.length → (w.afSample r).af.wrapped = true) ∧
      (w.afSample r).af.count = s.af.count + 1 ∧ (w.afSample r).af.peak = some (bestAfter s.af.peak v pos) ∧
      s.coarseSampled (w.afSample r) v pos) ∧
    (s.af.state = .fine → s.logged (w.afSample r) v pos r.seq .fine ∧ s.fineSampled (w.afSample r) v pos) ∧
    (∀ p, s.af.state = .probe → s.af.probe = some p →
      s.logged (w.afSample r) v pos r.seq .probe ∧ s.probeSampled (w.afSample r) p v pos) := by
  have hzone (hbusy : s.af.state ≠ .idle) : selectF r.bank.feats w.zoneInUse = v := by
    rw [hv, State.zoneInUse, haf, if_neg hbusy]
  obtain ⟨y, hentry, hwrapped⟩ := s.af.logEntry_eq { pos := pos, f := v, seq := r.seq, phase := s.af.state.phase }
  obtain ⟨u, hu⟩ : ∃ u : State, u = w.withAf (fun a => a.logEntry { pos := pos, f := v, seq := r.seq, phase := a.state.phase }) := ⟨_, rfl⟩
  have hafU : u.af = _ := (by rw [hu, ← haf]; rfl : u.af = s.af.logEntry _).trans hentry
  have hwatchingU : u.watching = s.watching := by rw [hu]; exact hwatching
  refine ⟨fun hstate => ?_, fun hstate => ?_, fun p hstate hprobe => ?_⟩
  · have hsample : w.afSample r = u.coarseSample v pos := by
      rw [hu, State.afSample, hzone (by simp [hstate]), hpos, haf, hstate]
    obtain ⟨hlog, hwrap, hcount, hpeak, hsampled⟩ := State.coarseSample_spec (s := u) (by rw [hafU]; exact hstate) v pos
    rw [hsample, State.logged, hlog, hwrap, hcount, hpeak]
    refine ⟨by rw [hafU, hstate]; rfl, fun hfull => by rw [hafU]; exact hwrapped hfull, by rw [hafU], by rw [hafU], ?_⟩
    exact State.coarseSampled_of_logged hafU hsampled
  · have hsample : w.afSample r = u.fineSample v pos := by
      rw [hu, State.afSample, hzone (by simp [hstate]), hpos, haf, hstate]
    obtain ⟨hlog, hsampled⟩ := State.fineSample_spec hwatchingU (by rw [hafU]; exact hstate) hafU v pos
    rw [hsample, State.logged, hlog]
    exact ⟨by rw [hafU, hstate]; rfl, hsampled⟩
  · have hsample : w.afSample r = u.probeSample v pos := by
      rw [hu, State.afSample, hzone (by simp [hstate]), hpos, haf, hstate]
    obtain ⟨hlog, hsampled⟩ := State.probeSample_spec hwatchingU hstate hafU hprobe v pos
    rw [hsample, State.logged, hlog]
    exact ⟨by rw [hafU, hstate]; rfl, hsampled⟩

/-- A record handed to Focus Search, with the first move of a probe that it starts. -/
theorem State.afRecord_taken {s w : State} (haf : w.af = s.af) (hwatching : w.watching = s.watching) (hsettings : w.settings = s.settings)
    (hpos : w.lens.focus.pos = s.lens.focus.pos) (r : StatRecord) :
    s.recordTaken (if s.af.state = .tracking then (w.afRecord r).probeMove else w.afRecord r) r := by
  refine ⟨fun he => ?_, fun he v pos hv hposEq => ?_⟩
  · have hignored : w.afRecord r = w := if_pos (by simp [he])
    rw [hignored]
    split
    · next htracking => rw [State.probeMove_of_other (by simp [haf, htracking]), haf]
    · rw [haf]
  · have hfocus : w.focusPos = pos := by rw [hposEq, State.focusPos, hpos]
    obtain ⟨hcoarse, hfine, hprobe⟩ := State.afSample_taken haf hwatching r hv hfocus
    have hsample (hstate : s.af.state.focusing = true) (hwait : s.af.wait = .sample) : w.afRecord r = w.afSample r := by
      rw [State.afRecord, if_neg (by simp [he]), haf]
      exact if_pos ⟨hstate, hwait⟩
    refine ⟨fun hstate hwait => ?_, fun hstate hwait => ?_, fun p hstate hwait hp => ?_, fun hstate => ?_⟩
    · rw [if_neg (by simp [hstate]), hsample (by simp [hstate, AfState.focusing]) hwait]
      exact hcoarse hstate
    · rw [if_neg (by simp [hstate]), hsample (by simp [hstate, AfState.focusing]) hwait]
      exact hfine hstate
    · rw [if_neg (by simp [hstate]), hsample (by simp [hstate, AfState.focusing]) hwait]
      exact hprobe p hstate hp
    · have hcompare : w.afRecord r = w.afCompare r := by
        rw [State.afRecord, if_neg (by simp [he]), haf, hstate]
        rfl
      rw [if_pos hstate, hcompare, hv, ← hfocus]
      exact State.afCompare_spec hstate haf hsettings r

/-! ### The record handed to the planner (R43 to R50) -/

/-- What the planner makes of a record. -/
def State.recordMetered (s t : State) (r : StatRecord) : Prop :=
  (r.aeEligible = false → t.ep.qraw = s.ep.qraw ∧ t.ep.offset = s.ep.offset ∧ t.ep.lastMetered = s.ep.lastMetered ∧
    t.ep.fastStart = s.ep.fastStart) ∧
  (r.aeEligible = true → t.ep.lastMetered = some r.seq ∧
    t.ep.offset = logLight (s.settingNat ixTarget) + s.setting ixCompensation - logLight r.m ∧
    (s.ep.lock ≠ .none → t.ep.qraw = s.ep.qraw ∧ t.ep.fastStart = s.ep.fastStart) ∧
    (s.ep.lock = .none → t.ep.qraw = r.q + s.meteredStep r ∧ t.ep.fastStart = false))

@[simp] theorem State.plannerRun_lastMetered (s : State) : s.plannerRun.ep.lastMetered = s.ep.lastMetered := by
  unfold State.plannerRun
  split <;> simp [State.formPlans]

theorem meterStep_eq (e deadband k : Int) :
    meterStep e deadband k = if |e| ≤ deadband then 0 else max (-48) (min 48 ((e * k).tdiv 4)) := by
  unfold meterStep clamp
  split_ifs <;> rfl

theorem State.guardStep_eq (s : State) (r : StatRecord) :
    s.guardStep (meterStep (s.meterError r.m) (s.setting ixDeadband) s.convergence) r.h r.n = s.meteredStep r := by
  have hk : s.convergence = if s.prepareHeld = true ∨ s.ep.fastStart = true then 4 else s.setting ixConvergence :=
    if_congr (by simp) rfl rfl
  rw [meterStep_eq, hk]
  rfl

theorem State.meter_metered (s : State) (r : StatRecord) : s.recordMetered (s.meter r) r := by
  refine ⟨fun he => ?_, fun he => ?_⟩
  · rw [State.meter, if_neg (by simp [he])]
    exact ⟨rfl, rfl, rfl, rfl⟩
  · rw [State.meter, if_pos he]
    dsimp only
    refine ⟨?_, ?_, fun hlock => ?_, fun hlock => ?_⟩
    · split_ifs <;> simp
    · split_ifs <;> simp [State.meterError]
    · rw [if_neg hlock]
      simp
    · rw [if_pos hlock]
      simp [State.guardStep_eq]

/-! ### The boundary of a live frame (R8, R19) -/

@[simp] theorem State.derive_meter (s : State) : s.derive.ep.lock = s.ep.lock ∧ s.derive.ep.qraw = s.ep.qraw ∧
    s.derive.ep.fastStart = s.ep.fastStart ∧ s.derive.ep.offset = s.ep.offset ∧ s.derive.ep.lastMetered = s.ep.lastMetered := by
  unfold State.derive State.stabSet State.creditWatch
  dsimp only
  split_ifs <;> simp

/-- The boundary keeps what the record's way to the planner and Focus Search reads and changes. -/
theorem State.liveBoundary_kept (s : State) : s.liveBoundary.lens.iv = s.lens.iv ∧ s.liveBoundary.ep.qraw = s.ep.qraw ∧
    s.liveBoundary.ep.fastStart = s.ep.fastStart ∧ s.liveBoundary.ep.offset = s.ep.offset ∧
    s.liveBoundary.ep.lastMetered = s.ep.lastMetered := by
  unfold State.liveBoundary
  split_ifs
  · exact ⟨rfl, rfl, rfl, rfl, rfl⟩
  · rw [State.gatePass_eq]
    simpa using ⟨rfl, rfl, rfl, rfl, rfl⟩
  · exact ⟨rfl, rfl, rfl, rfl, rfl⟩
  · exact ⟨rfl, rfl, rfl, rfl, rfl⟩

theorem State.boundary_sameSearch (s : State) : s.sameSearch (s.afterReadout .live) := by
  unfold State.afterReadout
  split_ifs with hlive
  · refine ⟨by simp, by simp, s.liveBoundary_kept.1, by simp, by simp, fun _ => ?_⟩
    rw [State.hold, hlive]
    rfl
  · exact State.sameSearch.refl s

/-- What the boundary leaves besides. -/
theorem State.boundary_kept (s : State) : (s.afterReadout .live).settings = s.settings ∧ (s.afterReadout .live).watching = s.watching ∧
    (s.afterReadout .live).prepareHeld = s.prepareHeld ∧ (s.afterReadout .live).st.last = s.st.last ∧
    (s.afterReadout .live).ep.lock = s.ep.lock ∧ (s.afterReadout .live).ep.qraw = s.ep.qraw ∧
    (s.afterReadout .live).ep.fastStart = s.ep.fastStart ∧ (s.afterReadout .live).ep.offset = s.ep.offset ∧
    (s.afterReadout .live).ep.lastMetered = s.ep.lastMetered := by
  obtain ⟨-, hqraw, hfast, hoffset, hmetered⟩ := s.liveBoundary_kept
  unfold State.afterReadout
  split_ifs
  · refine ⟨by simp, ?_, by simp [State.prepareHeld], by simp, by simp, hqraw, hfast, hoffset, hmetered⟩
    unfold State.watching State.afContinuous State.prepareHeld State.burstRunning State.setting
    simp
  · exact ⟨rfl, rfl, rfl, rfl, rfl, rfl, rfl, rfl, rfl⟩

/-! ### The record handed over, in either order (log 3) -/

/-- Two states that the planner and Focus Search read alike. -/
def State.readsAlike (s u : State) : Prop :=
  u.af = s.af ∧ u.settings = s.settings ∧ u.watching = s.watching ∧ u.lens.focus.pos = s.lens.focus.pos ∧
    u.prepareHeld = s.prepareHeld ∧ u.ep.lock = s.ep.lock ∧ u.ep.qraw = s.ep.qraw ∧ u.ep.fastStart = s.ep.fastStart ∧
    u.ep.offset = s.ep.offset ∧ u.ep.lastMetered = s.ep.lastMetered

theorem State.readsAlike.metered {s u t : State} (h : s.readsAlike u) {r : StatRecord} (hx : u.recordMetered t r) :
    s.recordMetered t r := by
  obtain ⟨-, hsettings, -, -, hheld, hlock, hqraw, hfast, hoffset, hmetered⟩ := h
  have hstep : u.meteredStep r = s.meteredStep r := by
    unfold State.meteredStep State.settingOn State.settingNat State.setting
    rw [hsettings, hheld, hfast]
  unfold State.recordMetered State.settingNat State.setting at hx ⊢
  rwa [hsettings, hlock, hqraw, hfast, hoffset, hmetered, hstep] at hx

/-- A record handed over: what the planner and Focus Search make of it. -/
theorem State.handRecord_spec {s u : State} (h : s.readsAlike u) {r : StatRecord} (hlast : u.st.last = some r) :
    s.recordTaken u.handRecord r ∧ s.recordMetered u.handRecord r ∧ u.handRecord.st.last = some r := by
  have hmetered := u.meter_metered r
  have hhand : u.handRecord = if s.af.state = .tracking then ((u.meter r).afRecord r).probeMove else (u.meter r).afRecord r := by
    rw [State.handRecord, State.takeRecord, hlast, State.movesProbe, h.1]
  have hep : u.handRecord.ep = (u.meter r).ep ∧ u.handRecord.st.last = some r := by
    rw [hhand]
    split <;> simp [hlast]
  have hread := h
  obtain ⟨haf, hsettings, hwatching, hpos, -⟩ := hread
  refine ⟨?_, ?_, hep.2⟩
  · rw [hhand]
    have hwatchingW : (u.meter r).watching = s.watching := (State.watching_congr (by simp) (by simp)).trans hwatching
    exact State.afRecord_taken (by simpa using haf) hwatchingW (by simpa using hsettings) (by simpa using hpos) r
  · unfold State.recordMetered at hmetered ⊢
    rw [hep.1]
    exact h.metered hmetered

/-- The frame ended, the banks swapped and the record formed (R11, R34). -/
def State.readoutSwapped (s : State) (timedOut : Bool) : State :=
  (if timedOut then (s.withFc (fun c => { c with frame := none })).raise .framePartial
    else s.withFc (fun c => { c with frame := none })).statSwap timedOut

/-- The frame ended and, for a capture, its shot, its slot and its record (R16, R24, R143, R163). -/
def State.readoutFilled (s : State) (timedOut : Bool) : FrameKind → State
  | .live => s.readoutSwapped timedOut
  | .capture => (s.readoutSwapped timedOut).captureReadout timedOut

/-- A readout end: the record first or the frame's end first (log 3). -/
theorem State.readoutEnd_cases (s : State) (f : InputFrame) (timedOut : Bool) :
    s.readoutEnd f timedOut = (s.readoutFilled timedOut f.kind).chosen.recordFirst f.kind ∨
    s.readoutEnd f timedOut = ((s.readoutFilled timedOut f.kind).chosen.afterReadout f.kind).handRecord := by
  have hend : s.readoutEnd f timedOut = if (s.readoutFilled timedOut f.kind).choice 2 = 0
      then (s.readoutFilled timedOut f.kind).chosen.recordFirst f.kind
      else ((s.readoutFilled timedOut f.kind).chosen.afterReadout f.kind).handRecord := by
    unfold State.readoutEnd
    cases f.kind <;> rfl
  rw [hend]
  split
  · exact .inl rfl
  · exact .inr rfl

/-- What the end of a frame leaves but its own number of things. -/
theorem State.readoutSwapped_kept (s : State) (timedOut : Bool) : (s.readoutSwapped timedOut).fc = { s.fc with frame := none } ∧
    (s.readoutSwapped timedOut).clock = s.clock ∧ (s.readoutSwapped timedOut).settings = s.settings ∧
    (s.readoutSwapped timedOut).ep = s.ep ∧ (s.readoutSwapped timedOut).lens = s.lens ∧ (s.readoutSwapped timedOut).af = s.af ∧
    (s.readoutSwapped timedOut).stab = s.stab ∧ (s.readoutSwapped timedOut).store = s.store ∧
    (s.readoutSwapped timedOut).rq = s.rq ∧ (s.readoutSwapped timedOut).loader = s.loader := by
  unfold State.readoutSwapped
  cases timedOut <;> simp [State.withFc, State.raise]

theorem State.readoutSwapped_st {s : State} {g : FrameInProgress} (hfip : s.st.fip = some g) (timedOut : Bool) :
    (s.readoutSwapped timedOut).st = { s.st with
      active := s.st.completed, completed := s.st.active, fip := none, last := some (s.statRecord g timedOut) } := by
  unfold State.readoutSwapped State.statSwap
  cases timedOut <;> simp [State.withFc, State.raise, hfip] <;> rfl

/-- A live frame's readout end, whichever comes first. -/
theorem State.readoutEnd_live {s : State} {f : InputFrame} (hkind : f.kind = .live) {g : FrameInProgress} (hfip : s.st.fip = some g)
    (timedOut : Bool) : s.recordTaken (s.readoutEnd f timedOut) (s.statRecord g timedOut) ∧
      s.recordMetered (s.readoutEnd f timedOut) (s.statRecord g timedOut) ∧
      (s.readoutEnd f timedOut).st.last = some (s.statRecord g timedOut) := by
  obtain ⟨u, hu⟩ : ∃ u : State, u = (s.readoutSwapped timedOut).chosen := ⟨_, rfl⟩
  obtain ⟨hfc, -, hsettings, hep, hlens, haf, -⟩ := s.readoutSwapped_kept timedOut
  have hlast : u.st.last = some (s.statRecord g timedOut) := by
    rw [hu]
    exact congrArg Statistics.last (State.readoutSwapped_st hfip timedOut)
  have halike : s.readsAlike u := by
    have hwatching : (s.readoutSwapped timedOut).watching = s.watching := by
      unfold State.watching State.afContinuous State.prepareHeld State.burstRunning
      rw [State.setting, State.setting, hfc, hsettings]
    have hheld : (s.readoutSwapped timedOut).prepareHeld = s.prepareHeld := by rw [State.prepareHeld, hfc]; rfl
    rw [hu]
    exact ⟨haf, hsettings, hwatching, congrArg (fun l : Lens => l.focus.pos) hlens, hheld, congrArg Planner.lock hep, congrArg Planner.qraw hep,
      congrArg Planner.fastStart hep, congrArg Planner.offset hep, congrArg Planner.lastMetered hep⟩
  have horder : s.readoutEnd f timedOut = u.handRecord.afterReadout .live ∨ s.readoutEnd f timedOut = (u.afterReadout .live).handRecord := by
    have hcases := s.readoutEnd_cases f timedOut
    rwa [hkind, State.readoutFilled, ← hu] at hcases
  rcases horder with horder | horder <;> rw [horder]
  · obtain ⟨htaken, hmetered, hkept⟩ := State.handRecord_spec halike hlast
    have hsame := u.handRecord.boundary_sameSearch
    obtain ⟨-, -, -, hlastB, -, hqraw, hfast, hoffset, hmeteredB⟩ := u.handRecord.boundary_kept
    refine ⟨hsame.recordTaken htaken, ?_, hlastB.trans hkept⟩
    unfold State.recordMetered at hmetered ⊢
    rwa [hqraw, hfast, hoffset, hmeteredB]
  · obtain ⟨haf, hfocus, -⟩ := u.boundary_sameSearch
    obtain ⟨hsettings, hwatching, hheld, hlastB, hlock, hqraw, hfast, hoffset, hmetered⟩ := u.boundary_kept
    obtain ⟨hafU, hsettingsU, hwatchingU, hposU, hheldU, hlockU, hqrawU, hfastU, hoffsetU, hmeteredU⟩ := halike
    exact State.handRecord_spec ⟨haf.trans hafU, hsettings.trans hsettingsU, hwatching.trans hwatchingU,
      (congrArg ActRecord.pos hfocus).trans hposU, hheld.trans hheldU, hlock.trans hlockU, hqraw.trans hqrawU, hfast.trans hfastU,
      hoffset.trans hoffsetU, hmetered.trans hmeteredU⟩ (hlastB.trans hlast)

/-- Settles O34: the record reaches the planner and Focus Search before the boundary or after it, alike. -/
theorem readoutRecordIsMeteredAndSampled : Obligations.ReadoutRecordIsMeteredAndSampled := by
  intro s f g hframe hphase hkind hfip
  obtain ⟨htaken, hmetered, hlast⟩ := State.readoutEnd_live (s := s.begin) hkind hfip false
  obtain ⟨hseq, -, -, -, -, -, hq, -, hae, haf, -, -, -, -, hbank⟩ := s.begin.statRecord_formed g false
  have hend : s.begin.endReadout false = s.begin.watchBusy (fun t => t.readoutEnd f false) := by
    rw [State.endReadout, show s.begin.fc.frame = some f from hframe]
    exact if_pos hphase
  obtain ⟨x, y, hquiet⟩ := (s.begin.readoutEnd f false).quietSync_eq s.begin.busy
  refine ⟨_, rfl, s.begin.statRecord g false, ?_⟩
  rw [hend, State.watchBusy, hquiet]
  generalize s.begin.readoutEnd f false = t at htaken hmetered hlast
  generalize s.begin.statRecord g false = r at htaken hmetered hlast hseq hq hae haf hbank
  obtain ⟨hignored, hused⟩ := hmetered
  obtain ⟨hpassed, htaken⟩ := htaken
  have haeOf (hiris : g.flags.irisMoved = false) : r.aeEligible = true := hae.2 ⟨rfl, hiris⟩
  have hafOf (hfocus : g.flags.focusMoved = false) (hzoom : g.flags.zoomMoved = false)
      (hstamp : ∀ y, s.st.focusStamp = some y → 1 ≤ (g.stamp - y).toNat ∧ (g.stamp - y).toNat ≤ 2 ^ 31 - 1) : r.afEligible = true :=
    haf.2 ⟨rfl, hfocus, hzoom, hstamp⟩
  rw [hseq] at hused htaken
  rw [hq] at hused
  refine ⟨hlast, hseq, hbank, fun hiris => hignored ?_, fun hiris => hused (haeOf hiris), fun hmoved => hpassed ?_,
    fun hfocus hzoom hstamp hstate hwait v hv => ?_, fun hfocus hzoom hstamp v pos hv hpos => ?_⟩
  · rw [Bool.eq_false_iff]
    exact fun h => by simp [(hae.1 h).2] at hiris
  · rw [Bool.eq_false_iff]
    exact fun h => by
      obtain ⟨-, hfocus, hzoom, -⟩ := haf.1 h
      simp [hfocus, hzoom] at hmoved
  · obtain ⟨hcoarse, -⟩ := htaken (hafOf hfocus hzoom hstamp) v _ hv rfl
    obtain ⟨hlog, hwrapped, hcount, hpeak, hsampled⟩ := hcoarse hstate hwait
    have hsame : t.sameSearch (t.withFc (fun c => { c with quiet1 := x, quiet2 := y })) := ⟨rfl, rfl, rfl, rfl, rfl, id⟩
    refine ⟨hlog, hwrapped, hcount, fun hnone => hpeak.trans ?_, fun p hp => hpeak.trans ?_, hsame.coarseSampled hsampled⟩
    · rw [show s.begin.af.peak = none from hnone]
      rfl
    · rw [show s.begin.af.peak = some p from hp]
      rfl
  · obtain ⟨-, hfine, hprobe, htracking⟩ := htaken (hafOf hfocus hzoom hstamp) v pos hv hpos
    exact ⟨hfine, hprobe, htracking⟩

end Sys2Proof.Machine
end

section
/-! The banks and the frame in progress through what follows a readout end: only the swap moves them (R34), and no operation opens a frame
in progress. -/

namespace Sys2Proof.Machine

@[simp] theorem State.statMove_banks (s : State) (which : Actuator) :
    (s.statMove which).st.active = s.st.active ∧ (s.statMove which).st.completed = s.st.completed ∧ (s.statMove which).st.fip.isNone = s.st.fip.isNone := by
  simp [State.statMove, State.onFrame]
@[simp] theorem State.drive_banks (s : State) (which : Actuator) (x : Int) (o : Origin) (n : Nat) :
    (s.drive which x o n).1.st.active = s.st.active ∧ (s.drive which x o n).1.st.completed = s.st.completed ∧ (s.drive which x o n).1.st.fip.isNone = s.st.fip.isNone := by
  simp only [State.drive]; (repeat' split) <;> simp
@[simp] theorem State.give_banks (s : State) (which : Actuator) (x : Int) (o : Origin) (n : Nat) :
    (s.give which x o n).1.st.active = s.st.active ∧ (s.give which x o n).1.st.completed = s.st.completed ∧ (s.give which x o n).1.st.fip.isNone = s.st.fip.isNone := by
  simp only [State.give]; (repeat' split) <;> simp
@[simp] theorem State.statFocusDone_banks (s : State) :
    s.statFocusDone.st.active = s.st.active ∧ s.statFocusDone.st.completed = s.st.completed ∧ s.statFocusDone.st.fip.isNone = s.st.fip.isNone := by
  exact ⟨rfl, rfl, rfl⟩
@[simp] theorem State.giveIris_banks (s : State) (x : Int) (o : Origin) :
    (s.giveIris x o).st.active = s.st.active ∧ (s.giveIris x o).st.completed = s.st.completed ∧ (s.giveIris x o).st.fip.isNone = s.st.fip.isNone := by
  simp [State.giveIris]
@[simp] theorem State.giveFocus_banks (s : State) (x : Int) (o : Origin) :
    (s.giveFocus x o).1.st.active = s.st.active ∧ (s.giveFocus x o).1.st.completed = s.st.completed ∧ (s.giveFocus x o).1.st.fip.isNone = s.st.fip.isNone := by
  simp only [State.giveFocus]; (repeat' split) <;> simp
@[simp] theorem State.requestIris_banks (s : State) :
    s.requestIris.st.active = s.st.active ∧ s.requestIris.st.completed = s.st.completed ∧ s.requestIris.st.fip.isNone = s.st.fip.isNone := by
  simp only [State.requestIris]; (repeat' split) <;> simp
@[simp] theorem State.plannerRun_banks (s : State) :
    s.plannerRun.st.active = s.st.active ∧ s.plannerRun.st.completed = s.st.completed ∧ s.plannerRun.st.fip.isNone = s.st.fip.isNone := by
  simp only [State.plannerRun]; (repeat' split) <;> simp
@[simp] theorem State.creditWatch_banks (s : State) (b : Bool) :
    (s.creditWatch b).st.active = s.st.active ∧ (s.creditWatch b).st.completed = s.st.completed ∧ (s.creditWatch b).st.fip.isNone = s.st.fip.isNone := by
  simp only [State.creditWatch]; (repeat' split) <;> simp
@[simp] theorem State.setPenalty_banks (s : State) (b : Bool) :
    (s.setPenalty b).st.active = s.st.active ∧ (s.setPenalty b).st.completed = s.st.completed ∧ (s.setPenalty b).st.fip.isNone = s.st.fip.isNone := by
  simp only [State.setPenalty]; (repeat' split) <;> simp
@[simp] theorem State.meter_banks (s : State) (r : StatRecord) :
    (s.meter r).st.active = s.st.active ∧ (s.meter r).st.completed = s.st.completed ∧ (s.meter r).st.fip.isNone = s.st.fip.isNone := by
  simp only [State.meter]; (repeat' split) <;> simp
@[simp] theorem State.stabSet_banks (s : State) (x : StabState) :
    (s.stabSet x).st.active = s.st.active ∧ (s.stabSet x).st.completed = s.st.completed ∧ (s.stabSet x).st.fip.isNone = s.st.fip.isNone := by
  simp only [State.stabSet]; (repeat' split) <;> simp
@[simp] theorem State.derive_banks (s : State) :
    s.derive.st.active = s.st.active ∧ s.derive.st.completed = s.st.completed ∧ s.derive.st.fip.isNone = s.st.fip.isNone := by
  simp only [State.derive]; (repeat' split) <;> simp
@[simp] theorem State.gatePass_banks (s : State) :
    s.gatePass.st.active = s.st.active ∧ s.gatePass.st.completed = s.st.completed ∧ s.gatePass.st.fip.isNone = s.st.fip.isNone := by
  simp [State.gatePass]
@[simp] theorem State.evaluateGate_banks (s : State) :
    s.evaluateGate.st.active = s.st.active ∧ s.evaluateGate.st.completed = s.st.completed ∧ s.evaluateGate.st.fip.isNone = s.st.fip.isNone := by
  simp only [State.evaluateGate]; (repeat' split) <;> simp
@[simp] theorem State.liveBoundary_banks (s : State) :
    s.liveBoundary.st.active = s.st.active ∧ s.liveBoundary.st.completed = s.st.completed ∧ s.liveBoundary.st.fip.isNone = s.st.fip.isNone := by
  simp only [State.liveBoundary]; (repeat' split) <;> simp
@[simp] theorem State.afterReadout_banks (s : State) (k : FrameKind) :
    (s.afterReadout k).st.active = s.st.active ∧ (s.afterReadout k).st.completed = s.st.completed ∧ (s.afterReadout k).st.fip.isNone = s.st.fip.isNone := by
  simp only [State.afterReadout]; (repeat' split) <;> simp
@[simp] theorem State.burstCheck_banks (b : Bool) (s : State) :
    (State.burstCheck b s).st.active = s.st.active ∧ (State.burstCheck b s).st.completed = s.st.completed ∧ (State.burstCheck b s).st.fip.isNone = s.st.fip.isNone := by
  simp only [State.burstCheck]; (repeat' split) <;> simp
@[simp] theorem State.captureReadout_banks (s : State) (b : Bool) :
    (s.captureReadout b).st.active = s.st.active ∧ (s.captureReadout b).st.completed = s.st.completed ∧ (s.captureReadout b).st.fip.isNone = s.st.fip.isNone := by
  simp [State.captureReadout]
@[simp] theorem State.afDecide_banks (s : State) :
    s.afDecide.1.st.active = s.st.active ∧ s.afDecide.1.st.completed = s.st.completed ∧ s.afDecide.1.st.fip.isNone = s.st.fip.isNone := by
  simp only [State.afDecide]; (repeat' split) <;> simp
@[simp] theorem State.afAdvance_banks (n : Nat) (s : State) : (State.afAdvance n s).st.active = s.st.active ∧
    (State.afAdvance n s).st.completed = s.st.completed ∧ (State.afAdvance n s).st.fip.isNone = s.st.fip.isNone := by
  induction n generalizing s with
  | zero => exact ⟨rfl, rfl, rfl⟩
  | succ n ih => simp only [State.afAdvance]; (repeat' split) <;> simp [ih]
@[simp] theorem State.afMove_banks (s : State) (w : AfWait) (x : Int) :
    (s.afMove w x).st.active = s.st.active ∧ (s.afMove w x).st.completed = s.st.completed ∧ (s.afMove w x).st.fip.isNone = s.st.fip.isNone := by
  simp only [State.afMove]; (repeat' split) <;> simp
@[simp] theorem State.coarseEnd_banks (s : State) :
    s.coarseEnd.st.active = s.st.active ∧ s.coarseEnd.st.completed = s.st.completed ∧ s.coarseEnd.st.fip.isNone = s.st.fip.isNone := by
  simp [State.coarseEnd]
@[simp] theorem State.coarseSample_banks (s : State) (f : Nat) (x : Int) :
    (s.coarseSample f x).st.active = s.st.active ∧ (s.coarseSample f x).st.completed = s.st.completed ∧ (s.coarseSample f x).st.fip.isNone = s.st.fip.isNone := by
  simp only [State.coarseSample]; (repeat' split) <;> simp
@[simp] theorem State.settle_banks (s : State) :
    s.settle.st.active = s.st.active ∧ s.settle.st.completed = s.st.completed ∧ s.settle.st.fip.isNone = s.st.fip.isNone := by
  simp only [State.settle]; (repeat' split) <;> simp
@[simp] theorem State.fineSample_banks (s : State) (f : Nat) (x : Int) :
    (s.fineSample f x).st.active = s.st.active ∧ (s.fineSample f x).st.completed = s.st.completed ∧ (s.fineSample f x).st.fip.isNone = s.st.fip.isNone := by
  simp only [State.fineSample]; (repeat' split) <;> simp
@[simp] theorem State.probeSample_banks (s : State) (f : Nat) (x : Int) :
    (s.probeSample f x).st.active = s.st.active ∧ (s.probeSample f x).st.completed = s.st.completed ∧ (s.probeSample f x).st.fip.isNone = s.st.fip.isNone := by
  simp only [State.probeSample]; (repeat' split) <;> simp
@[simp] theorem State.probeMove_banks (s : State) :
    s.probeMove.st.active = s.st.active ∧ s.probeMove.st.completed = s.st.completed ∧ s.probeMove.st.fip.isNone = s.st.fip.isNone := by
  simp only [State.probeMove]; (repeat' split) <;> simp
@[simp] theorem State.afSample_banks (s : State) (r : StatRecord) :
    (s.afSample r).st.active = s.st.active ∧ (s.afSample r).st.completed = s.st.completed ∧ (s.afSample r).st.fip.isNone = s.st.fip.isNone := by
  simp only [State.afSample]; (repeat' split) <;> simp
@[simp] theorem State.afCompare_banks (s : State) (r : StatRecord) :
    (s.afCompare r).st.active = s.st.active ∧ (s.afCompare r).st.completed = s.st.completed ∧ (s.afCompare r).st.fip.isNone = s.st.fip.isNone := by
  simp only [State.afCompare]; (repeat' split) <;> simp
@[simp] theorem State.afRecord_banks (s : State) (r : StatRecord) :
    (s.afRecord r).st.active = s.st.active ∧ (s.afRecord r).st.completed = s.st.completed ∧ (s.afRecord r).st.fip.isNone = s.st.fip.isNone := by
  simp only [State.afRecord]; (repeat' split) <;> simp
@[simp] theorem State.takeRecord_banks (s : State) :
    s.takeRecord.st.active = s.st.active ∧ s.takeRecord.st.completed = s.st.completed ∧ s.takeRecord.st.fip.isNone = s.st.fip.isNone := by
  simp only [State.takeRecord]; (repeat' split) <;> simp
@[simp] theorem State.movesProbe_banks (s t : State) :
    (s.movesProbe t).st.active = t.st.active ∧ (s.movesProbe t).st.completed = t.st.completed ∧ (s.movesProbe t).st.fip.isNone = t.st.fip.isNone := by
  simp only [State.movesProbe]; (repeat' split) <;> simp
@[simp] theorem State.handRecord_banks (s : State) :
    s.handRecord.st.active = s.st.active ∧ s.handRecord.st.completed = s.st.completed ∧ s.handRecord.st.fip.isNone = s.st.fip.isNone := by
  simp [State.handRecord]
@[simp] theorem State.recordFirst_banks (s : State) (k : FrameKind) :
    (s.recordFirst k).st.active = s.st.active ∧ (s.recordFirst k).st.completed = s.st.completed ∧ (s.recordFirst k).st.fip.isNone = s.st.fip.isNone := by
  simp only [State.recordFirst]; (repeat' split) <;> simp

end Sys2Proof.Machine
end

section
/-! The gate evaluated and passed (R18 to R20), and what a readout end brings in either order of log 3. -/

namespace Sys2Proof.Machine

/-! ### The first slot in a state -/

theorem Store.firstSlot_found {b : Store} {x : SlotState} {i : Nat} (h : b.firstSlot x = some i) :
    ∃ y, b.slots[i]? = some y ∧ y.state = x := by
  obtain ⟨hi, hx, -⟩ := List.findIdx?_eq_some_iff_getElem.1 h
  exact ⟨b.slots[i], List.getElem?_eq_getElem hi, of_decide_eq_true hx⟩

/-- Which slots are Free. -/
def Store.freeMarks (b : Store) : List Bool := b.slots.map (fun x => decide (x.state = .free))

theorem Store.firstFree_eq (b : Store) : b.firstSlot .free = b.freeMarks.findIdx? id := by
  rw [Store.firstSlot, Store.freeMarks, List.findIdx?_map]
  rfl

theorem State.freeSlots_eq (s : State) : s.freeSlots = s.store.freeMarks.countP id := by
  rw [State.freeSlots, Store.freeMarks, List.countP_map]
  rfl

/-- A slot that is not Free and does not become Free. -/
theorem Store.freeMarks_onSlot {b : Store} {i : Nat} {y : Slot} (h : b.slots[i]? = some y) (hy : y.state ≠ .free) {f : Slot → Slot}
    (hf : (f y).state ≠ .free) : (b.onSlot i f).freeMarks = b.freeMarks := by
  refine List.ext_getElem? fun j => ?_
  by_cases hj : j = i
  · subst hj
    simp [Store.freeMarks, Store.onSlot, modifyAt, h, hy, hf]
  · simp [Store.freeMarks, Store.onSlot, modifyAt, Ne.symm hj]

/-! ### The gate (R18) -/

theorem State.gateMet_of_gateOpen {s : State} (h : s.gateOpen = true) (r : WaitReason) : s.gateMet r = true :=
  List.all_eq_true.1 h r (by cases r <;> simp [waitReasons])

theorem State.firstFree_of_gateOpen {s : State} (h : s.gateOpen = true) : ∃ i, s.store.firstSlot .free = some i := by
  have hfree : 0 < s.freeSlots := of_decide_eq_true (State.gateMet_of_gateOpen h .noFreeSlot)
  obtain ⟨x, hx, hstate⟩ := List.countP_pos_iff.1 hfree
  refine Option.ne_none_iff_exists'.1 fun hnone => ?_
  exact Store.firstSlot_eq_none.1 hnone x hx (of_decide_eq_true hstate)

theorem State.gateClosed_of_noBurst {s : State} (h : s.burstRunning = false) : s.gateOpen = false := by
  rw [Bool.eq_false_iff]
  intro hopen
  have hburst : s.burstRunning = true := State.gateMet_of_gateOpen hopen .noShots
  simp [h] at hburst

/-- Two states that the gate reads alike. -/
def State.gatesAlike (s u : State) : Prop :=
  u.burstRunning = s.burstRunning ∧ u.lens = s.lens ∧ u.store.freeMarks = s.store.freeMarks ∧ u.store.state = s.store.state ∧
    u.stab = s.stab ∧ u.settings = s.settings ∧ u.af = s.af

theorem State.gatesAlike.gateOpen {s u : State} (h : s.gatesAlike u) : u.gateOpen = s.gateOpen := by
  obtain ⟨hburst, hlens, hfree, hstate, hstab, hsettings, haf⟩ := h
  have hmet (r : WaitReason) : u.gateMet r = s.gateMet r := by
    cases r with
    | noShots => exact hburst
    | lensNotReady | lensMoving => simp [State.gateMet, State.lensReady, State.moving, hlens]
    | noFreeSlot => simp [State.gateMet, State.freeSlots_eq, hfree]
    | storeNotReady => simp [State.gateMet, hstate]
    | recenterBacklog | calibrating => simp [State.gateMet, hstab]
    | focusing =>
      have hpriority : u.shotPriority = s.shotPriority := by
        rw [State.shotPriority, State.shotPriority, State.setting, State.setting, hsettings]
      rw [State.gateMet, State.gateMet, hpriority, haf]
  rw [State.gateOpen, State.gateOpen, funext hmet]

/-! ### The gate passes (R20) -/

theorem State.gateArmed_passed {s : State} {i : Nat} (h : s.store.firstSlot .free = some i) : s.gatePassed s.gateArmed := by
  obtain ⟨y, hy, -⟩ := Store.firstSlot_found h
  have hstore : s.gateArmed.store = s.store.onSlot i (fun x => { x with
      state := .filling, capNo := some (s.fc.capNo + 1), bytes := 0, incomplete := false }) := by
    rw [State.gateArmed, h]
    rfl
  have hopened : s.gateArmed.rq.opened = some { capNo := s.fc.capNo + 1, slot := i, burstIndex := min 255 (s.fc.burstCount + 1), mode := s.burstMode, phase := .gated, withdrawn := false, startPart := none, endPart := none } := by
    rw [State.gateArmed, h]
    rfl
  refine ⟨rfl, rfl, rfl, rfl, ⟨_, rfl, rfl, rfl, rfl, rfl, rfl, rfl, rfl⟩, i, h, ?_⟩
  rw [hstore, Store.slotAt_onSlot hy]
  exact ⟨rfl, rfl, rfl, fun j hj => Store.slotAt_onSlot_ne _ hj _, _, hopened, rfl, rfl, rfl, rfl, rfl⟩

/-- The gate's passing is read from Frame Control, the store, the records and the clock. -/
theorem State.gatePassed.congr {s t u : State} (h : s.gatePassed t) (hfc : u.fc = t.fc) (hstore : u.store = t.store) (hrq : u.rq = t.rq)
    (hclock : u.clock = t.clock) : s.gatePassed u := by
  unfold State.gatePassed at h ⊢
  rwa [hfc, hstore, hrq, hclock]

theorem State.gatePass_passed {s : State} {i : Nat} (h : s.store.firstSlot .free = some i) : s.gatePassed s.gatePass := by
  rw [State.gatePass_eq]
  exact (State.gateArmed_passed h).congr (by simp) (by simp) (by simp) (by simp)

/-! ### The record handed over moves no frame (R43, R93, log 3) -/

/-- What the record's way to the planner and Focus Search leaves. -/
def State.framesAlike (s t : State) : Prop := t.fc = s.fc ∧ t.store = s.store ∧ t.rq = s.rq ∧ t.clock = s.clock ∧
  t.settings = s.settings ∧ t.lens.state = s.lens.state

theorem State.gatePassed.alike {s t u : State} (h : s.gatePassed t) (hu : t.framesAlike u) : s.gatePassed u := by
  obtain ⟨hfc, hstore, hrq, hclock, -⟩ := hu
  exact h.congr hfc hstore hrq hclock

/-- A record that neither the planner nor Focus Search acts on. -/
def State.unused (s : State) : Prop := ∀ r, s.st.last = some r →
  r.aeEligible = false ∧ (r.afEligible = false ∨ s.af.state ∈ [AfState.idle, .locked, .failed])

theorem State.takeRecord_of_unused {s : State} (h : s.unused) : s.takeRecord = s := by
  unfold State.takeRecord
  split
  · rfl
  · next r hlast =>
    obtain ⟨hae, haf⟩ := h r hlast
    have hmeter : s.meter r = s := if_neg (by simp [hae])
    rw [hmeter, State.afRecord]
    rcases haf with haf | haf
    · exact if_pos (by simp [haf])
    · split
      · rfl
      · simp only [List.mem_cons, List.not_mem_nil, or_false] at haf
        rcases haf with haf | haf | haf <;> simp [haf, AfState.focusing]

theorem State.handRecord_of_unused {s : State} (h : s.unused) : s.handRecord = s := by
  rw [State.handRecord, State.takeRecord_of_unused h, State.movesProbe]
  split
  · next htracking => exact State.probeMove_of_other (by simp [htracking])
  · rfl

/-- What Frame Control does after the readout end, the record handed over before or after: before it the state is the one the frame's
end left, or one in which the record has been handed over. -/
theorem State.readoutEnd_after (s : State) (f : InputFrame) (timedOut : Bool) : ∃ v,
    (s.readoutFilled timedOut f.kind).framesAlike v ∧ v.stab = (s.readoutFilled timedOut f.kind).stab ∧
    ((s.readoutFilled timedOut f.kind).unused → v = (s.readoutFilled timedOut f.kind).chosen) ∧
    (v.afterReadout f.kind).framesAlike (s.readoutEnd f timedOut) := by
  obtain ⟨u, hu⟩ : ∃ u : State, u = (s.readoutFilled timedOut f.kind).chosen := ⟨_, rfl⟩
  have halike : (s.readoutFilled timedOut f.kind).framesAlike u := by rw [hu]; exact ⟨rfl, rfl, rfl, rfl, rfl, rfl⟩
  have hunused (h : (s.readoutFilled timedOut f.kind).unused) : u.unused := by rw [hu]; exact h
  have hstab : u.stab = (s.readoutFilled timedOut f.kind).stab := by rw [hu]; rfl
  have horder := s.readoutEnd_cases f timedOut
  rw [← hu] at horder ⊢
  rcases horder with horder | horder <;> rw [horder]
  · cases hkind : f.kind with
    | live =>
      rw [hkind] at halike hunused hstab
      exact ⟨u.handRecord, by simpa [State.framesAlike] using halike, by simpa using hstab, fun h => State.handRecord_of_unused (hunused h),
        ⟨rfl, rfl, rfl, rfl, rfl, rfl⟩⟩
    | capture =>
      rw [hkind] at halike hunused hstab
      exact ⟨u.takeRecord, by simpa [State.framesAlike] using halike, by simpa using hstab, fun h => State.takeRecord_of_unused (hunused h),
        by simp [State.framesAlike, State.recordFirst]⟩
  · exact ⟨u, halike, hstab, fun _ => rfl, by simp [State.framesAlike]⟩

end Sys2Proof.Machine
end

section
/-! The reopen settle, the live-frame boundary and the readout end of a BurstHigh capture (R8, R19, R20, R25, R26). -/

namespace Sys2Proof.Machine

/-! ### The boundary of a live frame (R8, R19) -/

theorem State.liveBoundary_of_stopped {s : State} (h : s.loopRuns = false) :
    s.liveBoundary.fc.state = .idle ∧ s.liveBoundary.fc.next = .none := by
  have hidle : s.liveBoundary = s.withFc (fun c => { c with state := .idle, next := .none }) := if_pos (by simp [h])
  rw [hidle]
  exact ⟨rfl, rfl⟩

theorem State.liveBoundary_of_closed {s : State} (hruns : s.loopRuns = true) (hgate : s.gateOpen = false) (hlive : s.fc.state = .live) :
    s.liveGoesOn s.liveBoundary := by
  unfold State.liveBoundary
  rw [if_neg (by simp [hruns]), if_neg (by simp [hgate])]
  split_ifs with hnext
  · exact ⟨hlive, fun h => absurd hnext h, fun _ => ⟨_, rfl, rfl⟩⟩
  · exact ⟨hlive, fun _ => rfl, fun h => absurd h hnext⟩

theorem State.liveBoundary_of_open {s : State} (hruns : s.loopRuns = true) (hgate : s.gateOpen = true) : s.gatePassed s.liveBoundary := by
  obtain ⟨i, hi⟩ := State.firstFree_of_gateOpen hgate
  have hpass : s.liveBoundary = s.gatePass := (if_neg (by simp [hruns])).trans (if_pos hgate)
  rw [hpass]
  exact State.gatePass_passed hi

theorem State.liveGoesOn.alike {s t u : State} (h : s.liveGoesOn t) (hu : t.framesAlike u) : s.liveGoesOn u := by
  obtain ⟨hfc, -, -, hclock, -⟩ := hu
  unfold State.liveGoesOn at h ⊢
  rwa [hfc, hclock]

/-! ### A record that nothing acts on -/

theorem State.readoutSwapped_unused {s : State} {g : FrameInProgress} (hfip : s.st.fip = some g) {timedOut : Bool}
    (h : timedOut = true ∨ g.flags.irisMoved = true ∧ s.af.state ∈ [AfState.idle, .locked, .failed]) : (s.readoutSwapped timedOut).unused := by
  intro r hr
  rw [State.readoutSwapped_st hfip timedOut] at hr
  obtain rfl : s.statRecord g timedOut = r := Option.some.inj hr
  obtain ⟨-, -, -, -, -, -, -, -, hae, haf, -⟩ := s.statRecord_formed g timedOut
  have hafOf := (s.readoutSwapped_kept timedOut).2.2.2.2.2.1
  rw [hafOf, ← Bool.not_eq_true, ← Bool.not_eq_true, hae, haf]
  rcases h with rfl | ⟨hiris, hstate⟩
  · simp
  · exact ⟨by simp [hiris], .inr hstate⟩

/-! ### A live frame's readout end (R19) -/

theorem State.liveReadout_spec {s : State} {f : InputFrame} (hkind : f.kind = .live) {g : FrameInProgress} (hfip : s.st.fip = some g)
    (hlive : s.fc.state = .live) {timedOut unused : Bool}
    (hunused : unused = (timedOut || (g.flags.irisMoved && decide (s.af.state ∈ [AfState.idle, .locked, .failed])))) :
    (s.loopRuns = false → (s.readoutEnd f timedOut).fc.state = .idle ∧ (s.readoutEnd f timedOut).fc.next = .none) ∧
    (s.loopRuns = true → s.burstRunning = false ∨ unused = true ∧ s.gateOpen = false → s.liveGoesOn (s.readoutEnd f timedOut)) ∧
    (s.loopRuns = true → unused = true → s.gateOpen = true → s.gatePassed (s.readoutEnd f timedOut)) := by
  obtain ⟨v, halike, hstab, hsame, hafter⟩ := s.readoutEnd_after f timedOut
  rw [hkind] at halike hstab hsame hafter
  obtain ⟨hfc, hclock, hsettings, -, hlens, haf, hstabS, hstore, hrq, -⟩ := s.readoutSwapped_kept timedOut
  obtain ⟨hfcV, hstoreV, hrqV, hclockV, hsettingsV, hlensV⟩ := halike
  have hfcS : v.fc = { s.fc with frame := none } := hfcV.trans hfc
  have hruns : v.loopRuns = s.loopRuns := by
    have hlensS : v.lens.state = s.lens.state := hlensV.trans (congrArg Lens.state hlens)
    rw [State.loopRuns, State.loopRuns, State.lensReady, State.lensReady, hlensS, hfcS]
  have hburst : v.burstRunning = s.burstRunning := by rw [State.burstRunning, State.burstRunning, hfcS]
  have hgate (h : unused = true) : v.gateOpen = s.gateOpen := by
    have hv := hsame (State.readoutSwapped_unused hfip (by simpa [hunused] using h))
    refine State.gatesAlike.gateOpen ⟨hburst, ?_⟩
    rw [hv]
    exact ⟨hlens, congrArg Store.freeMarks hstore, congrArg Store.state hstore, hstabS, hsettings, haf⟩
  have hafterLive : v.afterReadout .live = v.liveBoundary := if_pos (by rw [hfcS]; exact hlive)
  rw [hafterLive] at hafter
  refine ⟨fun hstopped => ?_, fun hloop hclosed => ?_, fun hloop hu hopen => ?_⟩
  · rw [hafter.1]
    exact State.liveBoundary_of_stopped (hruns.trans hstopped)
  · have hgateV : v.gateOpen = false := hclosed.elim (fun h => State.gateClosed_of_noBurst (hburst.trans h)) (fun h => (hgate h.1).trans h.2)
    have hgoes := (State.liveBoundary_of_closed (hruns.trans hloop) hgateV (by rw [hfcS]; exact hlive)).alike hafter
    have hsettingsS : v.settings = s.settings := hsettingsV.trans hsettings
    unfold State.liveGoesOn State.settingNat State.setting at hgoes ⊢
    rwa [hfcS, hsettingsS] at hgoes
  · have hpassed := (State.liveBoundary_of_open (hruns.trans hloop) ((hgate hu).trans hopen)).alike hafter
    have hsettingsS : v.settings = s.settings := hsettingsV.trans hsettings
    unfold State.gatePassed State.settingNat State.burstMode State.setting at hpassed ⊢
    rwa [hfcS, hsettingsS, show v.store = s.store from hstoreV.trans hstore] at hpassed

/-! ### A capture's readout end (R16, R19, R24) -/

/-- The shot counted down, the slot filled and the record appended (R16, R143, R163). -/
def State.captureStored (s : State) (timedOut : Bool) : State :=
  ((s.withFc (fun c => { c with owed := c.owed - 1 })).slotFull timedOut).recordComplete timedOut

theorem State.captureReadout_eq (s : State) (timedOut : Bool) :
    s.captureReadout timedOut = State.burstCheck s.burstRunning (s.captureStored timedOut) := rfl

theorem State.burstCheck_of_running {s : State} (h : s.burstRunning = true) (was : Bool) : State.burstCheck was s = s :=
  if_neg (by simp [h])

/-- Filling becomes Full: no slot becomes Free. -/
theorem State.slotFull_freeMarks (s : State) (timedOut : Bool) : (s.slotFull timedOut).store.freeMarks = s.store.freeMarks := by
  unfold State.slotFull
  split
  · rfl
  · next i hi =>
    obtain ⟨y, hy, hstate⟩ := Store.firstSlot_found hi
    have hsettled (u : State) : u.storeSettle.store.freeMarks = u.store.freeMarks := by simp [Store.freeMarks]
    rw [hsettled]
    exact Store.freeMarks_onSlot (b := { s.store with remnant := s.store.buf.length }) hy (by simp [hstate]) (by simp)

theorem State.slotFull_state {s : State} (h : s.fc.cadence ≠ .still) (timedOut : Bool) :
    (s.slotFull timedOut).store.state = s.store.state := by
  have hsettled {u : State} (hu : u.fc.cadence ≠ .still) : u.storeSettle.store.state = u.store.state := by
    rw [State.storeSettle_stays (.inl hu), (State.arbitrate_store _).1]
  unfold State.slotFull
  split
  · rfl
  · exact hsettled h

theorem State.captureStored_kept (s : State) (timedOut : Bool) : (s.captureStored timedOut).fc = { s.fc with owed := s.fc.owed - 1 } ∧
    (s.captureStored timedOut).st = s.st ∧ (s.captureStored timedOut).af = s.af ∧ (s.captureStored timedOut).lens = s.lens ∧
    (s.captureStored timedOut).stab = s.stab ∧ (s.captureStored timedOut).settings = s.settings ∧
    (s.captureStored timedOut).clock = s.clock ∧ (s.captureStored timedOut).store.freeMarks = s.store.freeMarks := by
  simp [State.captureStored, State.withFc, State.slotFull_freeMarks]

theorem State.captureStored_state {s : State} (h : s.fc.cadence ≠ .still) (timedOut : Bool) :
    (s.captureStored timedOut).store.state = s.store.state := by
  rw [State.captureStored, show ∀ u : State, (u.recordComplete timedOut).store = u.store by simp]
  exact State.slotFull_state (s := s.withFc (fun c => { c with owed := c.owed - 1 })) h timedOut

theorem State.burstCheck_fc (was : Bool) (s : State) : ∃ n, (State.burstCheck was s).fc = { s.fc with burstCount := n } := by
  unfold State.burstCheck
  split_ifs
  · exact ⟨0, by simp [State.withFc]⟩
  · exact ⟨s.fc.burstCount, rfl⟩

/-- Frame Control after a capture's frame has ended. -/
theorem State.captureFilled_fc (s : State) (timedOut : Bool) :
    ∃ n, (s.readoutFilled timedOut .capture).fc = { s.fc with frame := none, owed := s.fc.owed - 1, burstCount := n } := by
  obtain ⟨n, hn⟩ := State.burstCheck_fc (s.readoutSwapped timedOut).burstRunning ((s.readoutSwapped timedOut).captureStored timedOut)
  refine ⟨n, ?_⟩
  rw [State.readoutFilled, State.captureReadout_eq, hn, ((s.readoutSwapped timedOut).captureStored_kept timedOut).1,
    (s.readoutSwapped_kept timedOut).1]

/-- A gate that has failed (R19). -/
theorem State.gateFailed_spec (s : State) : s.gateFailed.fc.cap = s.fc.cap ∧
    s.gateFailed.fc.state = if s.lens.state = .ready ∧ s.fc.cadence ≠ .still then .live else .idle := by
  have hruns : s.loopRuns = true ↔ s.lens.state = .ready ∧ s.fc.cadence ≠ .still := by simp [State.loopRuns, State.lensReady]
  unfold State.gateFailed
  split_ifs with hloop hfree hfree
  · exact ⟨rfl, rfl⟩
  · exact absurd (hruns.1 hloop) hfree
  · exact absurd (hruns.2 hfree) hloop
  · exact ⟨rfl, rfl⟩

/-- The gate after a BurstHigh capture, u being s with the shot counted down. -/
theorem State.burstReadout_spec {s u : State} {f : InputFrame} (hkind : f.kind = .capture) {g : FrameInProgress} (hfip : s.st.fip = some g)
    {c : Capture} (hcap : s.fc.cap = some c) (hmode : c.mode = .burstHigh) (hcadence : s.fc.cadence ≠ .still) {timedOut unused : Bool}
    (hunused : unused = (timedOut || (g.flags.irisMoved && decide (s.af.state ∈ [AfState.idle, .locked, .failed]))))
    (hu : u = s.withFc (fun c => { c with owed := c.owed - 1 })) :
    (u.burstRunning = false ∨ unused = true ∧ u.gateOpen = false → (s.readoutEnd f timedOut).fc.cap = none ∧
      (s.readoutEnd f timedOut).fc.state = if s.lens.state = .ready then .live else .idle) ∧
    (unused = true → u.gateOpen = true → ∃ w : State, w.gatePassed (s.readoutEnd f timedOut) ∧ w.fc.capNo = s.fc.capNo ∧
      w.settings = s.settings ∧ w.store.firstSlot .free = s.store.firstSlot .free) := by
  obtain ⟨v, halike, hstab, hsame, hafter⟩ := s.readoutEnd_after f timedOut
  rw [hkind] at halike hstab hsame hafter
  obtain ⟨hfcV, hstoreV, -, -, hsettingsV, hlensV⟩ := halike
  obtain ⟨n, hfc⟩ := s.captureFilled_fc timedOut
  have hfcS : v.fc = { s.fc with frame := none, owed := s.fc.owed - 1, burstCount := n } := hfcV.trans hfc
  have hboundary : v.afterReadout .capture = (v.withFc (fun c => { c with cap := none })).evaluateGate := by
    have hmodeV : v.fc.cap.map Capture.mode = some .burstHigh := by rw [hfcS]; simp [hcap, hmode]
    rw [State.afterReadout, hmodeV]
  rw [hboundary] at hafter
  have hburst : (v.withFc (fun c => { c with cap := none })).burstRunning = u.burstRunning := by
    rw [hu, State.burstRunning, State.burstRunning, show (v.withFc _).fc = { v.fc with cap := none } from rfl, hfcS]
    rfl
  have hgate (hrunning : u.burstRunning = true) (h : unused = true) :
      u.gatesAlike (v.withFc (fun c => { c with cap := none })) ∧ v.settings = s.settings := by
    obtain ⟨hfcW, -, hsettings, -, hlens, haf, hstabW, hstore, -⟩ := s.readoutSwapped_kept timedOut
    obtain ⟨hfcX, hstX, hafX, hlensX, hstabX, hsettingsX, -, hfreeX⟩ := (s.readoutSwapped timedOut).captureStored_kept timedOut
    have hstateX := State.captureStored_state (s := s.readoutSwapped timedOut) (by rw [hfcW]; exact hcadence) timedOut
    have hfilled : s.readoutFilled timedOut .capture = (s.readoutSwapped timedOut).captureStored timedOut := by
      have hrunningX : ((s.readoutSwapped timedOut).captureStored timedOut).burstRunning = u.burstRunning := by
        rw [hu, State.burstRunning, hfcX, hfcW]
        rfl
      exact State.burstCheck_of_running (hrunningX.trans hrunning) _
    have hv := hsame (by
      rw [hfilled, State.unused, hstX, hafX]
      exact State.readoutSwapped_unused hfip (by simpa [hunused] using h))
    rw [hfilled] at hv
    refine ⟨⟨hburst, ?_⟩, by rw [hv]; exact hsettingsX.trans hsettings⟩
    rw [hv, hu]
    exact ⟨hlensX.trans hlens, hfreeX.trans (congrArg Store.freeMarks hstore), hstateX.trans (congrArg Store.state hstore),
      hstabX.trans hstabW, hsettingsX.trans hsettings, hafX.trans haf⟩
  obtain ⟨w, hw⟩ : ∃ w : State, w = v.withFc (fun c => { c with cap := none }) := ⟨_, rfl⟩
  rw [← hw] at hafter hburst hgate
  refine ⟨fun hclosed => ?_, fun hused hopen => ?_⟩
  · have hclosedW : w.gateOpen = false := by
      cases hrunning : u.burstRunning with
      | false => exact State.gateClosed_of_noBurst (hburst.trans hrunning)
      | true =>
        obtain ⟨hused, hshut⟩ := hclosed.resolve_left (by simp [hrunning])
        exact (hgate hrunning hused).1.gateOpen.trans hshut
    have hfailed : w.evaluateGate = w.gateFailed := if_neg (by simp [hclosedW])
    have hlens : w.lens.state = s.lens.state := by
      rw [hw]
      exact hlensV.trans (by simp [State.readoutFilled, (s.readoutSwapped_kept timedOut).2.2.2.2.1])
    have hcadenceW : w.fc.cadence ≠ .still := by
      rw [hw, show (v.withFc _).fc = { v.fc with cap := none } from rfl, hfcS]
      exact hcadence
    obtain ⟨hcapW, hstateW⟩ := w.gateFailed_spec
    rw [hfailed] at hafter
    rw [hafter.1, hcapW, hstateW, hlens]
    exact ⟨by rw [hw]; rfl, by simp [hcadenceW]⟩
  · have hrunning : u.burstRunning = true := State.gateMet_of_gateOpen hopen .noShots
    obtain ⟨halike, hsettings⟩ := hgate hrunning hused
    have hopenW : w.gateOpen = true := halike.gateOpen.trans hopen
    obtain ⟨i, hi⟩ := State.firstFree_of_gateOpen hopenW
    have hpass : w.evaluateGate = w.gatePass := if_pos hopenW
    rw [hpass] at hafter
    refine ⟨w, (State.gatePass_passed hi).alike hafter, ?_, ?_, ?_⟩
    · rw [hw, show (v.withFc _).fc = { v.fc with cap := none } from rfl, hfcS]
    · rw [hw]
      exact hsettings
    · rw [Store.firstFree_eq, Store.firstFree_eq, halike.2.2.1, hu]
      rfl

/-! ### The reopen settle (R25, R26) -/

theorem State.evaluateGate_of_closed {s : State} (h : s.gateOpen = false) : onlyChanged [.frames] s s.evaluateGate ∧
    s.evaluateGate.fc.state = if s.lens.state = .ready ∧ s.fc.cadence ≠ .still then .live else .idle := by
  have hfailed : s.evaluateGate = s.gateFailed := if_neg (by simp [h])
  rw [hfailed]
  refine ⟨⟨by simp, by simp, fun y hy => ?_⟩, s.gateFailed_spec.2⟩
  cases y <;> simp [Part.same, State.dramByte] at hy ⊢

theorem State.evaluateGate_settle (s : State) : s.evaluateGate.fc.settle = s.fc.settle := by
  have hpass : s.gatePass.fc.settle = s.fc.settle := by rw [State.gatePass_eq, (State.derive_frame _).2.2.2.1]; rfl
  unfold State.evaluateGate State.gateFailed
  split_ifs
  · exact hpass
  · rfl
  · rfl

/-! ### The commands of a frame's end (R11) -/

/-- The frame-end marker and the readout timeout of the frame in readout; the timeout comes at the limit. -/
theorem completes_readout {s : State} {f : InputFrame} (hframe : s.fc.frame = some f) (hphase : f.phase = .reading) {i : Instr}
    {timedOut : Bool} (hi : (i, timedOut) ∈ [(Instr.frameEndMarker, false), (.readoutTimeout, true)]) {P : State → Prop}
    (h : ∀ x y, P (((s.begin.reach (if timedOut then f.limit else 0)).readoutEnd f timedOut).withFc (fun c =>
      { c with quiet1 := x, quiet2 := y }))) : completes (exec i s) P := by
  have hend (u : State) (hu : u.fc = s.fc) : ∃ x y, u.endReadout timedOut = (u.readoutEnd f timedOut).withFc (fun c =>
      { c with quiet1 := x, quiet2 := y }) := by
    obtain ⟨x, y, hquiet⟩ := (u.readoutEnd f timedOut).quietSync_eq u.busy
    refine ⟨x, y, ?_⟩
    rw [State.endReadout, show u.fc.frame = some f by rw [hu, hframe]]
    exact (if_pos hphase).trans hquiet
  simp only [List.mem_cons, Prod.mk.injEq, List.not_mem_nil, or_false] at hi
  rcases hi with ⟨rfl, rfl⟩ | ⟨rfl, rfl⟩
  · obtain ⟨x, y, hend⟩ := hend s.begin rfl
    have hnow : s.begin.reach 0 = s.begin := by simp [State.reach, State.begin]
    have hP := h x y
    simp only [Bool.false_eq_true, if_false, hnow] at hP
    rw [← hend] at hP
    exact ⟨_, rfl, hP⟩
  · obtain ⟨x, y, hend⟩ := hend (s.begin.reach f.limit) rfl
    have hdue : s.dueReadout = some f.limit := by
      rw [State.dueReadout, hframe]
      exact if_pos hphase
    change completes (execReadoutTimeout s) P
    refine completes_timed hdue ?_
    rw [hend]
    exact h x y

/-- Settles O36: the gate is evaluated on what a readout end or the settle's expiry leaves. -/
theorem reopenSettleEvaluatesTheGate : Obligations.ReopenSettleEvaluatesTheGate := by
  refine ⟨fun s f g hframe hphase hfip x hx => ?readout, fun s d => ⟨fun hsettle => ?settle, fun hreopen => ?abort⟩⟩
  case readout =>
    refine completes_readout hframe hphase hx fun q1 q2 unused hunused => ⟨fun hkind hlive => ?_,
      fun c hkind hcap hmode hcadence u hu => ?_⟩
    · exact State.liveReadout_spec (s := s.begin.reach _) hkind hfip hlive hunused
    · obtain ⟨hclosed, hopen⟩ := State.burstReadout_spec (s := s.begin.reach (if x.2 then f.limit else 0))
        (u := u.begin.reach (if x.2 then f.limit else 0)) hkind hfip hcap hmode hcadence hunused (by rw [hu]; rfl)
      refine ⟨hclosed, fun hused hgate => ?_⟩
      obtain ⟨w, ⟨harming, hcap, -, -, ⟨y, hy, hmodeY, hrelease, -⟩, i, hfirst, hfilling, -, -, -, o, ho, hcapO, hslot, -, -, hphaseO⟩,
        hcapW, hsettings, hfree⟩ := hopen hused hgate
      rw [State.burstMode, State.setting, hsettings] at hmodeY
      rw [State.settingNat, State.setting, hsettings] at hrelease
      exact ⟨harming, hcap.trans (congrArg (· + 1) hcapW), ⟨y, hy, hmodeY, hrelease⟩, i, hfree.symm.trans hfirst, hfilling, o, ho, hslot,
        hcapO.trans (congrArg (· + 1) hcapW), hphaseO⟩
  case settle =>
    change completes (execReopenSettleExpiry s) _
    refine completes_timed hsettle ?_
    obtain ⟨u, hu⟩ : ∃ u : State, u = (s.begin.reach d).withFc (fun c => { c with settle := none, shutter := .opened }) := ⟨_, rfl⟩
    have hend : (s.begin.reach d).settleEnd = if s.fc.state = .reopening then u.evaluateGate else u := by rw [hu]; rfl
    obtain ⟨q1, q2, hquiet⟩ := (s.begin.reach d).settleEnd.quietSync_eq (s.begin.reach d).busy
    rw [State.watchBusy, hquiet, hend]
    have hopened : onlyChanged [.frames] (s.begin.reach d) u := by rw [hu]; exact State.withFc_onlyChanged _ _
    have hquieted (t : State) (h : onlyChanged [.frames] (s.begin.reach d) t) :
        onlyChanged [.clock, .frames] s (t.withFc (fun c => { c with quiet1 := q1, quiet2 := q2 })) :=
      onlyChanged_mono (onlyChanged_of_reach (onlyChanged_trans h (State.withFc_onlyChanged _ _))) (by simp)
    by_cases hstate : s.fc.state = .reopening
    · rw [if_pos hstate]
      have hgate : u.gateOpen = s.gateOpen := by rw [hu]; rfl
      refine ⟨by simp [hu], ?_, by simp [hu], fun h => absurd hstate h, fun _ => ⟨fun hopen => ?_, fun hclosed => ?_⟩⟩
      · exact u.evaluateGate_settle.trans (by rw [hu]; rfl)
      · obtain ⟨i, hi⟩ := State.firstFree_of_gateOpen (hgate.trans hopen)
        have hpass : u.evaluateGate = u.gatePass := if_pos (hgate.trans hopen)
        have hpassed := State.gatePass_passed hi
        rw [hpass]
        rw [hu] at hpassed ⊢
        exact hpassed
      · obtain ⟨hchanged, hfailed⟩ := State.evaluateGate_of_closed (hgate.trans hclosed)
        refine ⟨hquieted _ (onlyChanged_mono (onlyChanged_trans hopened hchanged) (by simp)), hfailed.trans ?_⟩
        rw [hu]
        rfl
    · rw [if_neg hstate]
      refine ⟨by rw [hu]; rfl, by rw [hu]; rfl, by rw [hu]; rfl, fun _ => ⟨hquieted _ hopened, by rw [hu]; rfl⟩, fun h => absurd h hstate⟩
  case abort =>
    change completes (execAbortReopen s) _
    refine completes_timed hreopen ⟨rfl, ?_, rfl, rfl⟩
    have hchanged : onlyChanged [.frames] (s.begin.reach d) (s.begin.reach d).abortReopen :=
      onlyChanged_mono (onlyChanged_trans (State.withFc_onlyChanged _ _) (State.put_onlyChanged _ _)) (by simp)
    exact onlyChanged_of_reach hchanged

end Sys2Proof.Machine
end

section
/-! What a frame's readout end completes: the banks, the record of the frame, and a capture's shot, slot and record (R11, R16, R24, R34,
R143, R163). -/

namespace Sys2Proof.Machine

/-! ### A gate pass fills a Free slot -/

theorem State.gatePass_slot {s : State} {i : Nat} (hopen : s.gateOpen = true) (hfree : (s.store.slotAt i).state ≠ .free) :
    s.gatePass.store.slotAt i = s.store.slotAt i := by
  obtain ⟨j, hj⟩ := State.firstFree_of_gateOpen hopen
  obtain ⟨-, -, -, -, -, k, hk, -, -, -, hothers, -⟩ := State.gatePass_passed hj
  refine hothers i fun hik => hfree ?_
  obtain ⟨y, hy, hstate⟩ := Store.firstSlot_found hk
  rw [hik, Store.slotAt_of_getElem? hy, hstate]

theorem State.afterReadout_slot {s : State} {i : Nat} (hfree : (s.store.slotAt i).state ≠ .free) (kind : FrameKind) :
    (s.afterReadout kind).store.slotAt i = s.store.slotAt i := by
  cases kind with
  | live =>
    unfold State.afterReadout State.liveBoundary
    split_ifs with hlive hstopped hopen hnext
    · rfl
    · exact State.gatePass_slot hopen hfree
    · rfl
    · rfl
    · rfl
  | capture =>
    unfold State.afterReadout
    dsimp only
    split
    · unfold State.evaluateGate
      split_ifs with hopen
      · exact State.gatePass_slot hopen hfree
      · simp [State.withFc]
    · rfl

section
variable {s : State} {f : InputFrame} {timedOut : Bool}

/-! ### What stays raised -/

theorem Invariant.holds.frameEnded {v : Invariant} (h : v.holds (s.readoutFilled timedOut f.kind)) : v.holds (s.readoutEnd f timedOut) := by
  rcases s.readoutEnd_cases f timedOut with horder | horder <;> rw [horder]
  · exact h.chosen.recordFirst
  · exact h.chosen.afterReadout.handRecord

theorem Invariant.holds.swappedFilled {v : Invariant} (h : v.holds (s.readoutSwapped timedOut)) (kind : FrameKind) :
    v.holds (s.readoutFilled timedOut kind) := by
  cases kind with
  | live => exact h
  | capture => exact h.captureReadout

/-- A timeout raises FRAME_PARTIAL. -/
theorem State.readoutEnd_partial (s : State) (f : InputFrame) :
    (s.readoutEnd f true).occurred .framePartial ∧ ∀ q, (s.readoutEnd f true).pends q .framePartial := by
  obtain ⟨hoccurred, hpends⟩ := (s.withFc (fun c => { c with frame := none })).raise_raised .framePartial
  have hoccurs := Invariant.holds.statSwap (v := .occurred .framePartial) (timedOut := true) hoccurred
  have hpendsAll (q : Port) := Invariant.holds.statSwap (v := .pends q .framePartial) (timedOut := true) (hpends q)
  exact ⟨(Invariant.holds.swappedFilled (s := s) (timedOut := true) hoccurs f.kind).frameEnded,
    fun q => (Invariant.holds.swappedFilled (s := s) (timedOut := true) (hpendsAll q) f.kind).frameEnded⟩

/-! ### The banks and the record of the frame (R34, R37) -/

theorem State.readoutFilled_st (s : State) (timedOut : Bool) (kind : FrameKind) :
    (s.readoutFilled timedOut kind).st.active = (s.readoutSwapped timedOut).st.active ∧
    (s.readoutFilled timedOut kind).st.completed = (s.readoutSwapped timedOut).st.completed ∧
    (s.readoutFilled timedOut kind).st.fip.isNone = (s.readoutSwapped timedOut).st.fip.isNone ∧
    (s.readoutFilled timedOut kind).st.last = (s.readoutSwapped timedOut).st.last := by
  cases kind <;> simp [State.readoutFilled]

theorem State.readoutEnd_st {g : FrameInProgress} (hfip : s.st.fip = some g) (f : InputFrame) (timedOut : Bool) :
    (s.readoutEnd f timedOut).st.fip = none ∧ (s.readoutEnd f timedOut).st.completed = s.st.active ∧
    (s.readoutEnd f timedOut).st.active = s.st.completed ∧ (s.readoutEnd f timedOut).st.last = some (s.statRecord g timedOut) := by
  have hkept : (s.readoutEnd f timedOut).st.active = (s.readoutFilled timedOut f.kind).st.active ∧
      (s.readoutEnd f timedOut).st.completed = (s.readoutFilled timedOut f.kind).st.completed ∧
      (s.readoutEnd f timedOut).st.fip.isNone = (s.readoutFilled timedOut f.kind).st.fip.isNone ∧
      (s.readoutEnd f timedOut).st.last = (s.readoutFilled timedOut f.kind).st.last := by
    rcases s.readoutEnd_cases f timedOut with horder | horder <;> rw [horder] <;> simp
  obtain ⟨hactive, hcompleted, hnone, hlast⟩ := hkept
  obtain ⟨hactiveF, hcompletedF, hnoneF, hlastF⟩ := s.readoutFilled_st timedOut f.kind
  have hswapped := State.readoutSwapped_st hfip timedOut
  refine ⟨?_, ?_, ?_, ?_⟩
  · rw [← Option.isNone_iff_eq_none, hnone, hnoneF, hswapped]
    rfl
  · rw [hcompleted, hcompletedF, hswapped]
  · rw [hactive, hactiveF, hswapped]
  · rw [hlast, hlastF, hswapped]

/-! ### What Frame Control does next (R19, R24) -/

theorem State.readoutFilled_frame (s : State) (timedOut : Bool) (kind : FrameKind) :
    (s.readoutFilled timedOut kind).fc.frame = none ∧ (s.readoutFilled timedOut kind).clock = s.clock ∧
    (s.readoutFilled timedOut kind).settings = s.settings := by
  cases kind <;> simp [State.readoutFilled, s.readoutSwapped_kept timedOut]

/-- The frame is gone; shots and queue are as the frame's end left them. -/
theorem State.readoutEnd_kept (s : State) (f : InputFrame) (timedOut : Bool) : (s.readoutEnd f timedOut).fc.frame = none ∧
    (s.readoutEnd f timedOut).fc.owed = (s.readoutFilled timedOut f.kind).fc.owed ∧
    (s.readoutEnd f timedOut).rq.queue = (s.readoutFilled timedOut f.kind).rq.queue := by
  obtain ⟨v, ⟨hfc, -, hrq, -⟩, -, -, hfcT, -, hrqT, -⟩ := s.readoutEnd_after f timedOut
  rw [hfcT, hrqT]
  simp [hfc, hrq, s.readoutFilled_frame]

/-- In the mechanical modes a capture's readout end orders the reopening. -/
theorem State.readoutEnd_reopens {c : Capture} (hkind : f.kind = .capture) (hcap : s.fc.cap = some c) (hmode : c.mode ≠ .burstHigh)
    (timedOut : Bool) : (s.readoutEnd f timedOut).fc.state = .reopening ∧ (s.readoutEnd f timedOut).fc.cap = none ∧
      (s.readoutEnd f timedOut).fc.shutter = .reopening ∧
      (s.readoutEnd f timedOut).fc.settle = some (s.clock + us (s.settingNat ixReopenSettle)) := by
  obtain ⟨v, ⟨hfc, -, -, hclock, hsettings, -⟩, -, -, hfcT, -⟩ := s.readoutEnd_after f timedOut
  rw [hkind] at hfc hclock hsettings hfcT
  obtain ⟨n, hfilled⟩ := s.captureFilled_fc timedOut
  obtain ⟨-, hclockF, hsettingsF⟩ := s.readoutFilled_frame timedOut .capture
  have hmodeV : v.fc.cap.map Capture.mode = some c.mode := by
    rw [hfc, hfilled]
    exact congrArg (Option.map Capture.mode) hcap
  have hreopens : v.afterReadout .capture = v.reopen := by
    rw [State.afterReadout, hmodeV]
    cases hm : c.mode with
    | burstHigh => exact absurd hm hmode
    | single => rfl
    | burstLow => rfl
  rw [hfcT, hreopens]
  refine ⟨rfl, rfl, rfl, ?_⟩
  rw [State.settingNat, State.setting, ← hclockF, ← hclock, ← hsettingsF, ← hsettings]
  rfl

/-- A slot that is not Free stays as the frame's end left it. -/
theorem State.readoutEnd_slot {i : Nat} (hfree : ((s.readoutFilled timedOut f.kind).store.slotAt i).state ≠ .free) :
    (s.readoutEnd f timedOut).store.slotAt i = (s.readoutFilled timedOut f.kind).store.slotAt i := by
  obtain ⟨v, ⟨-, hstore, -⟩, -, -, -, hstoreT, -⟩ := s.readoutEnd_after f timedOut
  rw [hstoreT, ← hstore]
  rw [← hstore] at hfree
  exact v.afterReadout_slot hfree f.kind

end

/-! ### A capture's shot, slot and record (R16, R143, R163) -/

theorem State.burstCheck_raised {s : State} (h : s.burstRunning = false) : (State.burstCheck true s).occurred .burstEnded := by
  have hended : State.burstCheck true s =
      (((s.withFc (fun c => { c with burstCount := 0 })).raise .burstEnded).setPenalty false).trackCheck := if_pos (by simp [h])
  rw [hended]
  have hraised := ((s.withFc (fun c => { c with burstCount := 0 })).raise_raised .burstEnded).1
  exact Invariant.holds.trackCheck (v := .occurred .burstEnded) (Invariant.holds.setPenalty (v := .occurred .burstEnded) hraised)

/-- The shot that ends the burst. -/
theorem State.captureReadout_burstEnded {s : State} (hrunning : s.burstRunning = true) (howed : s.fc.owed ≤ 1)
    (hsingle : s.fc.continuous = false) (timedOut : Bool) : (s.captureReadout timedOut).occurred .burstEnded := by
  rw [State.captureReadout_eq, hrunning]
  refine State.burstCheck_raised ?_
  rw [State.burstRunning, (s.captureStored_kept timedOut).1]
  simp [hsingle, howed]

/-- The Filling slot becomes Full. -/
theorem State.captureReadout_slot {s : State} {i : Nat} (h : s.store.firstSlot .filling = some i) (timedOut : Bool) :
    (s.captureReadout timedOut).store.slotAt i = { s.store.slotAt i with
      state := .full, incomplete := (s.store.slotAt i).incomplete || timedOut } := by
  obtain ⟨y, hy, -⟩ := Store.firstSlot_found h
  have hstore : (s.captureReadout timedOut).store = ((s.withFc (fun c => { c with owed := c.owed - 1 })).slotFull timedOut).store := by
    simp [State.captureReadout]
  have hslot := Store.slotAt_onSlot (b := { s.store with remnant := s.store.buf.length }) hy (fun x =>
    { x with state := .full, incomplete := x.incomplete || timedOut })
  rw [hstore, State.slotFull, show (s.withFc (fun c => { c with owed := c.owed - 1 })).store.firstSlot .filling = some i from h]
  dsimp only
  rw [State.storeSettle_slotAt, Store.slotAt_of_getElem? hy]
  exact hslot

theorem State.recordAppend_spec (s : State) (r : CaptureRecord) :
    (s.recordAppend r).rq.queue = s.rq.queue ++ [r] ∧ (s.recordAppend r).occurred .captureStored := by
  have hraised := ((s.withRq (fun q => { q with queue := q.queue ++ [r] })).raise_raised .captureStored).1
  unfold State.recordAppend
  dsimp only
  refine ⟨?_, Invariant.holds.staleRestart (v := .occurred .captureStored) ?_⟩
  · split_ifs <;> rfl
  · split_ifs
    · exact Invariant.holds.raise (v := .occurred .captureStored) hraised
    · exact hraised

theorem State.readPart_timedOut (s : State) (zone slot : Nat) (timedOut : Bool) : (s.readPart zone slot timedOut).timedOut = timedOut := by
  unfold State.readPart
  dsimp only
  split <;> rfl

/-- An open record with both its parts, not withdrawn, is completed and appended. -/
theorem State.recordComplete_appends {s : State} {o : OpenRecord} {sp : StartPart} {ep : EndPart} (ho : s.rq.opened = some o)
    (hsp : o.startPart = some sp) (hep : o.endPart = some ep) (hkept : o.withdrawn = false) (timedOut : Bool) :
    ∃ r, (s.recordComplete timedOut).rq.queue = s.rq.queue ++ [r] ∧ r.capNo = o.capNo ∧ r.slot = o.slot ∧ r.startPart = sp ∧
      r.endPart = ep ∧ r.readPart.timedOut = timedOut ∧ (s.recordComplete timedOut).occurred .captureStored := by
  obtain ⟨r, hr⟩ : ∃ r : CaptureRecord, r = {
      capNo := o.capNo, slot := o.slot, burstIndex := o.burstIndex, mode := o.mode, startPart := sp, endPart := ep,
      readPart := s.readPart sp.afZone o.slot timedOut } := ⟨_, rfl⟩
  have happend : s.recordComplete timedOut = (s.withRq (fun q => { q with opened := none })).recordAppend r := by
    rw [State.recordComplete, ho]
    simp [hsp, hep, hkept, hr]
  obtain ⟨hqueue, hstored⟩ := (s.withRq (fun q => { q with opened := none })).recordAppend_spec r
  rw [happend]
  refine ⟨r, ?_, by rw [hr], by rw [hr], by rw [hr], by rw [hr], by rw [hr]; exact State.readPart_timedOut .., hstored⟩
  exact hqueue

theorem State.captureReadout_record {s : State} {o : OpenRecord} {sp : StartPart} {ep : EndPart} (ho : s.rq.opened = some o)
    (hsp : o.startPart = some sp) (hep : o.endPart = some ep) (hkept : o.withdrawn = false) (timedOut : Bool) :
    ∃ r, (s.captureReadout timedOut).rq.queue = s.rq.queue ++ [r] ∧ r.capNo = o.capNo ∧ r.slot = o.slot ∧ r.startPart = sp ∧
      r.endPart = ep ∧ r.readPart.timedOut = timedOut ∧ (s.captureReadout timedOut).occurred .captureStored := by
  obtain ⟨u, hu⟩ : ∃ u : State, u = (s.withFc (fun c => { c with owed := c.owed - 1 })).slotFull timedOut := ⟨_, rfl⟩
  have hrq : u.rq = s.rq := by rw [hu]; simp
  obtain ⟨r, hqueue, hcap, hslot, hstart, hend, hread, hstored⟩ :=
    State.recordComplete_appends (s := u) (by rw [hrq, ho]) hsp hep hkept timedOut
  have hreadout : s.captureReadout timedOut = State.burstCheck s.burstRunning (u.recordComplete timedOut) := by rw [hu]; rfl
  rw [hrq] at hqueue
  refine ⟨r, ?_, hcap, hslot, hstart, hend, hread, ?_⟩
  · rw [hreadout, (State.burstCheck_frame _ _).2.2.2.2.2.1, hqueue]
  · rw [hreadout]
    exact Invariant.holds.burstCheck (v := .occurred .captureStored) hstored

/-- Settles O33: what the frame's end leaves stands whichever of log 3's orders follows. -/
theorem readoutEndCompletesTheFrame : Obligations.ReadoutEndCompletesTheFrame := by
  refine fun s => ⟨fun hnone => ?ignored, fun f hframe hphase x hx => ?readout⟩
  case ignored =>
    have hignored : s.begin.endReadout false = s.begin := by
      unfold State.endReadout
      split
      · rfl
      · next f hf => exact if_neg (by simp [hnone f hf])
    exact ⟨_, congrArg Host.Outcome.next hignored, onlyChanged_of_begin (onlyChanged_refl _), rfl⟩
  case readout =>
    obtain ⟨i, clock, timedOut⟩ := x
    have hi : (i, timedOut) ∈ [(Instr.frameEndMarker, false), (.readoutTimeout, true)] ∧
        clock = (s.begin.reach (if timedOut then f.limit else 0)).clock := by
      simp only [List.mem_cons, Prod.mk.injEq, List.not_mem_nil, or_false] at hx
      rcases hx with ⟨rfl, rfl, rfl⟩ | ⟨rfl, rfl, rfl⟩ <;> simp [State.begin]
    refine completes_readout hframe hphase hi.1 fun q1 q2 => ?_
    rw [hi.2]
    obtain ⟨u, hu⟩ : ∃ u : State, u = s.begin.reach (if timedOut then f.limit else 0) := ⟨_, rfl⟩
    rw [← hu]
    have hfc : u.fc = s.fc := by rw [hu]; rfl
    have hst : u.st = s.st := by rw [hu]; rfl
    have hrq : u.rq = s.rq := by rw [hu]; rfl
    have hstore : u.store = s.store := by rw [hu]; rfl
    have hsettings : u.settings = s.settings := by rw [hu]; rfl
    obtain ⟨hgone, howed, hqueue⟩ := u.readoutEnd_kept f timedOut
    obtain ⟨hfcW, hclockW, hsettingsW, -, -, -, -, hstoreW, hrqW, -⟩ := u.readoutSwapped_kept timedOut
    refine ⟨by simp, hgone, ?fseq, ?timed, fun g hfip => ?record, fun hkind => ?live, fun hkind => ⟨?owed, ?burst, ?slot, ?append, ?reopen⟩⟩
    case fseq => simp [hfc]
    case timed =>
      rintro rfl
      exact u.readoutEnd_partial f
    case record =>
      obtain ⟨hnone, hcompleted, hactive, hlast⟩ := State.readoutEnd_st (s := u) (by rw [hst, hfip]) f timedOut
      refine ⟨hnone, hcompleted.trans (congrArg Statistics.active hst), hactive.trans (congrArg Statistics.completed hst), _, hlast, ?_⟩
      have hformed := u.statRecord_formed g timedOut
      unfold State.recordFormed State.settingNat State.setting at hformed ⊢
      rwa [hst, hsettings] at hformed
    case live =>
      rw [hkind] at howed hqueue
      exact ⟨howed.trans (by rw [State.readoutFilled, hfcW, hfc]), hqueue.trans (by rw [State.readoutFilled, hrqW, hrq])⟩
    case owed =>
      obtain ⟨n, hfilled⟩ := u.captureFilled_fc timedOut
      rw [hkind] at howed
      exact howed.trans (by rw [hfilled, hfc])
    case burst =>
      intro hrunning hlast hsingle
      have hended := State.captureReadout_burstEnded (s := u.readoutSwapped timedOut) (by rw [State.burstRunning, hfcW, hfc]; exact hrunning)
        (by rw [hfcW, hfc]; exact hlast) (by rw [hfcW, hfc]; exact hsingle) timedOut
      exact Invariant.holds.frameEnded (v := .occurred .burstEnded) (by rw [hkind]; exact hended)
    case slot =>
      intro i hi
      have hfull : (u.readoutFilled timedOut f.kind).store.slotAt i = { s.store.slotAt i with
          state := .full, incomplete := (s.store.slotAt i).incomplete || timedOut } := by
        have hslot := State.captureReadout_slot (s := u.readoutSwapped timedOut) (by rw [hstoreW, hstore]; exact hi) timedOut
        rw [hstoreW, hstore] at hslot
        rw [hkind]
        exact hslot
      have hkept : (u.readoutEnd f timedOut).store.slotAt i = _ := (State.readoutEnd_slot (by rw [hfull]; simp)).trans hfull
      exact ⟨congrArg Slot.state hkept, (congrArg Slot.bytes hkept).trans rfl, congrArg Slot.incomplete hkept⟩
    case append =>
      intro o sp ep ho hsp hep hwithdrawn
      obtain ⟨r, happended, hcap, hslot, hstart, hend, hread, hstored⟩ :=
        State.captureReadout_record (s := u.readoutSwapped timedOut) (by rw [hrqW, hrq, ho]) hsp hep hwithdrawn timedOut
      rw [hrqW, hrq] at happended
      rw [hkind] at hqueue
      exact ⟨r, hqueue.trans happended, hcap, hslot, hstart, hend, hread,
        Invariant.holds.frameEnded (v := .occurred .captureStored) (by rw [hkind]; exact hstored)⟩
    case reopen =>
      intro c hcap hmode
      obtain ⟨hstate, hnone, hshutter, hsettle⟩ := State.readoutEnd_reopens hkind (by rw [hfc]; exact hcap) hmode timedOut
      rw [State.settingNat, State.setting, hsettings] at hsettle
      exact ⟨hstate, hnone, hshutter, hsettle.trans (by simp [State.settingNat, State.setting])⟩

end Sys2Proof.Machine
end

section
/-! The end of a frame's exposure, and what waited under the capture hold (R11, R22, R23, R36, R75). -/

namespace Sys2Proof.Machine

/-! ### The pending targets -/

/-- The pending targets of the three actuators. -/
def Lens.waiting (l : Lens) : Option PendingMove × Option PendingMove × Option PendingMove :=
  (l.zoom.pending, l.focus.pending, l.iris.pending)

@[simp] theorem State.drive_waiting (s : State) (which : Actuator) (x : Int) (o : Origin) (n : Nat) : (s.drive which x o n).1.lens.waiting = s.lens.waiting := by
  simp only [State.drive]; (repeat' split) <;> cases which <;> simp [Lens.waiting, State.setAct, State.act, ActRecord.rest]
@[simp] theorem State.formPlans_waiting (s : State) (x y : Int) : (s.formPlans x y).lens.waiting = s.lens.waiting := rfl
@[simp] theorem State.afDecide_waiting (s : State) : s.afDecide.1.lens.waiting = s.lens.waiting := by
  simp only [State.afDecide]; split <;> rfl

/-! Without the capture hold no request waits (R23, R74). -/

section
variable {s : State} (h : s.fc.state ≠ .arming ∧ s.fc.state ≠ .exposing)
include h

@[simp] theorem State.give_waiting (which : Actuator) (x : Int) (o : Origin) (n : Nat) : (s.give which x o n).1.lens.waiting = s.lens.waiting := by
  rw [State.give_of_free (by simp [State.hold, h])]; exact State.drive_waiting ..
@[simp] theorem State.giveIris_waiting (x : Int) (o : Origin) : (s.giveIris x o).lens.waiting = s.lens.waiting := by
  simp [State.giveIris, h]
@[simp] theorem State.giveFocus_waiting (x : Int) (o : Origin) : (s.giveFocus x o).1.lens.waiting = s.lens.waiting := by
  rw [(s.giveFocus_lens x o).1]; exact State.give_waiting h ..
@[simp] theorem State.requestIris_waiting : s.requestIris.lens.waiting = s.lens.waiting := by
  simp only [State.requestIris]; (repeat' split) <;> simp [h]
@[simp] theorem State.plannerRun_waiting : s.plannerRun.lens.waiting = s.lens.waiting := by
  simp only [State.plannerRun]; (repeat' split) <;> simp [h]
@[simp] theorem State.creditWatch_waiting (b : Bool) : (s.creditWatch b).lens.waiting = s.lens.waiting := by
  simp only [State.creditWatch]; (repeat' split) <;> simp [h]
@[simp] theorem State.setPenalty_waiting (b : Bool) : (s.setPenalty b).lens.waiting = s.lens.waiting := by
  simp only [State.setPenalty]; (repeat' split) <;> simp [h]
@[simp] theorem State.gradeEnd_waiting : s.gradeEnd.lens.waiting = s.lens.waiting := by
  simp only [State.gradeEnd]; (repeat' split) <;> simp [h]
@[simp] theorem State.stabSet_waiting (x : StabState) : (s.stabSet x).lens.waiting = s.lens.waiting := by
  simp only [State.stabSet]; (repeat' split) <;> simp [h]
@[simp] theorem State.derive_waiting : s.derive.lens.waiting = s.lens.waiting := by
  simp only [State.derive]; (repeat' split) <;> simp [h]
@[simp] theorem State.afAdvance_waiting (n : Nat) : (State.afAdvance n s).lens.waiting = s.lens.waiting := by
  induction n generalizing s with
  | zero => rfl
  | succ n ih =>
    have hnext {u : State} (hu : u.fc = s.fc) (hw : u.lens.waiting = s.lens.waiting) (w : AfWait) (x : Int) :
        (if ((u.withAf (fun a => { a with wait := w })).giveFocus x .search).2 then
          State.afAdvance n ((u.withAf (fun a => { a with wait := w })).giveFocus x .search).1
          else ((u.withAf (fun a => { a with wait := w })).giveFocus x .search).1).lens.waiting = s.lens.waiting := by
      have hgive : ((u.withAf (fun a => { a with wait := w })).giveFocus x .search).1.lens.waiting = u.lens.waiting :=
        State.giveFocus_waiting (s := u.withAf (fun a => { a with wait := w })) (by simpa [hu] using h) ..
      split
      · rw [ih (by simp [hu, h]), hgive, hw]
      · rw [hgive, hw]
    unfold State.afAdvance
    split
    · rfl
    · exact hnext rfl rfl _ _
    · exact hnext (u := s.afDecide.1) (by unfold State.afDecide; split <;> rfl) s.afDecide_waiting _ _
    · rfl
    · rfl
    · rfl
    · rfl
    · rfl
@[simp] theorem State.afAbort_waiting : s.afAbort.lens.waiting = s.lens.waiting := by
  simp only [State.afAbort]; (repeat' split)
  · rw [State.giveFocus_waiting (s := s.withAf FocusSearch.giveUp) h]; rfl
  · rfl
  · rfl
@[simp] theorem State.afFocusDone_waiting (o : Origin) : (s.afFocusDone o).lens.waiting = s.lens.waiting := by
  simp only [State.afFocusDone]; (repeat' split) <;> simp [h]
@[simp] theorem State.requestFocus_waiting (x : Int) (o : Origin) : (s.requestFocus x o).lens.waiting = s.lens.waiting := by
  simp only [State.requestFocus]; (repeat' split) <;> simp [h]
@[simp] theorem State.trackingPoint_waiting : s.trackingPoint.lens.waiting = s.lens.waiting := by
  simp only [State.trackingPoint, State.trackIris, State.trackFocus]; (repeat' split) <;> simp [h]
@[simp] theorem State.zoomDone_waiting (o : Origin) : (s.zoomDone o).lens.waiting = s.lens.waiting := by
  simp only [State.zoomDone]; (repeat' split) <;> simp [h]
@[simp] theorem State.requestZoom_waiting (x : Int) (o : Origin) (n : Nat) : (s.requestZoom x o n).lens.waiting = s.lens.waiting := by
  simp only [State.requestZoom]; (repeat' split) <;> simp [h]

end

end Sys2Proof.Machine
end

section
/-! The exposure ends: the readout begins, the pending moves start, the grade goes to the planner (R11, R22, R23, R36, R53, R75, R119). -/

namespace Sys2Proof.Machine

/-! ### The pending moves start (R75) -/

theorem State.hold_of_reading {s : State} (h : s.fc.state = .reading) : s.hold = false := by simp [State.hold, h]

/-- A pending move given anew without the hold. -/
theorem State.give_movesTo {s : State} (h : s.hold = false) (which : Actuator) (m : PendingMove) (n : Nat) :
    ((s.give which m.target m.origin n).1.act which).movesTo m (s.clampTarget which m.target) ∧
    ((s.give which m.target m.origin n).1.act which).speed = n := by
  obtain ⟨hpos, htarget, horigin, hspeed, -, hflight, -⟩ := s.drive_act which (s.clampTarget which m.target) m.origin n
  rw [State.give_of_free h]
  exact ⟨⟨htarget, horigin, by rw [hflight, hpos]⟩, hspeed⟩

@[simp] theorem State.requestFocus_limits (s : State) (x : Int) (o : Origin) :
    (s.requestFocus x o).lens.pmax = s.lens.pmax := by
  unfold State.requestFocus
  dsimp only
  split <;> simp

@[simp] theorem State.requestZoom_limits (s : State) (x : Int) (o : Origin) (n : Nat) :
    (s.requestZoom x o n).lens.pmax = s.lens.pmax := by
  unfold State.requestZoom
  dsimp only
  split <;> simp

/-- A focus request that does not complete at once, or finds no search, moves the focus alone. -/
theorem State.requestFocus_of_quiet {s : State} {x : Int} {o : Origin} (h : s.af.state.searching = true → (s.giveFocus x o).2 = false) :
    s.requestFocus x o = (s.giveFocus x o).1 := by
  unfold State.requestFocus
  dsimp only
  split
  · next hdone =>
    refine if_neg ?_
    rintro ⟨hsearching, -⟩
    rw [h (by simpa using hsearching)] at hdone
    exact absurd hdone (by decide)
  · rfl

theorem State.startPending_of_none {s : State} {which : Actuator} (h : (s.act which).pending = none) : s.startPending which = s := by
  rw [State.startPending, h]

section
variable {s : State} {m : PendingMove}

theorem State.startPending_zoom (h : s.lens.zoom.pending = some m) : s.startPending .zoom =
    (s.setAct .zoom { s.lens.zoom with pending := none }).requestZoom m.target m.origin m.speed := by
  rw [State.startPending, show (s.act .zoom).pending = some m from h]
  rfl

theorem State.startPending_focus (h : s.lens.focus.pending = some m) : s.startPending .focus =
    (s.setAct .focus { s.lens.focus with pending := none }).requestFocus m.target m.origin := by
  rw [State.startPending, show (s.act .focus).pending = some m from h]
  rfl

theorem State.startPending_iris (h : s.lens.iris.pending = some m) : s.startPending .iris =
    (s.setAct .iris { s.lens.iris with pending := none }).giveIris m.target m.origin := by
  rw [State.startPending, show (s.act .iris).pending = some m from h]
  rfl

end

/-- Positions and the iris's limit stay. -/
@[simp] theorem State.startPending_pos (s : State) (which : Actuator) : (s.startPending which).lens.zoom.pos = s.lens.zoom.pos ∧
    (s.startPending which).lens.focus.pos = s.lens.focus.pos ∧ (s.startPending which).lens.iris.pos = s.lens.iris.pos ∧
    (s.startPending which).lens.pmax = s.lens.pmax := by
  cases hpending : (s.act which).pending with
  | none => simp [State.startPending_of_none hpending]
  | some m =>
    cases which with
    | zoom => rw [State.startPending_zoom hpending]; simp [State.setAct]
    | focus => rw [State.startPending_focus hpending]; simp [State.setAct]
    | iris => rw [State.startPending_iris hpending]; simp [State.setAct, State.giveIris]

@[simp] theorem State.startPending_focusZoom (s : State) : (s.startPending .focus).lens.zoom = s.lens.zoom := by
  cases hm : s.lens.focus.pending with
  | none => rw [State.startPending_of_none (which := .focus) hm]
  | some m => rw [State.startPending_focus hm, State.requestFocus_zoom]; rfl

@[simp] theorem State.startPending_irisMotors (s : State) : (s.startPending .iris).lens.zoom = s.lens.zoom ∧
    (s.startPending .iris).lens.focus = s.lens.focus := by
  cases hm : s.lens.iris.pending with
  | none => simp [State.startPending_of_none (which := .iris) hm]
  | some m => rw [State.startPending_iris hm]; simp [State.setAct]

/-- A search is given up or goes on by its own focus move alone. -/
theorem State.requestZoom_quiet {s : State} (h : s.af.state.searching = false) (x : Int) (o : Origin) (n : Nat) :
    (s.requestZoom x o n).af.state.searching = false := by
  have hgive : (s.give .zoom x o n).1.af = s.af := by simp
  have hpoint (t : State) (ht : t.af = s.af) : t.trackingPoint.af.state.searching = false := by
    rcases t.trackingPoint_af with hkept | ⟨hsearching, -⟩
    · rw [hkept, ht, h]
    · rw [ht, h] at hsearching
      exact absurd hsearching (by decide)
  unfold State.requestZoom State.zoomDone
  dsimp only
  split
  · split
    · exact hpoint _ (by simp)
    · exact hpoint _ hgive
  · rw [hgive, h]

theorem State.startPending_quiet {s : State} (h : s.af.state.searching = false) : (s.startPending .zoom).af.state.searching = false := by
  cases hm : s.lens.zoom.pending with
  | none => rw [State.startPending_of_none (which := .zoom) hm, h]
  | some m =>
    rw [State.startPending_zoom hm]
    exact State.requestZoom_quiet (s := s.setAct .zoom { s.lens.zoom with pending := none }) h ..

section
variable {s : State} (h : s.fc.state = .reading)
include h

theorem State.startPending_waiting : (s.startPending .zoom).lens.waiting = (none, s.lens.focus.pending, s.lens.iris.pending) ∧
    (s.startPending .focus).lens.waiting = (s.lens.zoom.pending, none, s.lens.iris.pending) ∧
    (s.startPending .iris).lens.waiting = (s.lens.zoom.pending, s.lens.focus.pending, none) := by
  refine ⟨?_, ?_, ?_⟩
  · cases hm : s.lens.zoom.pending with
    | none => rw [State.startPending_of_none (which := .zoom) hm, Lens.waiting, hm]
    | some m =>
      rw [State.startPending_zoom hm, State.requestZoom_waiting (by simp [h])]
      rfl
  · cases hm : s.lens.focus.pending with
    | none => rw [State.startPending_of_none (which := .focus) hm, Lens.waiting, hm]
    | some m =>
      rw [State.startPending_focus hm, State.requestFocus_waiting (by simp [h])]
      rfl
  · cases hm : s.lens.iris.pending with
    | none => rw [State.startPending_of_none (which := .iris) hm, Lens.waiting, hm]
    | some m =>
      rw [State.startPending_iris hm, State.giveIris_waiting (by simp [h])]
      rfl

/-- No target is left pending. -/
theorem State.startAllPending_waiting : s.startAllPending.lens.waiting = (none, none, none) := by
  obtain ⟨u, hu⟩ : ∃ u : State, u = s.startPending .zoom := ⟨_, rfl⟩
  obtain ⟨v, hv⟩ : ∃ v : State, v = u.startPending .focus := ⟨_, rfl⟩
  have hzoom := (State.startPending_waiting h).1
  have hfocus := (State.startPending_waiting (s := u) (by simpa [hu] using h)).2.1
  have hiris := (State.startPending_waiting (s := v) (by simpa [hv, hu] using h)).2.2
  rw [← hu, Lens.waiting] at hzoom
  rw [← hv, Lens.waiting] at hfocus
  simp only [Prod.mk.injEq] at hzoom hfocus
  rw [State.startAllPending, ← hu, ← hv, hiris, hfocus.1, hfocus.2.1, hzoom.1]

/-- Each pending move starts, clamped anew. -/
theorem State.startAllPending_moves :
    (∀ m, s.lens.zoom.pending = some m → s.startAllPending.lens.zoom.movesTo m (clamp s.loader.table.zwide 2048 m.target) ∧
      s.startAllPending.lens.zoom.speed = m.speed) ∧
    (∀ m, s.lens.focus.pending = some m → (s.af.state.searching = true →
      s.lens.zoom.pending = none ∧ s.lens.focus.pos ≠ some (clamp 0 1023 m.target)) →
      s.startAllPending.lens.focus.movesTo m (clamp 0 1023 m.target)) ∧
    (∀ m, s.lens.iris.pending = some m → s.startAllPending.lens.iris.movesTo m (clamp 0 s.lens.pmax m.target)) := by
  obtain ⟨u, hu⟩ : ∃ u : State, u = s.startPending .zoom := ⟨_, rfl⟩
  obtain ⟨v, hv⟩ : ∃ v : State, v = u.startPending .focus := ⟨_, rfl⟩
  have hreadingU : u.fc.state = .reading := by simpa [hu] using h
  have hreadingV : v.fc.state = .reading := by simpa [hv, hu] using h
  obtain ⟨hzoomP, -⟩ := State.startPending_waiting h
  obtain ⟨-, hfocusP, -⟩ := State.startPending_waiting hreadingU
  rw [← hu, Lens.waiting] at hzoomP
  rw [← hv, Lens.waiting] at hfocusP
  simp only [Prod.mk.injEq] at hzoomP hfocusP
  have hzoomKept : s.startAllPending.lens.zoom = u.lens.zoom := by
    rw [State.startAllPending, ← hu, ← hv, v.startPending_irisMotors.1, hv]
    exact u.startPending_focusZoom
  have hfocusKept : s.startAllPending.lens.focus = v.lens.focus := by
    rw [State.startAllPending, ← hu, ← hv]
    exact v.startPending_irisMotors.2
  refine ⟨fun m hm => ?zoom, fun m hm hforeign => ?focus, fun m hm => ?iris⟩
  case zoom =>
    have hmoves := State.give_movesTo (s := s.setAct .zoom { s.lens.zoom with pending := none }) (State.hold_of_reading (by simpa using h)) .zoom m m.speed
    rw [hzoomKept, hu, State.startPending_zoom hm, State.requestZoom_zoom]
    exact hmoves
  case focus =>
    have hmU : u.lens.focus.pending = some m := hzoomP.2.1.trans hm
    have hmoves := State.give_movesTo (s := u.setAct .focus { u.lens.focus with pending := none }) (State.hold_of_reading (by simpa using hreadingU)) .focus m 0
    have hquiet : (u.setAct .focus { u.lens.focus with pending := none }).requestFocus m.target m.origin =
        ((u.setAct .focus { u.lens.focus with pending := none }).giveFocus m.target m.origin).1 := by
      refine State.requestFocus_of_quiet fun hsearching => ?_
      have hsearchingU : u.af.state.searching = true := by simpa using hsearching
      cases hs : s.af.state.searching with
      | false =>
        rw [hu, State.startPending_quiet hs] at hsearchingU
        exact absurd hsearchingU (by decide)
      | true =>
        obtain ⟨-, hpos⟩ := hforeign hs
        have hposU : u.lens.focus.pos = s.lens.focus.pos := by simp [hu]
        obtain ⟨-, -, -, -, -, -, hdone⟩ := (u.setAct .focus { u.lens.focus with pending := none }).drive_act .focus (clamp 0 1023 m.target) m.origin 0
        rw [(State.giveFocus_lens _ _ _).2, State.give_of_free (State.hold_of_reading (by simpa using hreadingU))]
        refine hdone.trans (decide_eq_false ?_)
        rw [← hposU] at hpos
        exact hpos
    rw [hfocusKept, hv, State.startPending_focus hmU, hquiet, (State.giveFocus_lens _ _ _).1]
    exact hmoves.1
  case iris =>
    have hmV : v.lens.iris.pending = some m := hfocusP.2.2.trans (hzoomP.2.2.trans hm)
    have hmoves := State.give_movesTo (s := v.setAct .iris { v.lens.iris with pending := none }) (State.hold_of_reading (by simpa using hreadingV)) .iris m 0
    rw [State.startAllPending, ← hu, ← hv, State.startPending_iris hmV]
    have hpmax : v.lens.pmax = s.lens.pmax := by simp [hv, hu]
    rw [← hpmax]
    exact hmoves.1

end

/-! ### The planner's run asks for the iris after the pending moves (R53, R59, log 22) -/

/-- An actuator on its way to its target or there. -/
def ActRecord.aimed (r : ActRecord) : Prop := ∃ x, r.target = some x ∧ r.inFlight = decide (r.pos ≠ some x)

/-- In READING a run of the planner leaves the iris on its way. -/
theorem State.plannerRun_aimed {s : State} (h : s.fc.state = .reading) (haimed : s.lens.iris.aimed) : s.plannerRun.lens.iris.aimed := by
  unfold State.plannerRun State.requestIris
  split
  · exact haimed
  · next amin tlimit _ =>
    split
    · obtain ⟨u, hu⟩ : ∃ u : State, u = s.formPlans amin tlimit := ⟨_, rfl⟩
      rw [← hu]
      obtain ⟨hpos, htarget, -, -, -, hflight, -⟩ := u.drive_act .iris (u.clampTarget .iris u.ep.capPlan.p) .planner 0
      rw [State.giveIris, State.give_of_free (State.hold_of_reading (by rw [hu]; exact h))]
      exact ⟨_, htarget, by rw [← hpos] at hflight; exact hflight⟩
    · exact haimed

/-- The run's p is the iris's target, the move in flight unless it stands there. -/
theorem State.plannerRun_iris_asked {s : State} (h : s.fc.state = .reading) (hready : s.lens.state = .ready) (hgiven : s.ep.given.isSome)
    (haimed : s.lens.iris.aimed) (hp : 0 ≤ s.plannerRun.ep.capPlan.p) : s.plannerRun.lens.iris.target = some s.plannerRun.ep.capPlan.p ∧
      s.plannerRun.lens.iris.inFlight = decide (s.lens.iris.pos ≠ some s.plannerRun.ep.capPlan.p) := by
  obtain ⟨⟨amin, tlimit⟩, hx⟩ := Option.isSome_iff_exists.1 hgiven
  obtain ⟨-, hquiet, hasked⟩ := State.plannerRun_made hx
  by_cases htarget : s.lens.iris.target = some s.plannerRun.ep.capPlan.p
  · obtain ⟨x, hxTarget, hflight⟩ := haimed
    obtain rfl : x = s.plannerRun.ep.capPlan.p := Option.some.inj (hxTarget.symm.trans htarget)
    rw [(hquiet (.inr htarget)).1]
    exact ⟨htarget, hflight⟩
  · obtain ⟨hiris, -, -, hflight⟩ := (hasked hready htarget hp).2 (State.hold_of_reading h)
    exact ⟨hiris, hflight⟩

theorem State.creditCondition_congr {s t : State} (h : t.stab = s.stab) : t.creditCondition = s.creditCondition := by
  rw [State.creditCondition, State.creditCondition, h]

/-- The grade handed on: the penalty flag's change runs the planner (R53). -/
theorem State.gradeEnd_cases (s : State) : ∃ u : State, u.lens = s.lens ∧ u.ep.given = s.ep.given ∧ u.fc = s.fc ∧
    u.creditCondition = s.creditCondition ∧
    (s.gradeEnd = u ∧ s.gradeEnd.ep.penalty = s.ep.penalty ∨ s.gradeEnd = u.plannerRun ∧ s.gradeEnd.ep.penalty ≠ s.ep.penalty) := by
  have hset (g : Option Nat) (v : Bool) : ∃ u : State, u.lens = s.lens ∧ u.ep.given = s.ep.given ∧ u.fc = s.fc ∧
      u.creditCondition = s.creditCondition ∧
      ((s.withStab (fun b => { b with grade := g })).setPenalty v = u ∧
          ((s.withStab (fun b => { b with grade := g })).setPenalty v).ep.penalty = s.ep.penalty ∨
        (s.withStab (fun b => { b with grade := g })).setPenalty v = u.plannerRun ∧
          ((s.withStab (fun b => { b with grade := g })).setPenalty v).ep.penalty ≠ s.ep.penalty) := by
    by_cases hv : s.ep.penalty = v
    · have hsame : (s.withStab (fun b => { b with grade := g })).setPenalty v = s.withStab (fun b => { b with grade := g }) := if_pos hv
      exact ⟨s.withStab (fun b => { b with grade := g }), rfl, rfl, rfl, rfl, .inl (by rw [hsame]; exact ⟨rfl, rfl⟩)⟩
    · have hrun : (s.withStab (fun b => { b with grade := g })).setPenalty v =
          ({ s.withStab (fun b => { b with grade := g }) with ep := { s.ep with penalty := v } } : State).plannerRun := if_neg hv
      refine ⟨{ s.withStab (fun b => { b with grade := g }) with ep := { s.ep with penalty := v } }, rfl, rfl, rfl, rfl, .inr ?_⟩
      rw [hrun]
      exact ⟨rfl, by simpa using Ne.symm hv⟩
  unfold State.gradeEnd
  split
  · exact hset s.stab.grade false
  · exact hset _ _

/-- The Stabilizer's state derived: the credit condition's change runs the planner (R53). -/
theorem State.derive_cases (s : State) : ∃ u : State, u.lens = s.lens ∧ u.ep = s.ep ∧ u.fc = s.fc ∧
    s.derive.creditCondition = u.creditCondition ∧
    s.derive = if u.creditCondition = s.creditCondition then u else u.plannerRun := by
  have hsame : ∃ u : State, u.lens = s.lens ∧ u.ep = s.ep ∧ u.fc = s.fc ∧ s.creditCondition = u.creditCondition ∧
      s = if u.creditCondition = s.creditCondition then u else u.plannerRun := ⟨s, rfl, rfl, rfl, rfl, (if_pos rfl).symm⟩
  have hwatch (u : State) : (State.creditWatch s.creditCondition u).creditCondition = u.creditCondition := by
    unfold State.creditWatch
    split
    · rfl
    · exact State.creditCondition_congr (by simp)
  unfold State.derive
  split
  · exact hsame
  · unfold State.stabSet
    split
    · exact hsame
    · exact ⟨_, by simp, by simp, by simp, hwatch _, rfl⟩

/-- The grade and the state derived after it: the lens stands as it was, or the last run has asked for its p. -/
theorem State.graded_spec {s t : State} (h : s.fc.state = .reading) (ht : t = s.gradeEnd.derive) :
    (t.ep.penalty = s.ep.penalty → t.creditCondition = s.creditCondition → t.lens = s.lens) ∧
    (t.ep.penalty ≠ s.ep.penalty ∨ t.creditCondition ≠ s.creditCondition → s.lens.state = .ready → s.ep.given.isSome →
      s.lens.iris.aimed → 0 ≤ t.ep.capPlan.p → t.lens.iris.target = some t.ep.capPlan.p ∧
        t.lens.iris.inFlight = decide (s.lens.iris.pos ≠ some t.ep.capPlan.p)) := by
  obtain ⟨u, hlensU, hgivenU, hfcU, hcreditU, hgrade⟩ := s.gradeEnd_cases
  obtain ⟨w, hlensW, hepW, hfcW, hcreditT, hderive⟩ := s.gradeEnd.derive_cases
  have hpenalty : t.ep.penalty = s.gradeEnd.ep.penalty := by rw [ht]; simp
  have hcreditG : s.gradeEnd.creditCondition = s.creditCondition := by
    rcases hgrade with ⟨hsame, -⟩ | ⟨hrun, -⟩
    · rw [hsame, hcreditU]
    · rw [hrun, ← hcreditU]
      exact State.creditCondition_congr (by simp)
  rw [← ht] at hcreditT hderive
  rw [hcreditG] at hderive
  refine ⟨fun hkept hcredit => ?_, fun hchanged hready hgiven haimed hp => ?_⟩
  · obtain ⟨hsame, -⟩ := hgrade.resolve_right fun hrun => hrun.2 (hpenalty.symm.trans hkept)
    rw [hderive, if_pos (hcreditT.symm.trans hcredit), hlensW, hsame, hlensU]
  · have haimedU : u.lens.iris.aimed := by rw [hlensU]; exact haimed
    by_cases hcredit : t.creditCondition = s.creditCondition
    · obtain ⟨hrun, -⟩ := hgrade.resolve_left fun hsame => by
        rcases hchanged with hchanged | hchanged
        · exact hchanged (hpenalty.trans hsame.2)
        · exact hchanged hcredit
      rw [if_pos (hcreditT.symm.trans hcredit)] at hderive
      have hep : t.ep = u.plannerRun.ep := by rw [hderive, hepW, hrun]
      have hlens : t.lens = u.plannerRun.lens := by rw [hderive, hlensW, hrun]
      rw [hep] at hp ⊢
      rw [hlens, ← hlensU]
      exact State.plannerRun_iris_asked (by rw [hfcU, h]) (by rw [hlensU, hready]) (by rw [hgivenU]; exact hgiven) haimedU hp
    · rw [if_neg (fun hsame => hcredit (hcreditT.trans hsame))] at hderive
      have haimedG : s.gradeEnd.lens.iris.aimed ∧ s.gradeEnd.lens.iris.pos = s.lens.iris.pos ∧ s.gradeEnd.ep.given = s.ep.given := by
        rcases hgrade with ⟨hsame, -⟩ | ⟨hrun, -⟩
        · rw [hsame, hlensU, hgivenU]
          exact ⟨haimed, rfl, rfl⟩
        · rw [hrun]
          exact ⟨State.plannerRun_aimed (by rw [hfcU, h]) haimedU, by simp [hlensU], by simp [hgivenU]⟩
      obtain ⟨haimedG, hposG, hgivenG⟩ := haimedG
      rw [hderive] at hp ⊢
      rw [← hposG, ← hlensW]
      exact State.plannerRun_iris_asked (by simpa [hfcW] using h) (by simpa [hlensW] using hready) (by rw [hepW, hgivenG]; exact hgiven)
        (by rw [hlensW]; exact haimedG) hp

end Sys2Proof.Machine
end

section
/-! The exposure ends of live frames and captures (R9, R11, R22, R23, R36, R162). -/

namespace Sys2Proof.Machine

theorem State.dueFrame_of_exposing {s : State} {f : InputFrame} (hframe : s.fc.frame = some f) (hphase : f.phase = .exposing) {kind : FrameKind}
    (hkind : f.kind = kind) : s.dueFrame kind .exposing = some f.limit := by
  rw [State.dueFrame, hframe]
  exact if_pos ⟨hkind, hphase⟩

@[simp] theorem State.startAllPending_pos (s : State) : s.startAllPending.lens.zoom.pos = s.lens.zoom.pos ∧
    s.startAllPending.lens.focus.pos = s.lens.focus.pos ∧ s.startAllPending.lens.iris.pos = s.lens.iris.pos := by
  simp [State.startAllPending]

/-! ### A capture's exposure end before the pending moves start -/

/-- Frame Control in READING (R11, R22, R23). -/
def State.readingBegun (s : State) : State :=
  s.withFc (fun c => { c with
    state := .reading,
    shutter := match c.cap.map Capture.mode with
      | some .burstHigh => c.shutter
      | _ => .closed,
    frame := some { kind := .capture, phase := .reading, limit := s.clock + ms (s.settingNat ixReadoutLimit) } })

/-- READING, with the pulse, the span and the open record brought to the exposure's end (R22, R36, R162). -/
def State.exposureEnded (s : State) : State := s.readingBegun.pulseEnd.statEndSpan.recordEnd

theorem State.captureEnd_eq (s : State) : s.captureEnd = s.exposureEnded.startAllPending.gradeEnd.derive := rfl

theorem State.readingBegun_shutter {s : State} {c : Capture} (h : s.fc.cap = some c) :
    s.readingBegun.fc.shutter = if c.mode = .burstHigh then s.fc.shutter else .closed := by
  rw [State.readingBegun, State.withFc, h]
  cases hmode : c.mode <;> simp [hmode]

theorem State.exposureEnded_kept (s : State) : s.exposureEnded.fc = s.readingBegun.fc ∧ s.exposureEnded.lens = s.lens ∧
    s.exposureEnded.af = s.af ∧ s.exposureEnded.ep = s.ep ∧ s.exposureEnded.stab = s.stab ∧ s.exposureEnded.loader = s.loader ∧
    s.exposureEnded.clock = s.clock := by
  simp [State.exposureEnded, State.readingBegun]

theorem State.exposureEnded_fip {s : State} {x : FrameInProgress} (h : s.st.fip = some x) :
    s.exposureEnded.st.fip = some { x with spanOpen := false } := by
  simp [State.exposureEnded, State.statEndSpan, State.onFrame, State.readingBegun, h]

theorem State.recordEnd_opened {s : State} {o : OpenRecord} (h : s.rq.opened = some o) : s.recordEnd.rq.opened = some { o with
    phase := .reading, endPart := some { stamp := s.timeBase, residual := s.stab.residual } } :=
  congrArg (Option.map _) h

theorem State.exposureEnded_opened {s : State} {o : OpenRecord} (h : s.rq.opened = some o) : s.exposureEnded.rq.opened = some { o with
    phase := .reading, endPart := some { stamp := s.timeBase, residual := s.stab.residual } } := by
  have hopened := State.recordEnd_opened (s := s.readingBegun.pulseEnd.statEndSpan) (o := o) (by simpa [State.readingBegun] using h)
  rw [State.timeBase] at hopened ⊢
  rw [State.exposureEnded, hopened]
  simp [State.readingBegun]

theorem State.exposureEnded_pulse {s : State} {c : Capture} (hcap : s.fc.cap = some c) (hmode : c.mode = .burstHigh) :
    Output.triggerEnd ∈ s.exposureEnded.outs := by
  have hhigh : s.fc.cap.map Capture.mode = some .burstHigh := by rw [hcap, ← hmode]; rfl
  have hpulse : s.readingBegun.pulseEnd = s.readingBegun.put .triggerEnd := if_pos hhigh
  simp [State.exposureEnded, hpulse]

/-- The grade of the residuals is handed on. -/
theorem State.gradeEnd_grade {s : State} {y : Residual} (h : s.stab.residual = some y) : s.gradeEnd.stab.grade = some y.grade := by
  rw [State.gradeEnd, h]
  simp

theorem Stabilizer.residual_of_clear {b : Stabilizer} (h : b.resFlag = false) : b.residual = none := if_neg (by simp [h])

theorem Stabilizer.residual_of_set {b : Stabilizer} (h : b.resFlag = true) :
    b.residual = some { rx := b.rx, ry := b.ry, grade := gradeOf (max b.rx b.ry) } := if_pos h

/-- Settles O29: a capture's effects in their order, each keeping what the earlier ones brought. -/
theorem exposureEndBeginsTheReadout : Obligations.ExposureEndBeginsTheReadout := by
  refine fun s f hframe hphase => ⟨fun hkind => ?live, fun hkind => ?capture⟩
  case live =>
    change completes (execLiveExposureEnd s) _
    refine completes_timed (State.dueFrame_of_exposing hframe hphase hkind) ?_
    obtain ⟨u, hu⟩ : ∃ u : State, u = s.begin.reach f.limit := ⟨_, rfl⟩
    have hframeU : u.fc.frame = some f := by rw [hu]; exact hframe
    have hchanged : onlyChanged [.frames, .statistics] u u.liveEnd := by
      refine ⟨by simp, by simp, fun y hy => ?_⟩
      cases y <;> simp [Part.same, State.dramByte] at hy ⊢
    rw [← hu]
    refine ⟨by simp [hu, State.begin], onlyChanged_of_reach (by rw [← hu]; exact hchanged), ?_, fun x hx => ?_⟩
    · have hfc : u.liveEnd.fc = { u.fc with frame := u.fc.frame.map (fun f =>
          { f with phase := .reading, limit := u.clock + ms (u.settingNat ixReadoutLimit) }) } := by
        rw [State.liveEnd, (State.statEndSpan_frame _).2.2.2.1]
        rfl
      have hclock : u.liveEnd.clock = u.clock := by simp
      rw [hfc, hframeU, hclock, hu]
      rfl
    · simp [State.liveEnd, State.statEndSpan, State.onFrame, hu, hx]
  case capture =>
    change completes (execCaptureExposureEnd s) _
    refine completes_timed (State.dueFrame_of_exposing hframe hphase hkind) ?_
    obtain ⟨u, hu⟩ : ∃ u : State, u = s.begin.reach f.limit := ⟨_, rfl⟩
    obtain ⟨a, ha⟩ : ∃ a : State, a = u.exposureEnded := ⟨_, rfl⟩
    obtain ⟨t, ht⟩ : ∃ t : State, t = a.startAllPending.gradeEnd.derive := ⟨_, rfl⟩
    obtain ⟨hfcA, hlensA, hafA, hepA, hstabA, hloaderA, hclockA⟩ := u.exposureEnded_kept
    rw [← ha] at hfcA hlensA hafA hepA hstabA hloaderA hclockA
    have hlensS : a.lens = s.lens := by rw [hlensA, hu]; rfl
    have hafS : a.af = s.af := by rw [hafA, hu]; rfl
    have hepS : a.ep = s.ep := by rw [hepA, hu]; rfl
    have hstabS : a.stab = s.stab := by rw [hstabA, hu]; rfl
    have hloaderS : a.loader = s.loader := by rw [hloaderA, hu]; rfl
    obtain ⟨hzoomPos, hfocusPos, hirisPos⟩ := a.startAllPending_pos
    have hreading : a.fc.state = .reading := by rw [hfcA]; rfl
    have hfcT : t.fc = u.readingBegun.fc := by rw [ht]; simpa using hfcA
    have hclockT : t.clock = u.clock := by rw [ht]; simpa using hclockA
    have hwaiting : t.lens.waiting = (none, none, none) := by
      rw [ht, State.derive_waiting (by simp [hreading]), State.gradeEnd_waiting (by simp [hreading]),
        State.startAllPending_waiting hreading]
    simp only [Lens.waiting, Prod.mk.injEq] at hwaiting
    obtain ⟨hzoomNone, hfocusNone, hirisNone⟩ := hwaiting
    obtain ⟨hzoomMoves, hfocusMoves, hirisMoves⟩ := State.startAllPending_moves hreading
    have hgraded := State.graded_spec (s := a.startAllPending) (t := t) (by simpa using hreading) ht
    have hchanged : onlyChanged [.frames, .statistics, .planner, .lens, .focus, .stabilizer, .records, .events] u u.captureEnd := by
      refine ⟨by simp, by simp, fun y hy => ?_⟩
      cases y <;> simp [Part.same, State.dramByte] at hy ⊢
    have hzoomT : t.lens.zoom = a.startAllPending.lens.zoom := by rw [ht]; simp
    have hfocusT : t.lens.focus = a.startAllPending.lens.focus := by rw [ht]; simp
    rw [State.captureEnd_eq, ← ha, ← ht] at hchanged
    rw [← hu, State.captureEnd_eq, ← ha, ← ht]
    have hdone : t.clock = max s.clock f.limit := by rw [hclockT, hu]; rfl
    refine ⟨hdone, ?state, ?hold, ?frame, ?shutter, hzoomNone, hfocusNone, hirisNone, ?pulse, ?span, ?zoomStands, ?focusStands, ?irisStands,
      ?zoomMoves, ?focusMoves, ?irisMoves, ?openRecord, ?parts⟩
    case state => rw [hfcT]; rfl
    case hold => exact State.hold_of_reading (by rw [hfcT]; rfl)
    case frame =>
      rw [hfcT, hkind, hclockT, hu]
      rfl
    case shutter =>
      intro c hc
      rw [hfcT, State.readingBegun_shutter (c := c) (by rw [hu]; exact hc), hu]
      rfl
    case pulse =>
      intro c hc hmode
      have hput : Output.triggerEnd ∈ a.startAllPending.gradeEnd.outs := by
        rw [ha]
        simpa using State.exposureEnded_pulse (s := u) (by rw [hu]; exact hc) hmode
      rw [ht]
      exact (State.derive_outs _).subset hput
    case span =>
      intro x hx
      have hended : a.st.fip = some { x with spanOpen := false } := by
        rw [ha]
        exact State.exposureEnded_fip (by rw [hu]; exact hx)
      have hkept := spanEnded_kept (y := { x with spanOpen := false }) rfl
      rw [ht]
      exact hkept.derive (hkept.gradeEnd (hkept.startAllPending hended))
    case zoomStands => rw [hzoomT, hzoomPos, hlensS]
    case focusStands => rw [hfocusT, hfocusPos, hlensS]
    case irisStands =>
      have hderive (v : State) : v.derive.lens.iris.pos = v.lens.iris.pos := by simp
      rw [ht, hderive]
      simp [hlensS]
    case zoomMoves =>
      intro m hm
      have hmoves := hzoomMoves m (by rw [hlensS]; exact hm)
      rw [hloaderS] at hmoves
      rw [hzoomT]
      exact hmoves
    case focusMoves =>
      intro m hm hforeign
      rw [hfocusT]
      refine hfocusMoves m (by rw [hlensS]; exact hm) fun hsearching => ?_
      rw [hlensS]
      exact hforeign (by rw [← hafS]; exact hsearching)
    case irisMoves =>
      intro m hm
      have hmoves := hirisMoves m (by rw [hlensS]; exact hm)
      rw [hlensS] at hmoves
      have hpenalty : a.startAllPending.ep.penalty = s.ep.penalty := by simp [hepS]
      have hcredit : a.startAllPending.creditCondition = s.creditCondition := State.creditCondition_congr (by simp [hstabS])
      rw [hpenalty, hcredit] at hgraded
      obtain ⟨hstands, hasked⟩ := hgraded
      refine ⟨fun hsame hcreditSame => ?_, fun hdiffers hready hgiven hp _ => ?_⟩
      · rw [hstands hsame hcreditSame]
        exact hmoves
      · have haimed : a.startAllPending.lens.iris.aimed := ⟨_, hmoves.1, hmoves.2.2⟩
        rw [hirisPos, hlensS] at hasked
        exact hasked hdiffers (by simpa [hlensS] using hready) (by simpa [hepS] using hgiven) haimed hp
    case openRecord =>
      intro o ho
      have hopened : t.rq.opened = some { o with
          phase := .reading, endPart := some { stamp := u.timeBase, residual := u.stab.residual } } := by
        have hended := State.exposureEnded_opened (s := u) (o := o) (by rw [hu]; exact ho)
        rw [← ha] at hended
        rw [ht]
        simpa using hended
      have hstabU : u.stab = s.stab := by rw [hu]; rfl
      refine ⟨_, hopened, rfl, rfl, _, rfl, by rw [State.timeBase, State.timeBase, hclockT], fun hclear => ?_, fun hset => ?_⟩
      · rw [hstabU]
        exact Stabilizer.residual_of_clear hclear
      · have hresidual := Stabilizer.residual_of_set hset
        refine ⟨_, by rw [hstabU]; exact hresidual, rfl, rfl, ?_⟩
        have hgrade := State.gradeEnd_grade (s := a.startAllPending) (by simpa [hstabS] using hresidual)
        rw [ht]
        simpa using hgrade
    case parts => exact onlyChanged_mono (onlyChanged_of_reach (by rw [← hu]; exact hchanged)) (by simp)

end Sys2Proof.Machine
end

section
/-! SOFT RESET, block by block, and the planner's runs that follow it (R26, R41, R59, R65, R87, R108, R133, R158, R172, R182, R188). -/

namespace Sys2Proof.Machine

/-! ### Runs that ask for the same p (R59) -/

/-- The p that a run of the planner asks for as things stand; none before Lens Drive has given its values. -/
def State.runP (s : State) : Option Int := s.ep.given.map (fun x => (captureSplit (s.planInputs x.1) (s.captureCap x.2)).p)

theorem State.runP_congr {s t : State} (hgiven : t.ep.given = s.ep.given) (hqraw : t.ep.qraw = s.ep.qraw)
    (hpenalty : t.ep.penalty = s.ep.penalty) (hsettings : t.settings = s.settings) (hcredit : t.creditCondition = s.creditCondition) :
    t.runP = s.runP := by
  unfold State.runP State.planInputs State.captureCap State.credit State.qLow State.qHigh State.program State.settingOn State.setting
  rw [hgiven, hqraw, hpenalty, hsettings, hcredit]

theorem State.withFc_runP (s : State) (f : FrameControl → FrameControl) : (s.withFc f).runP = s.runP :=
  State.runP_congr rfl rfl rfl rfl rfl

theorem State.plannerRun_runP (s : State) : s.plannerRun.runP = s.runP :=
  State.runP_congr (by simp) (by simp) (by simp) (by simp) (State.creditCondition_congr (by simp))

/-- A run's plan has that p. -/
theorem State.plannerRun_capPlan {s : State} {q : Int} (h : s.runP = some q) : s.plannerRun.ep.capPlan.p = q := by
  obtain ⟨⟨amin, tlimit⟩, hgiven, hq⟩ := Option.map_eq_some_iff.1 h
  rw [State.plannerRun_of_given hgiven, (State.requestIris_kept _).1]
  exact hq

/-- The iris's record r' after runs that ask for p, from the record r. -/
def ActRecord.asked (p : Option Int) (r r' : ActRecord) : Prop :=
  (p = none ∨ r.target = p → r' = r) ∧ r'.pos = r.pos ∧ r'.pending = r.pending ∧
    ∀ q, p = some q → 0 ≤ q → r' = r ∨ r'.target = some q ∧ r'.origin = .planner ∧ r'.inFlight = decide (r.pos ≠ some q)

theorem ActRecord.asked.refl (p : Option Int) (r : ActRecord) : ActRecord.asked p r r := ⟨fun _ => rfl, rfl, rfl, fun _ _ _ => .inl rfl⟩

theorem ActRecord.asked.trans {p : Option Int} {r r' r'' : ActRecord} (h : ActRecord.asked p r r') (h' : ActRecord.asked p r' r'') :
    ActRecord.asked p r r'' := by
  obtain ⟨hquiet, hpos, hpending, hasked⟩ := h
  obtain ⟨hquiet', hpos', hpending', hasked'⟩ := h'
  refine ⟨fun hsame => ?_, hpos'.trans hpos, hpending'.trans hpending, fun q hq hnonneg => ?_⟩
  · have hr := hquiet hsame
    rw [← hr] at hsame
    exact (hquiet' hsame).trans hr
  · rcases hasked q hq hnonneg with hr | ⟨htarget, hrest⟩
    · rw [← hr]
      exact hasked' q hq hnonneg
    · rw [hquiet' (.inr (htarget.trans hq.symm))]
      exact .inr ⟨htarget, hrest⟩

/-- A run in Ready, without the capture hold. -/
theorem State.plannerRun_asked {s : State} (h : s.fc.state = .idle) (hready : s.lens.state = .ready) :
    ActRecord.asked s.runP s.lens.iris s.plannerRun.lens.iris := by
  have hwaiting := State.plannerRun_waiting (s := s) (by simp [h])
  simp only [Lens.waiting, Prod.mk.injEq] at hwaiting
  cases hgiven : s.ep.given with
  | none =>
    have hrun : s.plannerRun = s := by rw [State.plannerRun, hgiven]
    rw [hrun]
    exact ActRecord.asked.refl _ _
  | some x =>
    obtain ⟨amin, tlimit⟩ := x
    obtain ⟨-, hquiet, hasked⟩ := State.plannerRun_made hgiven
    have hp : s.runP = some s.plannerRun.ep.capPlan.p := by
      have hsome : s.runP.isSome := by simp [State.runP, hgiven]
      obtain ⟨q, hq⟩ := Option.isSome_iff_exists.1 hsome
      rw [hq, State.plannerRun_capPlan hq]
    refine ⟨fun hsame => ?_, by simp, hwaiting.2.2, fun q hq hnonneg => ?_⟩
    · exact (hquiet (.inr ((hsame.resolve_left (by simp [hp])).trans hp))).1
    · obtain rfl : s.plannerRun.ep.capPlan.p = q := Option.some.inj (hp.symm.trans hq)
      by_cases htarget : s.lens.iris.target = some s.plannerRun.ep.capPlan.p
      · exact .inl (hquiet (.inr htarget)).1
      · obtain ⟨hreached, horigin, -, hflight⟩ := (hasked hready htarget hnonneg).2 (by simp [State.hold, h])
        exact .inr ⟨hreached, horigin, hflight⟩

/-- The run leaves its p as the iris's target. -/
theorem State.plannerRun_reaches {s : State} (h : s.fc.state = .idle) (hready : s.lens.state = .ready) {q : Int} (hq : s.runP = some q)
    (hnonneg : 0 ≤ q) : s.plannerRun.lens.iris.target = some q := by
  obtain ⟨hquiet, -, -, hasked⟩ := State.plannerRun_asked h hready
  by_cases htarget : s.lens.iris.target = some q
  · rw [hquiet (.inr (htarget.trans hq.symm)), htarget]
  · obtain ⟨⟨amin, tlimit⟩, hgiven, -⟩ := Option.map_eq_some_iff.1 hq
    have hp := State.plannerRun_capPlan hq
    obtain ⟨-, -, hmade⟩ := State.plannerRun_made hgiven
    rw [hp] at hmade
    exact ((hmade hready htarget hnonneg).2 (by simp [State.hold, h])).1

/-! ### The runs after the blocks are cleared -/

/-- The Stabilizer's state derived, Tlive renewed, the planner run (R43, R133). -/
def State.planAnew (s : State) : State := s.derive.renewTlive.plannerRun

theorem State.renewTlive_cases (s : State) : s.renewTlive = s ∨
    s.renewTlive = (s.withFc (fun c => { c with tlive := tliveOf s.period })).plannerRun := by
  unfold State.renewTlive State.setTlive
  split
  · exact .inl rfl
  · exact .inr rfl

theorem State.renewTlive_runP (s : State) : s.renewTlive.runP = s.runP := by
  rcases s.renewTlive_cases with h | h <;> rw [h]
  rw [State.plannerRun_runP, State.withFc_runP]

/-- All the runs ask for one p, that of the last. -/
theorem State.planAnew_asked {s : State} (h : s.fc.state = .idle) (hready : s.lens.state = .ready) :
    ActRecord.asked s.planAnew.runP s.lens.iris s.planAnew.lens.iris ∧
    ∀ q, s.planAnew.runP = some q → s.planAnew.ep.capPlan.p = q ∧ (0 ≤ q → s.planAnew.lens.iris.target = some q) := by
  have hrunP : s.planAnew.runP = s.derive.runP := (State.plannerRun_runP _).trans (State.renewTlive_runP _)
  have hderive : ActRecord.asked s.derive.runP s.lens.iris s.derive.lens.iris := by
    obtain ⟨u, hlens, hep, hfc, hcredit, hcases⟩ := s.derive_cases
    by_cases hsame : u.creditCondition = s.creditCondition
    · rw [if_pos hsame] at hcases
      rw [hcases, hlens]
      exact ActRecord.asked.refl _ _
    · rw [if_neg hsame] at hcases
      have hasked := State.plannerRun_asked (s := u) (by rw [hfc, h]) (by rw [hlens, hready])
      rw [hcases, State.plannerRun_runP, ← hlens]
      exact hasked
  have hrenew : ActRecord.asked s.derive.runP s.derive.lens.iris s.derive.renewTlive.lens.iris := by
    rcases s.derive.renewTlive_cases with hsame | hrun
    · rw [hsame]
      exact ActRecord.asked.refl _ _
    · have hasked := State.plannerRun_asked (s := s.derive.withFc (fun c => { c with tlive := tliveOf s.derive.period }))
        (by simpa using h) (by simpa using hready)
      rw [State.withFc_runP] at hasked
      rw [hrun]
      exact hasked
  have hidle : s.derive.renewTlive.fc.state = .idle := by rw [State.renewTlive_fc]; simpa using h
  have hreadyR : s.derive.renewTlive.lens.state = .ready := by simpa using hready
  have hlast := State.plannerRun_asked hidle hreadyR
  rw [State.renewTlive_runP] at hlast
  rw [hrunP]
  refine ⟨(hderive.trans hrenew).trans hlast, fun q hq => ?_⟩
  have hq : s.derive.renewTlive.runP = some q := (State.renewTlive_runP _).trans hq
  exact ⟨State.plannerRun_capPlan hq, State.plannerRun_reaches hidle hreadyR hq⟩

end Sys2Proof.Machine
end

section
/-! SOFT RESET, block by block (R26, R41, R65, R87, R108, R133, R158, R172, R182, R188). -/

namespace Sys2Proof.Machine

/-! ### The links and Frame Control (R26, R188) -/

/-- The pending sets cleared (R188). -/
def State.resetLinks (s : State) : State := { s with links := { s.links with pend := PerPort.all 0 }.refresh }

theorem State.resetLinks_links (s : State) : s.resetLinks.links.pend = PerPort.all 0 ∧ s.resetLinks.links.line = PerPort.all false ∧
    s.resetLinks.links.mask = s.links.mask ∧ s.resetLinks.links.occ = s.links.occ := by
  refine ⟨rfl, ?_, rfl, rfl⟩
  simp [State.resetLinks, Links.refresh, PerPort.all, lineOf]

/-- What a soft reset makes of Frame Control whether or not a capture is aborted. -/
theorem State.fcSoftReset_fc (s : State) : s.fcSoftReset.fc.state = .idle ∧ s.fcSoftReset.fc.owed = 0 ∧
    s.fcSoftReset.fc.continuous = false ∧ s.fcSoftReset.fc.burstCount = 0 ∧ s.fcSoftReset.fc.prepare = PerPort.all false ∧
    s.fcSoftReset.fc.cadence = .liveFast ∧ s.fcSoftReset.fc.frame = none ∧ s.fcSoftReset.fc.cap = none ∧ s.fcSoftReset.fc.quiet2 = none ∧
    s.fcSoftReset.fc.quiet1 = if s.fc.started then s.quietSpan1 else none := by
  refine ⟨rfl, rfl, rfl, rfl, rfl, rfl, rfl, rfl, rfl, ?_⟩
  have hstarted : (if s.inFlight then s.abortCapture else s).fc.started = s.fc.started := by split <;> simp
  rw [← hstarted]
  rfl

theorem State.fcSoftReset_of_quiet {s : State} (h : s.inFlight = false) :
    s.fcSoftReset.fc.settle = s.fc.settle ∧ s.fcSoftReset.fc.shutter = s.fc.shutter := by
  have hkept : (if s.inFlight then s.abortCapture else s) = s := if_neg (by simp [h])
  rw [State.fcSoftReset, hkept]
  exact ⟨rfl, rfl⟩

/-- A capture aborted before its close command: the command is issued, and the reopening comes one close travel later. -/
theorem State.abortCapture_of_open {s : State} {c : Capture} (hcap : s.fc.cap = some c) (htravel : 0 < c.travel) (hclosed : c.closed = none)
    (hopen : s.fc.shutter = .opened) : Output.closeShutter ∈ s.abortCapture.outs ∧ s.abortCapture.fc.shutter = .closing ∧
      s.abortCapture.fc.reopenAt = some (s.clock + c.travel) := by
  obtain ⟨u, hu⟩ : ∃ u : State, u = if s.window then s.pulseEnd else s := ⟨_, rfl⟩
  have habort : s.abortCapture = u.issueClose.withFc (fun x => { x with reopenAt := some (s.clock + c.travel) }) := by
    rw [State.abortCapture, hcap]
    dsimp only
    rw [← hu, hclosed, Option.getD_none, if_neg (show ¬ s.clock + c.travel ≤ s.clock by omega), if_pos ⟨rfl, hopen⟩]
  rw [habort]
  exact ⟨List.mem_append_right _ (List.mem_singleton_self _), rfl, rfl⟩

theorem State.fcSoftReset_of_open {s : State} {c : Capture} (hflight : s.inFlight = true) (hcap : s.fc.cap = some c) (htravel : 0 < c.travel)
    (hclosed : c.closed = none) (hopen : s.fc.shutter = .opened) : Output.closeShutter ∈ s.fcSoftReset.outs ∧
      s.fcSoftReset.fc.shutter = .closing ∧ s.fcSoftReset.fc.reopenAt = some (s.clock + c.travel) := by
  have habort : (if s.inFlight then s.abortCapture else s) = s.abortCapture := if_pos hflight
  rw [State.fcSoftReset, habort]
  exact State.abortCapture_of_open hcap htravel hclosed hopen

/-! ### Lens Drive (R87) -/

theorem State.lensSoftReset_moving {s : State} (h : s.lens.state = .ready ∨ s.lens.state = .extending ∨ s.lens.state = .retracting) :
    s.lensSoftReset.lens.zoom = s.lens.zoom.stop ∧ s.lensSoftReset.lens.focus = s.lens.focus.stop ∧
    s.lensSoftReset.lens.iris = s.lens.iris.stop ∧
    s.lensSoftReset.lens.state = if s.lens.state = .ready then .ready else .intermediate := by
  have hstops : s.stopMoves.lens.zoom = s.lens.zoom.stop ∧ s.stopMoves.lens.focus = s.lens.focus.stop ∧
      s.stopMoves.lens.iris = s.lens.iris.stop ∧ s.stopMoves.lens.state = s.lens.state := by
    unfold State.stopMoves
    dsimp only
    split <;> exact ⟨rfl, rfl, rfl, rfl⟩
  obtain ⟨hzoom, hfocus, hiris, hstate⟩ := hstops
  rcases h with h | h | h <;> rw [State.lensSoftReset, h]
  · exact ⟨hzoom, hfocus, hiris, hstate.trans h⟩
  · exact ⟨hzoom, hfocus, hiris, rfl⟩
  · exact ⟨hzoom, hfocus, hiris, rfl⟩

theorem State.lensSoftReset_other {s : State} (h : s.lens.state ∈ [LensState.homing, .stowed, .intermediate, .faulted]) :
    s.lensSoftReset.lens = s.lens := by
  simp only [List.mem_cons, List.not_mem_nil, or_false] at h
  rcases h with h | h | h | h <;> rw [State.lensSoftReset, h]

@[simp] theorem State.lensSoftReset_iv (s : State) : s.lensSoftReset.lens.iv = s.lens.iv := by
  unfold State.lensSoftReset State.stopMoves
  dsimp only
  split
  · split <;> rfl
  · split <;> rfl
  · split <;> rfl
  all_goals rfl

/-! ### The Burst Store (R158) -/

/-- The store cleared, out of SelfRefresh, and the arbiter's choice. -/
def State.resetStore (s : State) : State := (s.withStore Store.softReset).leaveSelfRefresh.storeSettle

/-- Without a stream the arbiter leaves the group pointer. -/
theorem State.arbitrate_ring2 {s : State} (h : s.store.streams = PerPort.all none) : s.arbitrate.store.ring2 = s.store.ring2 := by
  have hstream (p : Port) : s.store.streamRequests p = false := by
    rw [Store.streamRequests, h]
    cases p <;> rfl
  have hgroup : s.groupPort = none := by
    rw [State.groupPort, List.find?_eq_none]
    simp [State.groupRequests, hstream]
  have hring {who : Requester} {r1 : RingPos} {r2 : Port} (hchoice : s.ringChoice = some (who, r1, r2)) : r2 = s.store.ring2 := by
    rw [State.ringChoice, hgroup] at hchoice
    split at hchoice
    · cases hchoice
    · split at hchoice <;> cases hchoice <;> rfl
  have hchosen {who : Requester} {r1 : RingPos} {r2 : Port} (hchoice : s.arbiterChoice = some (who, r1, r2)) : r2 = s.store.ring2 := by
    unfold State.arbiterChoice at hchoice
    split at hchoice
    · cases hchoice; rfl
    · split at hchoice
      · cases hchoice; rfl
      · split at hchoice
        · next x hx => exact hring (hx.trans hchoice)
        · split at hchoice <;> cases hchoice
          rfl
  unfold State.arbitrate
  split
  · split
    · rfl
    · next hchoice => exact hchosen hchoice
  · rfl

theorem State.leaveSelfRefresh_spec (s : State) : s.leaveSelfRefresh.store.streams = s.store.streams ∧
    s.leaveSelfRefresh.store.fifos = s.store.fifos ∧ s.leaveSelfRefresh.store.cut = s.store.cut ∧
    s.leaveSelfRefresh.store.ring1 = s.store.ring1 ∧ s.leaveSelfRefresh.store.ring2 = s.store.ring2 ∧
    s.leaveSelfRefresh.store.buf = s.store.buf ∧ s.leaveSelfRefresh.store.slots = s.store.slots ∧
    s.leaveSelfRefresh.store.grant = s.store.grant ∧ s.leaveSelfRefresh.store.dram = s.store.dram ∧ s.leaveSelfRefresh.fc = s.fc ∧
    (s.store.state ≠ .selfRefresh → s.leaveSelfRefresh = s) ∧
    (s.store.state = .selfRefresh → s.leaveSelfRefresh.store.state = .ready ∧ s.leaveSelfRefresh.store.backlog = 3) := by
  unfold State.leaveSelfRefresh
  split_ifs with h
  · exact ⟨rfl, rfl, rfl, rfl, rfl, rfl, rfl, rfl, rfl, rfl, fun hnot => absurd h hnot, fun _ => ⟨rfl, rfl⟩⟩
  · exact ⟨rfl, rfl, rfl, rfl, rfl, rfl, rfl, rfl, rfl, rfl, fun _ => rfl, fun hself => absurd hself h⟩

/-- What stands in the store after its reset. -/
theorem State.resetStore_spec {s : State} (h : s.fc.cadence ≠ .still) : s.resetStore.store.streams = PerPort.all none ∧
    s.resetStore.store.fifos = PerPort.all [] ∧ s.resetStore.store.cut = PerPort.all false ∧ s.resetStore.store.ring2 = .a ∧
    (s.store.grant.isSome → s.resetStore.store.ring1 = .ingest) ∧ s.resetStore.store.slots = s.store.slots.map Slot.softReset ∧
    s.resetStore.store.buf = s.store.softReset.buf ∧ s.resetStore.store.dram = s.store.dram ∧
    (s.store.state ≠ .selfRefresh → s.resetStore.store.state = s.store.state ∧ s.resetStore.store.backlog = s.store.backlog ∧
      s.resetStore.store.trickle = s.store.trickle) ∧
    (s.store.state = .selfRefresh → s.resetStore.store.state = .ready ∧ s.resetStore.store.backlog = 3) := by
  obtain ⟨u, hu⟩ : ∃ u : State, u = s.withStore Store.softReset := ⟨_, rfl⟩
  obtain ⟨hstreams, hfifos, hcut, hring1, hring2, hbuf, hslots, hgrant, hdram, hfc, hstays, hleaves⟩ := u.leaveSelfRefresh_spec
  have hsettles : s.resetStore = u.leaveSelfRefresh.arbitrate := by
    rw [State.resetStore, ← hu]
    exact State.storeSettle_stays (.inl (by rw [hfc, hu]; exact h))
  have hnone : u.leaveSelfRefresh.store.streams = PerPort.all none := by rw [hstreams, hu]; rfl
  obtain ⟨hstateA, htrickleA, hstreamsA, hslotsA, hbufA, hbacklogA, -, -⟩ := u.leaveSelfRefresh.arbitrate_store
  have hring2A := State.arbitrate_ring2 hnone
  refine ⟨?_, ?_, ?_, ?_, fun hbusy => ?_, ?_, ?_, ?_, fun hawake => ?_, fun hself => ?_⟩
  · rw [hsettles, hstreamsA, hnone]
  · rw [State.resetStore, ← hu, (State.storeSettle_store _).2.1, hfifos, hu]
    rfl
  · rw [State.resetStore, ← hu, (State.storeSettle_fields _).2.2.1, hcut, hu]
    rfl
  · rw [hsettles, hring2A, hring2, hu]
    rfl
  · have hgranted : u.leaveSelfRefresh.store.grant.isSome := by
      rw [hgrant, hu]
      simpa [Store.softReset, Store.discardGrant, State.withStore] using hbusy
    rw [State.resetStore, ← hu, State.storeSettle_of_grant hgranted, hring1, hu]
    rfl
  · rw [hsettles, hslotsA, hslots, hu]
    rfl
  · rw [hsettles, hbufA, hbuf, hu]
    rfl
  · rw [State.resetStore, ← hu, (State.storeSettle_fields _).1, hdram, hu]
    rfl
  · have hsame := hstays (by rw [hu]; exact hawake)
    rw [hsettles, hstateA, hbacklogA, htrickleA, hsame, hu]
    exact ⟨rfl, rfl, rfl⟩
  · obtain ⟨hready, hbacklog⟩ := hleaves (by rw [hu]; exact hself)
    rw [hsettles, hstateA, hbacklogA]
    exact ⟨hready, hbacklog⟩

/-- What is left in the ingest buffer: a remnant where a slot was Filling. -/
theorem Store.softReset_buf (b : Store) : ((∀ x ∈ b.slots, x.state ≠ .filling) → b.softReset.buf = b.buf) ∧
    ((∃ x ∈ b.slots, x.state = .filling) → b.softReset.buf = b.buf.take b.remnant) ∧
    ∀ i, b.firstSlot .filling = some i → (∀ x ∈ b.buf.take b.remnant, x.1 / 2 ^ 25 ≠ i) →
      (∀ x ∈ b.buf.drop b.remnant, x.1 / 2 ^ 25 = i) → b.softReset.buf = b.buf.filter (fun x => x.1 / 2 ^ 25 ≠ i) := by
  have hfilling (h : (b.firstSlot .filling).isSome) : b.softReset.buf = b.buf.take b.remnant := if_pos h
  refine ⟨fun hnone => ?_, fun ⟨x, hx, hstate⟩ => hfilling ?_, fun i hi hothers hown => ?_⟩
  · exact if_neg (by rw [Store.firstSlot_eq_none.2 hnone]; decide)
  · rw [Option.isSome_iff_ne_none]
    exact fun hnone => Store.firstSlot_eq_none.1 hnone x hx hstate
  · have hkept : (b.buf.take b.remnant).filter (fun x => x.1 / 2 ^ 25 ≠ i) = b.buf.take b.remnant :=
      List.filter_eq_self.2 fun x hx => decide_eq_true (hothers x hx)
    have hgone : (b.buf.drop b.remnant).filter (fun x => x.1 / 2 ^ 25 ≠ i) = [] :=
      List.filter_eq_nil_iff.2 fun x hx => by rw [decide_eq_true_eq]; exact not_not.2 (hown x hx)
    calc b.softReset.buf = b.buf.take b.remnant := hfilling (by simp [hi])
      _ = (b.buf.take b.remnant ++ b.buf.drop b.remnant).filter (fun x => x.1 / 2 ^ 25 ≠ i) := by
        rw [List.filter_append, hkept, hgone, List.append_nil]
      _ = b.buf.filter (fun x => x.1 / 2 ^ 25 ≠ i) := by rw [List.take_append_drop]

/-! ### The Stabilizer (R133) -/

/-- The Stabilizer cleared, sampling. -/
def State.resetStab (s : State) : State := s.stabSoftReset.resumeSampling

theorem State.resetStab_spec (s : State) : s.resetStab.stab.x = ShiftAxis.zero ∧ s.resetStab.stab.y = ShiftAxis.zero ∧
    s.resetStab.stab.backlog = 0 ∧ s.resetStab.stab.urgent = false ∧ s.resetStab.stab.resFlag = false ∧
    s.resetStab.stab.cause = s.stab.cause ∧ s.resetStab.stab.biasX = s.stab.biasX ∧ s.resetStab.stab.biasY = s.stab.biasY ∧
    s.resetStab.stab.grade = s.stab.grade ∧ s.resetStab.stab.gyro.isSome ∧
    s.resetStab.stab.state = (if s.stab.cause = .none then .parked else .faulted) ∧
    (s.stab.state = .calibrating → s.resetStab.stab.cal = { s.stab.cal with status := .aborted, limit := none }) := by
  have hcal (h : s.stab.state = .calibrating) : s.stabSoftReset.stab.cal = { s.stab.cal with status := .aborted, limit := none } :=
    if_pos h
  unfold State.resetStab State.resumeSampling
  split
  · next hgyro => exact ⟨rfl, rfl, rfl, rfl, rfl, rfl, rfl, rfl, rfl, hgyro, rfl, hcal⟩
  · exact ⟨rfl, rfl, rfl, rfl, rfl, rfl, rfl, rfl, rfl, rfl, rfl, hcal⟩

/-- A state derived from one that is not Active leaves the axes. -/
theorem State.derive_axes {s : State} (h : s.stab.state ≠ .active) (hbacklog : s.stab.backlog = 0) : s.derive.stab.x = s.stab.x ∧
    s.derive.stab.y = s.stab.y ∧ s.derive.stab.backlog = 0 ∧ s.derive.stab.urgent = s.stab.urgent := by
  have hwatch (c : Bool) (u : State) : (State.creditWatch c u).stab = u.stab := by simp
  unfold State.derive
  split
  · exact ⟨rfl, rfl, hbacklog, rfl⟩
  · unfold State.stabSet
    dsimp only
    split
    · exact ⟨rfl, rfl, hbacklog, rfl⟩
    · rw [hwatch]
      split
      · exact ⟨rfl, rfl, rfl, rfl⟩
      · exact ⟨rfl, rfl, hbacklog, rfl⟩

/-! ### The record queue (R172) -/

theorem State.recordSoftReset_spec (s : State) (inFlight : Bool) : (s.recordSoftReset inFlight).rq.queue = s.rq.queue ∧
    (s.recordSoftReset inFlight).rq.opened = (if inFlight then none else s.rq.opened) ∧
    (s.recordSoftReset inFlight).rq.stale = if 0 < s.rq.queue.length ∧ s.rq.queue.length < s.settingNat ixReadyThreshold
      then some (s.clock + ms (10 * s.settingNat ixStaleTime)) else none := by
  have hwithin (u : State) : u.countWithin (u.settingNat ixReadyThreshold) = true ↔
      0 < u.rq.queue.length ∧ u.rq.queue.length < u.settingNat ixReadyThreshold := by simp [State.countWithin]
  cases inFlight
  · exact ⟨rfl, rfl, if_congr (hwithin s) rfl rfl⟩
  · exact ⟨rfl, rfl, if_congr (hwithin s) rfl rfl⟩

end Sys2Proof.Machine
end

section
/-! SOFT RESET assembled from its blocks (R182). -/

namespace Sys2Proof.Machine

@[simp] theorem State.setTlive_banks (s : State) (x : Int) : (s.setTlive x).st.active = s.st.active ∧
    (s.setTlive x).st.completed = s.st.completed ∧ (s.setTlive x).st.fip.isNone = s.st.fip.isNone := by
  simp only [State.setTlive]; split <;> simp
@[simp] theorem State.renewTlive_banks (s : State) : s.renewTlive.st.active = s.st.active ∧
    s.renewTlive.st.completed = s.st.completed ∧ s.renewTlive.st.fip.isNone = s.st.fip.isNone := by
  simp [State.renewTlive]
@[simp] theorem State.renewTlive_meter (s : State) : s.renewTlive.ep.qraw = s.ep.qraw ∧ s.renewTlive.ep.offset = s.ep.offset ∧
    s.renewTlive.ep.given = s.ep.given ∧ s.renewTlive.lens.iv = s.lens.iv := by
  rcases s.renewTlive_cases with h | h <;> rw [h] <;> simp [State.withFc]

@[simp] theorem State.derive_given (s : State) : s.derive.ep.given = s.ep.given := by
  obtain ⟨u, -, hep, -, -, hcases⟩ := s.derive_cases
  rw [hcases]
  split <;> simp [hep]

/-! ### The stages before the planner's runs -/

/-- The links, Frame Control, Lens Drive, the Statistics Unit and Focus Search cleared. -/
def State.resetFrames (s : State) : State :=
  let t := s.resetLinks.fcSoftReset.lensSoftReset
  { t with af := t.af.softReset, st := t.st.softReset }

/-- The record queue too. -/
def State.resetRecords (s : State) : State := s.resetFrames.recordSoftReset s.inFlight

/-- Every block cleared. -/
def State.resetBlocks (s : State) : State :=
  let t := s.resetRecords.resetStore.resetStab
  { t with ep := t.ep.softReset }

theorem State.softReset_eq (s : State) : s.softReset = if s.resetBlocks.planAnew.lensReady
    then State.enterLive { s.resetBlocks.planAnew with ep := { s.resetBlocks.planAnew.ep with fastStart := true } }
    else s.resetBlocks.planAnew := by
  unfold State.planAnew State.resetBlocks State.resetStab State.resetStore State.resetRecords State.resetFrames State.resetLinks
  rfl

@[simp] theorem State.resetStore_frame (s : State) : s.resetStore.links = s.links ∧ s.resetStore.fc = s.fc ∧ s.resetStore.lens = s.lens ∧
    s.resetStore.af = s.af ∧ s.resetStore.st = s.st ∧ s.resetStore.ep = s.ep ∧ s.resetStore.rq = s.rq ∧ s.resetStore.stab = s.stab ∧
    s.resetStore.settings = s.settings ∧ s.resetStore.clock = s.clock ∧ s.resetStore.outs = s.outs := by
  simp [State.resetStore]

@[simp] theorem State.resetStab_frame (s : State) : s.resetStab.links = s.links ∧ s.resetStab.fc = s.fc ∧ s.resetStab.lens = s.lens ∧
    s.resetStab.af = s.af ∧ s.resetStab.st = s.st ∧ s.resetStab.ep = s.ep ∧ s.resetStab.rq = s.rq ∧ s.resetStab.store = s.store ∧
    s.resetStab.settings = s.settings ∧ s.resetStab.clock = s.clock := by
  simp [State.resetStab]

theorem State.resetStab_outs (s : State) : s.outs <+: s.resetStab.outs := by
  unfold State.resetStab State.resumeSampling
  split
  · exact ⟨_, rfl⟩
  · exact ⟨_, (List.append_assoc ..).symm⟩

/-- A state w in which each block stands as its chapter's reset leaves it, after s. -/
structure State.blocksCleared (s w : State) : Prop where
  links : w.links = s.resetLinks.links
  fc : w.fc = s.resetLinks.fcSoftReset.fc
  lens : w.lens = s.resetLinks.fcSoftReset.lensSoftReset.lens
  af : w.af = s.af.softReset
  st : w.st = s.resetLinks.fcSoftReset.lensSoftReset.st.softReset
  ep : w.ep = s.ep.softReset
  rq : w.rq = (s.resetFrames.recordSoftReset s.inFlight).rq
  stab : w.stab = s.resetRecords.resetStore.resetStab.stab
  store : w.store = s.resetRecords.resetStore.store
  settings : w.settings = s.settings
  clock : w.clock = s.clock
  outs : s.resetLinks.fcSoftReset.outs <+: w.outs

theorem State.resetFrames_kept (s : State) : s.resetFrames.ep = s.ep ∧ s.resetFrames.rq = s.rq ∧ s.resetFrames.stab = s.stab ∧
    s.resetFrames.store = s.store ∧ s.resetFrames.settings = s.settings ∧ s.resetFrames.clock = s.clock ∧
    s.resetFrames.fc = s.resetLinks.fcSoftReset.fc := by
  simp [State.resetFrames, State.resetLinks]

theorem State.resetRecords_kept (s : State) : s.resetRecords.stab = s.stab ∧ s.resetRecords.store = s.store ∧
    s.resetRecords.fc = s.resetLinks.fcSoftReset.fc := by
  simp [State.resetRecords, s.resetFrames_kept]

theorem State.resetRecords_frame (s : State) : s.resetRecords.links = s.resetLinks.links ∧
    s.resetRecords.lens = s.resetLinks.fcSoftReset.lensSoftReset.lens ∧ s.resetRecords.af = s.af.softReset ∧
    s.resetRecords.st = s.resetLinks.fcSoftReset.lensSoftReset.st.softReset ∧ s.resetRecords.ep = s.ep ∧
    s.resetRecords.settings = s.settings ∧ s.resetRecords.clock = s.clock ∧ s.resetRecords.outs = s.resetLinks.fcSoftReset.outs := by
  simp [State.resetRecords, State.resetFrames, State.resetLinks]

theorem State.resetBlocks_cleared (s : State) : s.blocksCleared s.resetBlocks := by
  obtain ⟨t, ht⟩ : ∃ t : State, t = s.resetRecords.resetStore.resetStab := ⟨_, rfl⟩
  have hblocks : s.resetBlocks = { t with ep := t.ep.softReset } := by rw [ht]; rfl
  have houts := s.resetRecords.resetStore.resetStab_outs
  obtain ⟨-, -, hfc⟩ := s.resetRecords_kept
  obtain ⟨hlinks, hlens, haf, hst, hep, hsettings, hclock, houtsR⟩ := s.resetRecords_frame
  rw [hblocks]
  exact {
    links := by simpa [ht] using hlinks
    fc := by simpa [ht] using hfc
    lens := by simpa [ht] using hlens
    af := by simpa [ht] using haf
    st := by simpa [ht] using hst
    ep := by simp [ht, hep]
    rq := by
      have hrq : t.rq = s.resetRecords.rq := by simp [ht]
      rw [State.resetRecords] at hrq
      exact hrq
    stab := by rw [ht]
    store := by simp [ht]
    settings := by simpa [ht] using hsettings
    clock := by simpa [ht] using hclock
    outs := by simpa [ht, houtsR] using houts }

/-! ### What the runs and the first live frame leave -/

/-- A state z that the planner's runs lead to from a cleared state w. -/
structure State.plannedFrom (w z : State) : Prop where
  links : z.links = w.links
  fc : ∃ l, z.fc = { w.fc with tlive := l }
  af : z.af = w.af
  rq : z.rq = w.rq
  store : z.store = w.store
  stab : z.stab = w.derive.stab
  settings : z.settings = w.settings
  clock : z.clock = w.clock
  outs : w.outs <+: z.outs
  statistics : z.st.active = w.st.active ∧ z.st.completed = w.st.completed ∧ z.st.fip.isNone = w.st.fip.isNone ∧
    z.st.last = w.st.last ∧ z.st.patterns = w.st.patterns
  metering : z.ep.lock = w.ep.lock ∧ z.ep.penalty = w.ep.penalty ∧ z.ep.qraw = w.ep.qraw ∧ z.ep.offset = w.ep.offset ∧
    z.ep.given = w.ep.given
  motors : z.lens.zoom = w.lens.zoom ∧ z.lens.focus = w.lens.focus
  iv : z.lens.iv = w.lens.iv
  lensState : z.lens.state = w.lens.state

theorem State.planAnew_planned (s : State) : s.plannedFrom s.planAnew where
  links := by simp [State.planAnew]
  fc := by
    have hrun (u : State) : u.plannerRun.fc = u.fc := by simp
    have hderive : s.derive.fc = s.fc := by simp
    exact ⟨_, by rw [State.planAnew, hrun, State.renewTlive_fc, hderive]⟩
  af := by simp [State.planAnew]
  rq := by simp [State.planAnew]
  store := by simp [State.planAnew]
  stab := by simp [State.planAnew]
  settings := by simp [State.planAnew]
  clock := by simp [State.planAnew]
  outs := by
    have houts : s.planAnew.outs = s.derive.outs := by simp [State.planAnew]
    rw [houts]
    exact s.derive_outs
  statistics := by simp [State.planAnew]
  metering := by simp [State.planAnew]
  motors := by simp [State.planAnew]
  iv := by simp [State.planAnew]
  lensState := by simp [State.planAnew]

/-- The state t that a soft reset ends in, from the planned one z: in Ready the first live frame begins (R26, R47). -/
structure State.loopResumed (z t : State) : Prop where
  links : t.links = z.links
  af : t.af = z.af
  rq : t.rq = z.rq
  store : t.store = z.store
  stab : t.stab = z.stab
  lens : t.lens = z.lens
  st : t.st = z.st
  settings : t.settings = z.settings
  ep : ∃ x, t.ep = { z.ep with fastStart := x } ∧ (z.lensReady = true → x = true)
  fc : ∃ n xs id, t.fc = { z.fc with state := if z.lensReady then .live else z.fc.state, next := n, xfers := xs, xferId := id }
  outs : z.outs <+: t.outs

theorem State.softReset_resumed (s : State) : s.resetBlocks.planAnew.loopResumed s.softReset := by
  rw [State.softReset_eq]
  generalize s.resetBlocks.planAnew = z
  by_cases h : z.lensReady = true
  · rw [if_pos h]
    exact ⟨rfl, rfl, rfl, rfl, rfl, rfl, rfl, rfl, ⟨true, rfl, fun _ => rfl⟩, ⟨_, _, _, by rw [if_pos h]; rfl⟩, State.enterLive_kept _⟩
  · rw [if_neg h]
    exact ⟨rfl, rfl, rfl, rfl, rfl, rfl, rfl, rfl, ⟨_, rfl, fun hr => absurd hr h⟩, ⟨_, _, _, by rw [if_neg h]⟩, List.prefix_rfl⟩

end Sys2Proof.Machine
end

section
/-! What stands in each block after a soft reset (R26, R41, R65, R87, R108, R133, R158, R172, R182, R188). -/

namespace Sys2Proof.Machine

/-- R188. -/
theorem State.softReset_links (s : State) : s.softReset.links.pend = PerPort.all 0 ∧ s.softReset.links.line = PerPort.all false ∧
    s.softReset.links.mask = s.links.mask ∧ s.softReset.links.occ = s.links.occ := by
  rw [s.softReset_resumed.links, s.resetBlocks.planAnew_planned.links, s.resetBlocks_cleared.links]
  exact s.resetLinks_links

/-- The lens is in Ready after the reset where it was before. -/
theorem State.resetBlocks_ready (s : State) : s.resetBlocks.planAnew.lensReady = true ↔ s.lens.state = .ready := by
  have hlens : s.resetLinks.fcSoftReset.lens = s.lens := by simp [State.resetLinks]
  have hstate : s.resetBlocks.planAnew.lens.state = s.resetLinks.fcSoftReset.lensSoftReset.lens.state := by
    rw [s.resetBlocks.planAnew_planned.lensState, s.resetBlocks_cleared.lens]
  rw [State.lensReady, decide_eq_true_iff, hstate]
  by_cases hother : s.lens.state ∈ [LensState.homing, .stowed, .intermediate, .faulted]
  · rw [State.lensSoftReset_other (by rw [hlens]; exact hother), hlens]
  · have hmoving : s.lens.state = .ready ∨ s.lens.state = .extending ∨ s.lens.state = .retracting := by
      revert hother
      cases s.lens.state <;> decide
    rw [(State.lensSoftReset_moving (by rw [hlens]; exact hmoving)).2.2.2, hlens]
    split <;> simp_all

/-- R26. -/
theorem State.softReset_fc (s : State) : s.softReset.fc.state = (if s.lens.state = .ready then .live else .idle) ∧
    s.softReset.fc.owed = 0 ∧ s.softReset.fc.continuous = false ∧ s.softReset.fc.burstCount = 0 ∧
    s.softReset.fc.prepare = PerPort.all false ∧ s.softReset.fc.cadence = .liveFast ∧ s.softReset.fc.frame = none ∧
    s.softReset.fc.cap = none ∧ s.softReset.fc.quiet2 = none ∧
    s.softReset.fc.quiet1 = (if s.fc.started then some (s.clock + sec (s.settingNat ixQuietTime1)) else none) ∧
    (s.inFlight = false → s.softReset.fc.settle = s.fc.settle ∧ s.softReset.fc.shutter = s.fc.shutter) ∧
    ∀ c, s.inFlight = true → s.fc.cap = some c → 0 < c.travel → c.closed = none → s.fc.shutter = .opened →
      Output.closeShutter ∈ s.softReset.outs ∧ s.softReset.fc.shutter = .closing ∧ s.softReset.fc.reopenAt = some (s.clock + c.travel) := by
  obtain ⟨n, xs, id, hfc⟩ := s.softReset_resumed.fc
  obtain ⟨l, hplanned⟩ := s.resetBlocks.planAnew_planned.fc
  rw [hplanned, s.resetBlocks_cleared.fc] at hfc
  have houts : s.resetLinks.fcSoftReset.outs <+: s.softReset.outs :=
    (s.resetBlocks_cleared.outs.trans s.resetBlocks.planAnew_planned.outs).trans s.softReset_resumed.outs
  have hready := s.resetBlocks_ready
  obtain ⟨hstate, howed, hcontinuous, hcount, hprepare, hcadence, hframe, hcap, hquiet2, hquiet1⟩ := s.resetLinks.fcSoftReset_fc
  have hquiet (h : s.inFlight = false) := State.fcSoftReset_of_quiet (s := s.resetLinks) h
  have hopened {c : Capture} (h : s.inFlight = true) (hc : s.fc.cap = some c) := State.fcSoftReset_of_open (s := s.resetLinks) h hc
  generalize s.softReset = t at hfc houts ⊢
  generalize s.resetBlocks.planAnew = z at hfc hready
  generalize s.resetLinks.fcSoftReset = u at *
  rw [hfc]
  refine ⟨?_, howed, hcontinuous, hcount, hprepare, hcadence, hframe, hcap, hquiet2, hquiet1, hquiet,
    fun c hflight hc htravel hclosed hopen => ?_⟩
  · rw [hstate]
    exact if_congr hready rfl rfl
  · obtain ⟨hput, hshutter, hreopen⟩ := hopened hflight hc htravel hclosed hopen
    exact ⟨houts.subset hput, hshutter, hreopen⟩

/-- R41. -/
theorem State.softReset_st (s : State) : s.softReset.st.last = none ∧ s.softReset.st.fip = none ∧
    s.softReset.st.active = Bank.cleared ∧ s.softReset.st.completed = Bank.cleared ∧ s.softReset.st.patterns = s.st.patterns := by
  obtain ⟨hactive, hcompleted, hfip, hlast, hpatterns⟩ := s.resetBlocks.planAnew_planned.statistics
  have hst := s.resetBlocks_cleared.st
  rw [s.softReset_resumed.st, hactive, hcompleted, hlast, hpatterns]
  rw [hst] at hfip ⊢
  exact ⟨rfl, Option.isNone_iff_eq_none.1 hfip, rfl, rfl, by simp [Statistics.softReset, State.resetLinks]⟩

/-- R65. -/
theorem State.softReset_ep (s : State) : s.softReset.ep.lock = .none ∧ s.softReset.ep.penalty = false ∧ s.softReset.ep.qraw = s.ep.qraw ∧
    s.softReset.ep.offset = s.ep.offset ∧ (s.lens.state = .ready → s.softReset.ep.fastStart = true) := by
  obtain ⟨hlock, hpenalty, hqraw, hoffset, -⟩ := s.resetBlocks.planAnew_planned.metering
  obtain ⟨x, hep, hfast⟩ := s.softReset_resumed.ep
  have hepW := s.resetBlocks_cleared.ep
  rw [hep]
  exact ⟨hlock.trans (by rw [hepW]; rfl), hpenalty.trans (by rw [hepW]; rfl), hqraw.trans (by rw [hepW]; rfl),
    hoffset.trans (by rw [hepW]; rfl), fun hready => hfast (s.resetBlocks_ready.2 hready)⟩

theorem State.derivedState_congr_hold {s t : State} (hsettings : t.settings = s.settings) (hlens : t.lens.state = s.lens.state)
    (hcadence : t.fc.cadence = s.fc.cadence) (hprepare : t.fc.prepare = s.fc.prepare) (hhold : t.hold = s.hold) :
    t.derivedState = s.derivedState := by
  unfold State.derivedState State.stabMode State.shotOnlySpan State.prepareHeld State.lensReady State.setting
  rw [hsettings, hlens, hcadence, hprepare, hhold]

/-- The state that the Stabilizer's mode gives is the same after the first live frame as before the planner's runs. -/
theorem State.softReset_derivedState (s : State) : s.softReset.derivedState = s.resetBlocks.derivedState := by
  obtain ⟨hstateT, -, -, -, hprepareT, hcadenceT, -⟩ := s.softReset_fc
  obtain ⟨hstateW, -, -, -, hprepareW, hcadenceW, -⟩ := s.resetLinks.fcSoftReset_fc
  rw [← s.resetBlocks_cleared.fc] at hstateW hprepareW hcadenceW
  have hsettings : s.softReset.settings = s.resetBlocks.settings := by
    rw [s.softReset_resumed.settings, s.resetBlocks.planAnew_planned.settings]
  have hlens : s.softReset.lens.state = s.resetBlocks.lens.state := by
    rw [s.softReset_resumed.lens, s.resetBlocks.planAnew_planned.lensState]
  generalize s.softReset = t at *
  generalize s.resetBlocks = w at *
  have hholdT : t.hold = false := by rw [State.hold, hstateT]; split <;> rfl
  have hholdW : w.hold = false := by rw [State.hold, hstateW]; rfl
  exact State.derivedState_congr_hold hsettings hlens (hcadenceT.trans hcadenceW.symm) (hprepareT.trans hprepareW.symm)
    (hholdT.trans hholdW.symm)

/-- R133. -/
theorem State.softReset_stab (s : State) : s.softReset.stab.x = ShiftAxis.zero ∧ s.softReset.stab.y = ShiftAxis.zero ∧
    s.softReset.stab.backlog = 0 ∧ s.softReset.stab.urgent = false ∧ s.softReset.stab.resFlag = false ∧
    s.softReset.stab.cause = s.stab.cause ∧ s.softReset.stab.biasX = s.stab.biasX ∧ s.softReset.stab.biasY = s.stab.biasY ∧
    s.softReset.stab.grade = s.stab.grade ∧ s.softReset.stab.gyro.isSome ∧
    s.softReset.stab.state = (if s.stab.cause = .none then s.softReset.derivedState else .faulted) ∧
    (s.stab.state = .calibrating → s.softReset.stab.cal = { s.stab.cal with status := .aborted, limit := none }) := by
  have hbase : s.resetRecords.resetStore.stab = s.stab := by simp [s.resetRecords_kept]
  have hreset := s.resetRecords.resetStore.resetStab_spec
  rw [hbase, ← s.resetBlocks_cleared.stab] at hreset
  have hstab : s.softReset.stab = s.resetBlocks.derive.stab := by
    rw [s.softReset_resumed.stab, s.resetBlocks.planAnew_planned.stab]
  have hderived := s.softReset_derivedState
  generalize s.softReset = t at hstab hderived ⊢
  generalize s.resetBlocks = w at hreset hstab hderived
  obtain ⟨hx, hy, hbacklog, hurgent, hflag, hcause, hbiasX, hbiasY, hgrade, hgyro, hstate, hcal⟩ := hreset
  obtain ⟨hxT, hyT, hbacklogT, hurgentT⟩ := State.derive_axes (s := w) (by rw [hstate]; split <;> decide) hbacklog
  rw [hstab, hderived]
  refine ⟨hxT.trans hx, hyT.trans hy, hbacklogT, hurgentT.trans hurgent, ?_, ?_, ?_, ?_, ?_, ?_, ?_, fun h => ?_⟩
  · simpa using hflag
  · simpa using hcause
  · simpa using hbiasX
  · simpa using hbiasY
  · simpa using hgrade
  · simpa using hgyro
  · rw [State.derive_state, hstate]
    split <;> simp
  · simpa using hcal h

/-- R158. -/
theorem State.softReset_store (s : State) : s.softReset.store.streams = PerPort.all none ∧ s.softReset.store.fifos = PerPort.all [] ∧
    s.softReset.store.cut = PerPort.all false ∧ s.softReset.store.ring2 = .a ∧
    (s.store.grant.isSome → s.softReset.store.ring1 = .ingest) ∧ s.softReset.store.slots = s.store.slots.map Slot.softReset ∧
    s.softReset.store.buf = s.store.softReset.buf ∧ s.softReset.store.dram = s.store.dram ∧
    (s.store.state ≠ .selfRefresh → s.softReset.store.state = s.store.state ∧ s.softReset.store.backlog = s.store.backlog ∧
      s.softReset.store.trickle = s.store.trickle) ∧
    (s.store.state = .selfRefresh → s.softReset.store.state = .ready ∧ s.softReset.store.backlog = 3) := by
  obtain ⟨-, hstore, hfc⟩ := s.resetRecords_kept
  have hreset := State.resetStore_spec (s := s.resetRecords) (by rw [hfc]; exact (by decide : Cadence.liveFast ≠ .still))
  rw [hstore] at hreset
  rw [s.softReset_resumed.store, s.resetBlocks.planAnew_planned.store, s.resetBlocks_cleared.store]
  exact hreset

/-- R172. -/
theorem State.softReset_rq (s : State) : s.softReset.rq.queue = s.rq.queue ∧
    s.softReset.rq.opened = (if s.inFlight then none else s.rq.opened) ∧
    s.softReset.rq.stale = if 0 < s.rq.queue.length ∧ s.rq.queue.length < s.settingNat ixReadyThreshold
      then some (s.clock + ms (10 * s.settingNat ixStaleTime)) else none := by
  obtain ⟨-, hrq, -, -, hsettings, hclock, -⟩ := s.resetFrames_kept
  have hreset := s.resetFrames.recordSoftReset_spec s.inFlight
  rw [hrq, hclock, State.settingNat, State.settingNat, State.setting, State.setting, hsettings] at hreset
  rw [s.softReset_resumed.rq, s.resetBlocks.planAnew_planned.rq, s.resetBlocks_cleared.rq]
  exact hreset

end Sys2Proof.Machine
end

section
/-! SOFT RESET: Lens Drive and the planner's request for the iris (R59, R87), and the whole (R182). -/

namespace Sys2Proof.Machine

/-! ### Lens Drive (R87) -/

/-- Lens Drive before the planner's runs. -/
theorem State.resetBlocks_lens (s : State) :
    (s.lens.state = .ready ∨ s.lens.state = .extending ∨ s.lens.state = .retracting →
      s.resetBlocks.lens.zoom = s.lens.zoom.stop ∧ s.resetBlocks.lens.focus = s.lens.focus.stop ∧
      s.resetBlocks.lens.iris = s.lens.iris.stop ∧
      s.resetBlocks.lens.state = if s.lens.state = .ready then .ready else .intermediate) ∧
    (s.lens.state ∈ [LensState.homing, .stowed, .intermediate, .faulted] → s.resetBlocks.lens = s.lens) ∧
    s.resetBlocks.lens.iv = s.lens.iv := by
  have hlens : s.resetLinks.fcSoftReset.lens = s.lens := by simp [State.resetLinks]
  rw [s.resetBlocks_cleared.lens]
  generalize s.resetLinks.fcSoftReset = u at hlens
  refine ⟨fun h => ?_, fun h => ?_, ?_⟩
  · rw [← hlens] at h ⊢
    exact State.lensSoftReset_moving h
  · rw [← hlens] at h ⊢
    exact State.lensSoftReset_other h
  · rw [State.lensSoftReset_iv, hlens]

/-- Outside Ready the planner's runs leave the iris. -/
theorem State.planAnew_iris {s : State} (h : s.lens.state ≠ .ready) : s.planAnew.lens.iris = s.lens.iris := by
  simp [State.planAnew, h]

theorem State.softReset_lens_fixed (s : State) : s.softReset.lens.d = s.lens.d ∧ s.softReset.lens.iv = s.lens.iv ∧
    s.softReset.lens.cause = s.lens.cause ∧ s.softReset.lens.slip = s.lens.slip ∧ s.softReset.lens.iris.pos = s.lens.iris.pos := by
  have hiv : s.softReset.lens.iv = s.lens.iv := by
    rw [s.softReset_resumed.lens, s.resetBlocks.planAnew_planned.iv, s.resetBlocks_lens.2.2]
  simp [hiv]

/-- In Homing, Stowed, Intermediate and Faulted Lens Drive stays. -/
theorem State.softReset_lens_resting {s : State} (h : s.lens.state ∈ [LensState.homing, .stowed, .intermediate, .faulted]) :
    s.softReset.lens.state = s.lens.state ∧ s.softReset.lens.zoom = s.lens.zoom ∧ s.softReset.lens.focus = s.lens.focus ∧
    s.softReset.lens.iris = s.lens.iris := by
  obtain ⟨-, hresting, -⟩ := s.resetBlocks_lens
  have hnot : s.resetBlocks.lens.state ≠ .ready := by
    rw [hresting h]
    rintro hready
    exact absurd (hready ▸ h) (by decide)
  have hiris := State.planAnew_iris hnot
  obtain ⟨hzoom, hfocus⟩ := s.resetBlocks.planAnew_planned.motors
  have hstate := s.resetBlocks.planAnew_planned.lensState
  rw [hresting h] at hiris hzoom hfocus hstate
  rw [s.softReset_resumed.lens]
  exact ⟨hstate, hzoom, hfocus, hiris⟩

/-- In the other states zoom and focus stop where they are. -/
theorem State.softReset_lens_stopped {s : State} (h : s.lens.state = .ready ∨ s.lens.state = .extending ∨ s.lens.state = .retracting) :
    s.softReset.lens.zoom = s.lens.zoom.stop ∧ s.softReset.lens.focus = s.lens.focus.stop ∧
    s.softReset.lens.state = if s.lens.state = .ready then .ready else .intermediate := by
  obtain ⟨hzoom, hfocus, -, hstate⟩ := s.resetBlocks_lens.1 h
  obtain ⟨hzoomZ, hfocusZ⟩ := s.resetBlocks.planAnew_planned.motors
  rw [s.softReset_resumed.lens]
  exact ⟨hzoomZ.trans hzoom, hfocusZ.trans hfocus, s.resetBlocks.planAnew_planned.lensState.trans hstate⟩

theorem State.softReset_iris_driven {s : State} (h : s.lens.state = .extending ∨ s.lens.state = .retracting) :
    s.softReset.lens.iris = s.lens.iris.stop := by
  obtain ⟨-, -, hiris, hstate⟩ := s.resetBlocks_lens.1 (.inr h)
  have hnot : s.resetBlocks.lens.state ≠ .ready := by
    rcases h with h | h <;> simp [hstate, h]
  rw [s.softReset_resumed.lens, State.planAnew_iris hnot, hiris]

/-- In Ready the iris stops, then moves only where the planner's runs ask for another p. -/
theorem State.softReset_iris_ready {s : State} (h : s.lens.state = .ready) : s.softReset.lens.iris.pending = none ∧
    (∀ p, p = s.softReset.ep.capPlan.p → 0 ≤ p → s.ep.given.isSome → s.lens.iris.pos ≠ some p →
      s.softReset.lens.iris.target = some p ∧ s.softReset.lens.iris.inFlight = true ∧ s.softReset.lens.iris.origin = .planner) ∧
    (s.ep.given = none ∨ s.lens.iris.pos = some s.softReset.ep.capPlan.p → s.softReset.lens.iris = s.lens.iris.stop) := by
  obtain ⟨-, -, hiris, hstate⟩ := s.resetBlocks_lens.1 (.inl h)
  rw [if_pos h] at hstate
  have hidle : s.resetBlocks.fc.state = .idle := by
    rw [s.resetBlocks_cleared.fc]
    exact s.resetLinks.fcSoftReset_fc.1
  have hgiven : s.resetBlocks.planAnew.ep.given = s.ep.given := by
    obtain ⟨-, -, -, -, hgiven⟩ := s.resetBlocks.planAnew_planned.metering
    rw [hgiven, s.resetBlocks_cleared.ep]
    rfl
  obtain ⟨⟨hquiet, -, hpending, hasked⟩, hreaches⟩ := State.planAnew_asked hidle hstate
  obtain ⟨x, hep, -⟩ := s.softReset_resumed.ep
  have hplan : s.softReset.ep.capPlan = s.resetBlocks.planAnew.ep.capPlan := by rw [hep]
  rw [s.softReset_resumed.lens, hplan]
  rw [hiris] at hquiet hpending hasked
  generalize s.resetBlocks.planAnew = z at *
  refine ⟨hpending, ?_, ?_⟩
  · rintro p rfl hnonneg hsome hpos
    have hrun : z.runP.isSome := by simpa [State.runP, hgiven] using hsome
    obtain ⟨q, hq⟩ := Option.isSome_iff_exists.1 hrun
    obtain ⟨hp, htarget⟩ := hreaches q hq
    rw [hp] at hnonneg hpos ⊢
    rcases hasked q hq hnonneg with hsame | ⟨hreached, horigin, hflight⟩
    · have hstill : s.lens.iris.pos = some q := by
        rw [← htarget hnonneg, hsame]
        rfl
      exact absurd hstill hpos
    · exact ⟨hreached, hflight.trans (decide_eq_true hpos), horigin⟩
  · intro hnone
    apply hquiet
    cases hq : z.runP with
    | none => exact .inl rfl
    | some q =>
      obtain ⟨hp, -⟩ := hreaches q hq
      have hsome : s.ep.given ≠ none := by
        rintro hnot
        rw [State.runP, hgiven, hnot] at hq
        exact absurd hq (by simp)
      exact .inr (hp ▸ hnone.resolve_left hsome)

/-! ### Focus Search and the store's slots (R108, R158) -/

theorem State.softReset_af (s : State) : s.softReset.af = s.af.softReset := by
  rw [s.softReset_resumed.af, s.resetBlocks.planAnew_planned.af, s.resetBlocks_cleared.af]

/-- SOFT RESET leaves the clock, the settings, the DRAM, the loader, the outside's choices and the transactions. -/
theorem State.softReset_onlyChanged (s : State) :
    onlyChanged [.frames, .statistics, .planner, .lens, .focus, .stabilizer, .store, .records, .events] s s.softReset := by
  obtain ⟨-, -, -, -, -, -, -, hdram, -⟩ := s.softReset_store
  have hlinks : s.softReset.links.txn = s.links.txn := by simp
  obtain ⟨hpending, hclock, hsettings, hloader, hepoch, hfree⟩ := s.softReset_frame
  generalize s.softReset = t at *
  refine ⟨hpending, hepoch, fun y hy => ?_⟩
  cases y with
  | clock => exact hclock
  | settings => exact hsettings
  | loader => exact hloader
  | choices => exact hfree
  | memory => exact fun a => by rw [State.dramByte, State.dramByte, hdram, hepoch]
  | transaction q => exact congrArg (PerPort.get · q) hlinks
  | _ => exact absurd hy (by decide)

theorem exec_softReset (s : State) (p : Port) :
    exec (.softReset p []) s = .next ((answer s.begin.softReset .ok).sendTo p) := by
  change execSoftReset p [] s = _
  rw [execSoftReset, show lengthIs 0 [] = true from rfl, State.request_ok]

/-- Settles O56: block by block, from the stages of the reset. -/
theorem softResetClearsTheBlocks : Obligations.SoftResetClearsTheBlocks := by
  intro s p
  have hexec := exec_softReset s p
  have hchanged := onlyChanged_of_begin s.begin.softReset_onlyChanged
  have hlinks := s.begin.softReset_links
  obtain ⟨hstate, howed, hcontinuous, hcount, hprepare, hcadence, hframe, hcap, hquiet2, hquiet1, hquiet, hopen⟩ := s.begin.softReset_fc
  obtain ⟨hinEffect, hfseq, hcapNo, -⟩ := s.begin.softReset_fields
  have hst := s.begin.softReset_st
  have hep := s.begin.softReset_ep
  obtain ⟨hd, hiv, hcause, hslip, hpos⟩ := s.begin.softReset_lens_fixed
  have hready (h : s.lens.state = .ready) := State.softReset_iris_ready (s := s.begin) h
  have hdriven (h : s.lens.state = .extending ∨ s.lens.state = .retracting) := State.softReset_iris_driven (s := s.begin) h
  have hstopped (h : s.lens.state = .ready ∨ s.lens.state = .extending ∨ s.lens.state = .retracting) :=
    State.softReset_lens_stopped (s := s.begin) h
  have hresting (h : s.lens.state ∈ [LensState.homing, .stowed, .intermediate, .faulted]) :=
    State.softReset_lens_resting (s := s.begin) h
  have haf := s.begin.softReset_af
  have hstab := s.begin.softReset_stab
  obtain ⟨hstreams, hfifos, hcut, hring2, hring1, hslots, hbuf, -, hawake, hasleep⟩ := s.begin.softReset_store
  obtain ⟨hbufKept, hbufTaken, hbufFiltered⟩ := s.store.softReset_buf
  have hrq := s.begin.softReset_rq
  generalize s.begin.softReset = t at *
  refine answers_of_sendTo (answer t .ok) hexec rfl hchanged ⟨hlinks,
    ⟨hstate, hfseq, hcapNo, hinEffect, howed, hcontinuous, hcount, hprepare, hcadence, hframe, hcap, hquiet2, hquiet1, hquiet, hopen⟩,
    hst, hep, ⟨hd, hiv, hcause, hslip, hpos, fun h => ?iris, hdriven, hstopped, hresting⟩, ?focus, hstab,
    ⟨hstreams, hfifos, hcut, hring2, hring1, hawake, hasleep, fun h => hbuf.trans (hbufKept h), fun h => hbuf.trans (hbufTaken h),
      fun i hi hothers hown => hbuf.trans (hbufFiltered i hi hothers hown), fun i x hx => ?slots⟩, hrq⟩
  case iris =>
    obtain ⟨hpending, hmoves, hstays⟩ := hready h
    exact ⟨hpending, fun q hq hnonneg _ => hmoves q hq hnonneg, hstays⟩
  case focus => exact haf ▸ ⟨rfl, rfl, rfl, rfl, rfl, rfl, rfl, rfl⟩
  case slots =>
    have hslot : t.store.slots[i]? = some x.softReset := by
      rw [hslots, List.getElem?_map]
      exact congrArg (Option.map Slot.softReset) hx
    refine hslot.trans (congrArg some ?_)
    unfold Slot.softReset
    cases x.state <;> rfl

end Sys2Proof.Machine
end
